-- ==== Sys2Proof/Word.lean ====
section
/-! DEFINITION. The word types of the FS16: bytes that cross a port, floor time, station numbers and
the count of reference-clock ticks in which the model keeps every timer. -/

namespace Sys2Proof

/-- One byte of a message, frame or record (R179). -/
abbrev Byte := BitVec 8

/-- Floor time: a 32-bit count of 100 µs ticks that wraps (R1, R33). -/
abbrev FloorTime := BitVec 32

/-- A station number, 0 to 15, as the four station straps give it (R2). -/
abbrev Station := Fin 16

/-- A number of reference-clock ticks of 100 µs, 1000 reference cycles each (R33). -/
abbrev Ticks := Nat

end Sys2Proof
end

