-- ==== Sys2Proof/Syntax.lean ====
section
/-! DEFINITION. The syntax: the named values that messages, frames and records carry, the nine floor
messages, and `Instr`, one constructor per row of spec/opcode_table.json. Operands that reach the part
through a port are the bytes that crossed it; the meanings parse and check them (R4, R54, R170). -/

namespace Sys2Proof

/-! ## Named values (R179) -/

inductive Mode where
  | off | inv | byp
deriving DecidableEq, Repr

/-- The qualified feedback mode of the FB-INV, FB-BYP pair (R41). -/
inductive FbMode where
  | off | inv | byp | invalid
deriving DecidableEq, Repr

inductive Source where
  | mains | battery
deriving DecidableEq, Repr

/-- The alignment state of a station's floor time (R38). -/
inductive Align where
  | alone | aligning | aligned
deriving DecidableEq, Repr

/-- The kind of a transfer activity record, as STATUS shows it (R85). -/
inductive ActKind where
  | none | proposed | following | armed | switching | mismatch
deriving DecidableEq, Repr

inductive Direction where
  | toBypass | toInverter
deriving DecidableEq, Repr

inductive ClaimKind where
  | test | service
deriving DecidableEq, Repr

/-- The cause of a forced transfer (R101). -/
inductive ForceCause where
  | host | overload | stageTransfer | split | interlock | inverterFault
deriving DecidableEq, Repr

/-- The reasons of refusals, objections, denials, losses and drops (R179). -/
inductive Reason where
  | isolated | wrongMode | busy | linkMuted | notAligned | testRunning | bypassUnavailable | hold
  | maintClosed | notReady | capacity | outputOpen | resultPending | claimHeld | onBattery | breakers
  | notIsolated | notConfigured | testBusy | floorBusy | margin | objected | noConsent | late | notSent
  | superseded | fault | claimLost
deriving DecidableEq, Repr

/-- A proposal id: the proposing station and an 8-bit proposal sequence (R85). -/
structure PropId where
  station : Station
  seq     : Byte
deriving DecidableEq, Repr

/-- A claim as a STATUS shows it, or as a peer entry records it: not granted is CLAIMING in a STATUS
and PENDING in a record (R23, R24). -/
structure ShownClaim where
  kind    : ClaimKind
  time    : FloorTime
  granted : Bool
deriving DecidableEq, Repr

/-- The values that a STATUS reports of its sender and that step 3 of R22 writes into an entry. -/
structure Report where
  mode      : Mode
  isolated  : Bool
  maint     : Bool
  hold      : Bool
  source    : Source
  weak      : Bool
  senseLost : Bool
  align     : Align
  act       : ActKind
  propId    : Option PropId
  carrying  : Nat
  ready     : Nat
  load      : Nat
  health    : Nat
  runtime   : Nat
deriving DecidableEq, Repr

/-- The content of a STATUS message (R180). -/
structure StatusMsg where
  seq       : Byte
  prevStart : Option FloorTime
  report    : Report
  claim     : Option ShownClaim
deriving DecidableEq, Repr

/-- The content of the nine floor messages (R180). The sender stands in the header, not here. Reason
and cause codes are held as they are carried. -/
inductive Msg where
  | status (m : StatusMsg)
  | propose (seq : Byte) (dir : Direction) (proposedAt executeAt : FloorTime)
  | consent (id : PropId)
  | objectTransfer (id : PropId) (reason : Byte)
  | objectClaim (claimant : Station) (time : FloorTime) (reason : Byte)
  /-- An OBJECT whose subject is neither TRANSFER nor CLAIM: accepted, then discarded (R6). -/
  | objectOther (subject : Byte) (rest : List Byte)
  | order (id : PropId)
  | cancel (id : PropId) (reason : Byte)
  | force (cause : Byte)
  | claim (kind : ClaimKind) (time : FloorTime)
  | release (kind : ClaimKind) (time : FloorTime)
deriving DecidableEq, Repr

/-! ## Measurements (R54, R56) -/

/-- A valid sense frame as the SNS holds it: a temperature whose probe is not present, or whose value
lies outside −400 to +850, is absent (R56). -/
structure SenseFrame where
  seq      : Byte
  v        : Nat
  i        : Int
  p        : Nat
  t1       : Option Int
  t2       : Option Int
  t3       : Option Int
  t4       : Option Int
  mainsOk  : Bool
  invReady : Bool
deriving DecidableEq, Repr

/-! ## Lines (R40 to R48) -/

/-- The stage inputs that are qualified one by one (R40). -/
inductive StageInput where
  | invFault | overload | bypOk
deriving DecidableEq, Repr

/-- The five breaker contacts (R46). -/
inductive Contact where
  | input | bypassIn | output | battery | maint
deriving DecidableEq, Repr

/-- Every input line whose raw level the CLU watches. -/
inductive InputLine where
  | stage (line : StageInput)
  | fbInv
  | fbByp
  | contact (c : Contact)
  | alarmIn
deriving DecidableEq, Repr

/-- The line rate that the two rate straps select (R2). -/
inductive LineRate where
  | k125 | k250 | k500 | k1000
deriving DecidableEq, Repr

/-- How a readback mismatch came about (R11): the station drove recessive and sensed dominant, so that
another station's frame goes on; or it drove dominant and sensed recessive, a line or driver fault,
after which the line is still idle when no dominant bit of the attempt was sensed (R7), and carries a
frame otherwise. -/
inductive Mismatch where
  | sensedDominant
  | sensedRecessive (lineStayedIdle : Bool)
deriving DecidableEq, Repr

/-- The frame of the command in progress, its code byte first, and `closed`: the windows that closed while it
was taken, then those that closed while the frame of the waiting slot was taken, and so on (R167, the form is
a DESIGN CHOICE, log entry 17). -/
structure WaitingWindows where
  inProgress : List Byte
  closed : List (List (List Byte))
deriving DecidableEq, Repr

/-! ## The commands and events of the part -/

/-- One constructor per row of spec/opcode_table.json, in the table's order.

`window` is what a command window carried after its code byte: the argument length byte and the
argument bytes. `frame` is a floor message or a sense frame as it stood on its line, first byte first;
a fragment is a shorter list. -/
inductive Instr where
  | hardReset (stationStraps : BitVec 4) (rateStraps : BitVec 2)
  | readWindow (clocked : Nat)
  | waitingSlotTake (windows : WaitingWindows)
  | unknownCommand (code : Byte) (window : List Byte)
  | setFloor (window : List Byte)
  | setCabinet (window : List Byte)
  | loadAgeingTable (window : List Byte)
  | setProfile (window : List Byte)
  | loadCarryRecord (window : List Byte)
  | start (window : List Byte)
  | readStatus (window : List Byte)
  | readFloor (window : List Byte)
  | readPeer (window : List Byte)
  | clearPeerMarkers (window : List Byte)
  | readEvent (window : List Byte)
  | readCarryRecord (window : List Byte)
  | readDues (window : List Byte)
  | readVisitLog (window : List Byte)
  | readTestResult (window : List Byte)
  | silenceHorn (window : List Byte)
  | restart (window : List Byte)
  | transfer (window : List Byte)
  | forceBypass (window : List Byte)
  | join (window : List Byte)
  | runTest (window : List Byte)
  | continueTest (window : List Byte)
  | abortTest (window : List Byte)
  | openVisit (window : List Byte)
  | recordTask (window : List Byte)
  | closeVisit (window : List Byte)
  | cancelVisit (window : List Byte)
  | clearAlarmInput (window : List Byte)
  | lineIdle
  | slotAttempt (slot : Fin 64)
  | attemptFailed (mismatch : Mismatch)
  | attemptComplete
  | messageDiscarded (frame : List Byte)
  | ownMessageHeard (frame : List Byte)
  | duplicateStatus (frame : List Byte)
  | muteTimerExpiry
  | statusReceived (frame : List Byte)
  | presenceTimerExpiry (station : Station)
  | staleTimerExpiry (station : Station)
  | claimTimerExpiry (station : Station)
  | proposeReceived (frame : List Byte)
  | consentReceived (frame : List Byte)
  | transferObjectReceived (frame : List Byte)
  | orderReceived (frame : List Byte)
  | cancelReceived (frame : List Byte)
  | forceReceived (frame : List Byte)
  | claimReceived (frame : List Byte)
  | claimObjectReceived (frame : List Byte)
  | releaseReceived (frame : List Byte)
  | floorTick
  | slewTick
  | boundaryEvaluation
  | proposeLate
  | orderLate
  | orderMissed
  | transferExecute
  | responseWindowExpiry
  | switchTimeout
  | holdExpiry
  | overloadTimeout
  | lineRawChange (line : InputLine) (level : Bool)
  | stageInputQualified (line : StageInput)
  | feedbackQualified
  | deadIntervalEnd
  | contactQualified (contact : Contact)
  | alarmInputQualified
  | hornTermExpiry
  | validSenseFrame (frame : List Byte)
  | senseFrameRejected (frame : List Byte)
  | senseStaleTimeout
  | senseLostTimeout
  | operatingMinute
  | claimQueueTimeout
  | claimWindowExpiry
  | testStepTimerExpiry
  | pauseTimerExpiry
  | visitStepTimeout
  | joinRetryExpiry
  | startBitSensed
deriving DecidableEq, Repr

end Sys2Proof
end

