-- ==== Sys2Proof/Config.lean ====
section
/-! DEFINITION. The free values: what the manual leaves without a value although the part goes on.
None has a body, so nothing can be proved of which value it is. Each is marked DESIGN CHOICE in the
assumption log entry its docstring names. -/

namespace Sys2Proof.Config

/-- Whether a running timer whose remaining time is no whole number of milliseconds is shown rounded
up (true) or down (false) by READ STATUS: R182 gives the unit and no rounding (DESIGN CHOICE, log entry 7). -/
opaque roundsUpMs : Nat → Bool

/-- The reason a CANCEL carries for a PROPOSE that completed after its proposal was dropped with no
reason named (a FORCE, an unsolicited feedback change): R100 names none (DESIGN CHOICE, log entry 8). -/
opaque unnamedDropReason : BitVec 8

/-- The source that the detail of DUE_CLEARED carries for a verdict: R149 calls it TEST, and R179
gives no code for it (DESIGN CHOICE, log entry 9). -/
opaque testSourceCode : BitVec 16

/-- The cause that the detail of DUE_RAISED (FAULT_FOLLOWUP) carries for a dropout: R148 asks for the
cause, and the force causes of R179 have none for a dropout (DESIGN CHOICE, log entry 10). -/
opaque dropoutCauseCode : BitVec 8

/-- The requester that READ STATUS carries with the own claim record, TSQ or VSM by the kind of the claim:
R112 lists it, and R179 gives it no code (DESIGN CHOICE, log entry 26). -/
opaque requesterCode : ClaimKind → BitVec 8

end Sys2Proof.Config
end

