-- ==== Sys2Proof/WellFormed.lean ====
section
/-! DEFINITION. Well-formed commands: the operands that the ports of the part can carry. A well-formed
frame operand is of the kind its row names; whether it passes every check of reception is the
meaning's to say (R4, R54, R170). -/

namespace Sys2Proof

/-- A command window carries at most one length byte and 255 argument bytes after its code (R167). -/
def windowFits (window : List Byte) : Bool := decide (window.length ≤ 256)

/-- The kind code in a floor frame's first header byte (R180). -/
def frameKind (frame : List Byte) : Option Nat :=
  match frame with
  | _ :: header :: _ => some (header.toNat / 16)
  | _ => none

/-- A floor frame that opens with the start byte and names the given kind, and is no longer than the
longest message: start byte, two header bytes, 32 payload bytes and the CRC (R4, R180). -/
def frameOfKind (kind : Nat) (frame : List Byte) : Bool :=
  decide (frame.head? = some 0xA5#8) && decide (frameKind frame = some kind) && decide (frame.length ≤ 37)

/-- The subject code of an OBJECT frame: the first payload byte (R180). -/
def frameSubject (frame : List Byte) : Option Byte := frame[3]?

/-- The codes that name a command (R182). -/
def namesCommand (code : Byte) : Bool :=
  let n := code.toNat
  decide ((1 ≤ n ∧ n ≤ 6) ∨ (0x10 ≤ n ∧ n ≤ 0x1A) ∨ (0x20 ≤ n ∧ n ≤ 0x2A))

/-- The operand checks of every command. -/
def Instr.wf (i : Instr) : Bool :=
  match i with
  | .hardReset _ _ => true
  | .readWindow _ => true
  | .waitingSlotTake windows =>
    decide (1 ≤ windows.inProgress.length ∧ windows.inProgress.length ≤ 257
        ∧ windows.inProgress.head? ≠ some 0xFF#8)
      && windows.closed.all fun round => round.all fun w => decide (w.length ≤ 257)
  | .unknownCommand code window => !namesCommand code && decide (code ≠ 0xFF#8) && windowFits window
  | .setFloor window => windowFits window
  | .setCabinet window => windowFits window
  | .loadAgeingTable window => windowFits window
  | .setProfile window => windowFits window
  | .loadCarryRecord window => windowFits window
  | .start window => windowFits window
  | .readStatus window => windowFits window
  | .readFloor window => windowFits window
  | .readPeer window => windowFits window
  | .clearPeerMarkers window => windowFits window
  | .readEvent window => windowFits window
  | .readCarryRecord window => windowFits window
  | .readDues window => windowFits window
  | .readVisitLog window => windowFits window
  | .readTestResult window => windowFits window
  | .silenceHorn window => windowFits window
  | .restart window => windowFits window
  | .transfer window => windowFits window
  | .forceBypass window => windowFits window
  | .join window => windowFits window
  | .runTest window => windowFits window
  | .continueTest window => windowFits window
  | .abortTest window => windowFits window
  | .openVisit window => windowFits window
  | .recordTask window => windowFits window
  | .closeVisit window => windowFits window
  | .cancelVisit window => windowFits window
  | .clearAlarmInput window => windowFits window
  | .lineIdle => true
  | .slotAttempt _ => true
  | .attemptFailed _ => true
  | .attemptComplete => true
  | .messageDiscarded _ => true
  | .ownMessageHeard frame => decide (frame.head? = some 0xA5#8) && !frameOfKind 1 frame
  | .duplicateStatus frame => frameOfKind 1 frame
  | .muteTimerExpiry => true
  | .statusReceived frame => frameOfKind 1 frame
  | .presenceTimerExpiry _ => true
  | .staleTimerExpiry _ => true
  | .claimTimerExpiry _ => true
  | .proposeReceived frame => frameOfKind 2 frame
  | .consentReceived frame => frameOfKind 3 frame
  | .transferObjectReceived frame => frameOfKind 4 frame && decide (frameSubject frame = some 1#8)
  | .orderReceived frame => frameOfKind 5 frame
  | .cancelReceived frame => frameOfKind 6 frame
  | .forceReceived frame => frameOfKind 7 frame
  | .claimReceived frame => frameOfKind 8 frame
  | .claimObjectReceived frame => frameOfKind 4 frame && decide (frameSubject frame = some 2#8)
  | .releaseReceived frame => frameOfKind 9 frame
  | .floorTick => true
  | .slewTick => true
  | .boundaryEvaluation => true
  | .proposeLate => true
  | .orderLate => true
  | .orderMissed => true
  | .transferExecute => true
  | .responseWindowExpiry => true
  | .switchTimeout => true
  | .holdExpiry => true
  | .overloadTimeout => true
  | .lineRawChange _ _ => true
  | .stageInputQualified _ => true
  | .feedbackQualified => true
  | .deadIntervalEnd => true
  | .contactQualified _ => true
  | .alarmInputQualified => true
  | .hornTermExpiry => true
  | .validSenseFrame frame => decide (frame.head? = some 0xC3#8) && decide (frame.length = 18)
  | .senseFrameRejected _ => true
  | .senseStaleTimeout => true
  | .senseLostTimeout => true
  | .operatingMinute => true
  | .claimQueueTimeout => true
  | .claimWindowExpiry => true
  | .testStepTimerExpiry => true
  | .pauseTimerExpiry => true
  | .visitStepTimeout => true
  | .joinRetryExpiry => true
  | .startBitSensed => true

end Sys2Proof
end

