-- ==== Sys2Proof/Decode.lean ====
section
/-! DEFINITION. Reading and writing bits: bytes and codes (R179), the two CRCs (R5, R55), the floor
messages both ways (R180), the sense frame (R181) and the command window (R182). Every reader is total
on any bytes and names what it rejects. The opcode table gives its rows no bits, so
`decodeTableWord` reads no word. -/

namespace Sys2Proof

/-! ## Bytes, most significant first (R179) -/

def u8 (n : Nat) : List Byte := [BitVec.ofNat 8 n]

def u16 (n : Nat) : List Byte := [BitVec.ofNat 8 (n / 256), BitVec.ofNat 8 n]

def u32 (n : Nat) : List Byte :=
  [BitVec.ofNat 8 (n / 16777216), BitVec.ofNat 8 (n / 65536), BitVec.ofNat 8 (n / 256), BitVec.ofNat 8 n]

/-- Two's complement in two bytes. -/
def i16 (i : Int) : List Byte := u16 (BitVec.ofInt 16 i).toNat

/-- Two's complement in four bytes. -/
def i32 (i : Int) : List Byte := u32 (BitVec.ofInt 32 i).toNat

def timeBytes (t : FloorTime) : List Byte := u32 t.toNat

def nat16 (a b : Byte) : Nat := a.toNat * 256 + b.toNat

def nat32 (a b c d : Byte) : Nat :=
  a.toNat * 16777216 + b.toNat * 65536 + c.toNat * 256 + d.toNat

def int16 (a b : Byte) : Int := (BitVec.ofNat 16 (nat16 a b)).toInt

def timeOf (a b c d : Byte) : FloorTime := BitVec.ofNat 32 (nat32 a b c d)

/-- A flag as its bit's weight. -/
def bitAt (b : Bool) (k : Nat) : Nat := if b then 2 ^ k else 0

/-- A flag in a byte of its own. R182 and R183 have a set flag non-zero and leave the value open: it is sent as 1
(DESIGN CHOICE, log entry 30). -/
def flagByte (b : Bool) : List Byte := u8 (if b then 1 else 0)

/-- The state of a line, a contact or the horn: 1 for active, closed or SOUNDING (R179). -/
def levelByte (b : Bool) : List Byte := u8 (if b then 1 else 0)

/-- A station number is carried in a byte and is bad above 15 (R180). -/
def stationOf (b : Byte) : Option Station :=
  if h : b.toNat < 16 then some ⟨b.toNat, h⟩ else none

/-! ## Codes (R179) -/

def Mode.code : Mode → Nat
  | .off => 0 | .inv => 1 | .byp => 2

def Mode.ofCode (n : Nat) : Option Mode :=
  if n = 0 then some .off else if n = 1 then some .inv else if n = 2 then some .byp else none

def FbMode.code : FbMode → Nat
  | .off => 0 | .inv => 1 | .byp => 2 | .invalid => 3

def Source.code : Source → Nat
  | .mains => 0 | .battery => 1

def Align.code : Align → Nat
  | .alone => 0 | .aligning => 1 | .aligned => 2

def Align.ofCode (n : Nat) : Option Align :=
  if n = 0 then some .alone else if n = 1 then some .aligning else if n = 2 then some .aligned else none

def ActKind.code : ActKind → Nat
  | .none => 0 | .proposed => 1 | .following => 2 | .armed => 3 | .switching => 4 | .mismatch => 5

def ActKind.ofCode (n : Nat) : Option ActKind :=
  if n = 0 then some .none else if n = 1 then some .proposed else if n = 2 then some .following
  else if n = 3 then some .armed else if n = 4 then some .switching else if n = 5 then some .mismatch
  else Option.none

def Direction.code : Direction → Nat
  | .toBypass => 1 | .toInverter => 2

def Direction.ofCode (n : Nat) : Option Direction :=
  if n = 1 then some .toBypass else if n = 2 then some .toInverter else none

def ClaimKind.code : ClaimKind → Nat
  | .test => 1 | .service => 2

def ClaimKind.ofCode (n : Nat) : Option ClaimKind :=
  if n = 1 then some .test else if n = 2 then some .service else none

def ForceCause.code : ForceCause → Nat
  | .host => 1 | .overload => 2 | .stageTransfer => 3 | .split => 4 | .interlock => 5 | .inverterFault => 6

def Reason.code : Reason → Nat
  | .isolated => 1 | .wrongMode => 2 | .busy => 3 | .linkMuted => 4 | .notAligned => 5
  | .testRunning => 6 | .bypassUnavailable => 7 | .hold => 8 | .maintClosed => 9 | .notReady => 10
  | .capacity => 11 | .outputOpen => 12 | .resultPending => 13 | .claimHeld => 14 | .onBattery => 15
  | .breakers => 16 | .notIsolated => 17 | .notConfigured => 18 | .testBusy => 19 | .floorBusy => 20
  | .margin => 21 | .objected => 22 | .noConsent => 23 | .late => 24 | .notSent => 25
  | .superseded => 26 | .fault => 27 | .claimLost => 28

def Reason.byte (r : Reason) : Byte := BitVec.ofNat 8 r.code

def LineRate.code : LineRate → Nat
  | .k125 => 0 | .k250 => 1 | .k500 => 2 | .k1000 => 3

/-- The line rate of the two rate straps, high strap first (R2). -/
def LineRate.ofStraps (straps : BitVec 2) : LineRate :=
  if straps = 0#2 then .k125 else if straps = 1#2 then .k250 else if straps = 2#2 then .k500 else .k1000

def StageInput.all : List StageInput := [.invFault, .overload, .bypOk]

def Contact.code : Contact → Nat
  | .input => 1 | .bypassIn => 2 | .output => 3 | .battery => 4 | .maint => 5

/-! ## The CRCs -/

/-- One step of the CRC-16 with generator x¹⁶ + x¹² + x⁵ + 1, most significant bit first (R5). -/
def crc16Bit (reg : BitVec 16) (b : Bool) : BitVec 16 :=
  if reg.msb != b then (reg <<< 1) ^^^ 0x1021#16 else reg <<< 1

def crc16Byte (reg : BitVec 16) (x : Byte) : BitVec 16 :=
  [7, 6, 5, 4, 3, 2, 1, 0].foldl (fun r k => crc16Bit r (x.getLsbD k)) reg

/-- The CRC-16 of R5: the register is preset to all ones and not inverted at the end. -/
def crc16 (bytes : List Byte) : BitVec 16 := bytes.foldl crc16Byte 0xFFFF#16

/-- One step of the CRC-8 with generator x⁸ + x² + x + 1, most significant bit first (R55). -/
def crc8Bit (reg : BitVec 8) (b : Bool) : BitVec 8 :=
  if reg.msb != b then (reg <<< 1) ^^^ 0x07#8 else reg <<< 1

def crc8Byte (reg : BitVec 8) (x : Byte) : BitVec 8 :=
  [7, 6, 5, 4, 3, 2, 1, 0].foldl (fun r k => crc8Bit r (x.getLsbD k)) reg

/-- The CRC-8 of R55: preset to zero, no final inversion. -/
def crc8 (bytes : List Byte) : BitVec 8 := bytes.foldl crc8Byte 0#8

/-! ## Floor messages (R180) -/

/-- The kind code in the header. -/
def Msg.kindCode : Msg → Nat
  | .status _ => 1
  | .propose _ _ _ _ => 2
  | .consent _ => 3
  | .objectTransfer _ _ => 4
  | .objectClaim _ _ _ => 4
  | .objectOther _ _ => 4
  | .order _ => 5
  | .cancel _ _ => 6
  | .force _ => 7
  | .claim _ _ => 8
  | .release _ _ => 9

def PropId.bytes (id : PropId) : List Byte := u8 id.station.val ++ [id.seq]

/-- Byte 1 of a STATUS payload. -/
def Report.flags1 (r : Report) : Nat :=
  r.mode.code + bitAt r.isolated 2 + bitAt r.maint 3 + bitAt r.hold 4
    + bitAt (decide (r.source = .battery)) 5 + bitAt r.weak 6 + bitAt r.senseLost 7

/-- Byte 2 of a STATUS payload. -/
def StatusMsg.flags2 (m : StatusMsg) : Nat :=
  m.report.act.code + 8 * m.report.align.code + bitAt m.prevStart.isSome 5
    + bitAt m.report.propId.isSome 6 + bitAt m.claim.isSome 7

def ShownClaim.bytes (c : ShownClaim) : List Byte :=
  u8 (c.kind.code + bitAt c.granted 2) ++ timeBytes c.time

def StatusMsg.payload (m : StatusMsg) : List Byte :=
  [m.seq] ++ u8 m.report.flags1 ++ u8 m.flags2
    ++ u16 m.report.carrying ++ u16 m.report.ready ++ u16 m.report.load
    ++ u16 m.report.health ++ u16 m.report.runtime
    ++ (match m.prevStart with | some t => timeBytes t | none => [])
    ++ (match m.report.propId with | some id => id.bytes | none => [])
    ++ (match m.claim with | some c => c.bytes | none => [])

def Msg.payload : Msg → List Byte
  | .status m => m.payload
  | .propose seq dir at_ exec => [seq] ++ u8 dir.code ++ timeBytes at_ ++ timeBytes exec
  | .consent id => id.bytes
  | .objectTransfer id reason => u8 1 ++ id.bytes ++ [reason]
  | .objectClaim claimant time reason => u8 2 ++ u8 claimant.val ++ timeBytes time ++ [reason]
  | .objectOther subject rest => subject :: rest
  | .order id => id.bytes
  | .cancel id reason => id.bytes ++ [reason]
  | .force cause => [cause]
  | .claim kind time => u8 kind.code ++ timeBytes time
  | .release kind time => u8 kind.code ++ timeBytes time

/-- The two header bytes and the payload: what the CRC covers (R4, R5). -/
def Msg.covered (sender : Station) (m : Msg) : List Byte :=
  u8 (m.kindCode * 16 + sender.val) ++ u8 m.payload.length ++ m.payload

/-- A message as the station drives it: start byte, header, payload, CRC high byte first (R5, R180). -/
def encodeFloorFrame (sender : Station) (m : Msg) : List Byte :=
  [0xA5#8] ++ m.covered sender ++ u16 (crc16 (m.covered sender)).toNat

/-- What a receiver makes of the characters of one message (R4). Only `accepted` is ever delivered. -/
inductive FloorRx where
  /-- The first character after idle is not the start byte. -/
  | noStart
  /-- Reception ended before the message was complete (R3). -/
  | fragment
  | badKind
  | badLength
  | badCrc
  | accepted (sender : Station) (m : Msg)
deriving DecidableEq, Repr

/-- The payload lengths that the kinds allow (R180). -/
def lengthAllowed (kind n : Nat) : Bool :=
  match kind with
  | 1 => [13, 15, 17, 18, 19, 20, 22, 24].contains n
  | 2 => n == 10
  | 3 => n == 2
  | 4 => n == 4 || n == 7
  | 5 => n == 2
  | 6 => n == 3
  | 7 => n == 1
  | 8 => n == 5
  | 9 => n == 5
  | _ => false

/-- An optional floor time: four bytes when its presence bit is set. -/
def takeTime (present : Bool) (l : List Byte) : Option (Option FloorTime × List Byte) :=
  if present then
    match l with
    | a :: b :: c :: d :: rest => some (some (timeOf a b c d), rest)
    | _ => none
  else some (none, l)

/-- An optional proposal id: station, then sequence. -/
def takePropId (present : Bool) (l : List Byte) : Option (Option PropId × List Byte) :=
  if present then
    match l with
    | a :: b :: rest =>
      match stationOf a with
      | some st => some (some { station := st, seq := b }, rest)
      | none => none
    | _ => none
  else some (none, l)

/-- An optional claim: kind in bits 0 and 1, state in bit 2, then the claim time. -/
def takeClaim (present : Bool) (l : List Byte) : Option (Option ShownClaim × List Byte) :=
  if present then
    match l with
    | x :: a :: b :: c :: d :: rest =>
      match ClaimKind.ofCode (x.toNat % 4) with
      | some kind => some (some { kind := kind, time := timeOf a b c d, granted := x.getLsbD 2 }, rest)
      | none => none
    | _ => none
  else some (none, l)

/-- The optional fields of a STATUS, which must fill the payload exactly. -/
def takeOptional (flags2 : Byte) (l : List Byte) :
    Option (Option FloorTime × Option PropId × Option ShownClaim) :=
  match takeTime (flags2.getLsbD 5) l with
  | none => none
  | some (prev, l1) =>
    match takePropId (flags2.getLsbD 6) l1 with
    | none => none
    | some (id, l2) =>
      match takeClaim (flags2.getLsbD 7) l2 with
      | some (claim, []) => some (prev, id, claim)
      | _ => none

def parseStatus (l : List Byte) : Option StatusMsg :=
  match l with
  | sq :: f1 :: f2 :: c1 :: c2 :: r1 :: r2 :: l1 :: l2 :: h1 :: h2 :: t1 :: t2 :: rest =>
    match Mode.ofCode (f1.toNat % 4), ActKind.ofCode (f2.toNat % 8), Align.ofCode (f2.toNat / 8 % 4),
        takeOptional f2 rest with
    | some mode, some act, some align, some (prev, id, claim) =>
      some
        { seq := sq
          prevStart := prev
          claim := claim
          report :=
            { mode := mode
              isolated := f1.getLsbD 2
              maint := f1.getLsbD 3
              hold := f1.getLsbD 4
              source := if f1.getLsbD 5 then .battery else .mains
              weak := f1.getLsbD 6
              senseLost := f1.getLsbD 7
              align := align
              act := act
              propId := id
              carrying := nat16 c1 c2
              ready := nat16 r1 r2
              load := nat16 l1 l2
              health := nat16 h1 h2
              runtime := nat16 t1 t2 } }
    | _, _, _, _ => none
  | _ => none

/-- The payload of an OBJECT: its subject decides its length (R180). -/
def parseObject (l : List Byte) : Option Msg :=
  match l with
  | subject :: rest =>
    if subject = 1#8 then
      match rest with
      | [st, sq, reason] =>
        (stationOf st).map fun p => .objectTransfer { station := p, seq := sq } reason
      | _ => none
    else if subject = 2#8 then
      match rest with
      | [st, a, b, c, d, reason] => (stationOf st).map fun p => .objectClaim p (timeOf a b c d) reason
      | _ => none
    else some (.objectOther subject rest)
  | [] => none

/-- The payload of one kind. `none` is a bad length: R180 counts a field outside its codes as one. -/
def parsePayload (kind : Nat) (l : List Byte) : Option Msg :=
  match kind, l with
  | 1, l => (parseStatus l).map .status
  | 2, [sq, dir, a, b, c, d, e, f, g, h] =>
    (Direction.ofCode dir.toNat).map fun dr => .propose sq dr (timeOf a b c d) (timeOf e f g h)
  | 3, [st, sq] => (stationOf st).map fun p => .consent { station := p, seq := sq }
  | 4, l => parseObject l
  | 5, [st, sq] => (stationOf st).map fun p => .order { station := p, seq := sq }
  | 6, [st, sq, reason] => (stationOf st).map fun p => .cancel { station := p, seq := sq } reason
  | 7, [cause] => some (.force cause)
  | 8, [kd, a, b, c, d] => (ClaimKind.ofCode kd.toNat).map fun k => .claim k (timeOf a b c d)
  | 9, [kd, a, b, c, d] => (ClaimKind.ofCode kd.toNat).map fun k => .release k (timeOf a b c d)
  | _, _ => none

/-- Reception of one message, from its first character to its trailing gap (R4, R5, R180). -/
def parseFloorFrame (frame : List Byte) : FloorRx :=
  match frame with
  | [] => .fragment
  | start :: chars =>
    if start ≠ 0xA5#8 then .noStart
    else
      match chars with
      | h1 :: h2 :: body =>
        if h1.toNat / 16 = 0 ∨ 9 < h1.toNat / 16 then .badKind
        else if lengthAllowed (h1.toNat / 16) h2.toNat = false then .badLength
        else if body.length < h2.toNat + 2 then .fragment
        else if h2.toNat + 2 < body.length then .badLength
        else if body.drop h2.toNat ≠ u16 (crc16 (h1 :: h2 :: body.take h2.toNat)).toNat then .badCrc
        else
          match parsePayload (h1.toNat / 16) (body.take h2.toNat) with
          | some m => .accepted (Fin.ofNat 16 (h1.toNat % 16)) m
          | none => .badLength
      | _ => .fragment

/-! ## The sense frame (R54 to R56, R181) -/

/-- What the SNS makes of the characters of one frame. -/
inductive SenseRx where
  | rejected
  /-- Accepted, but not valid: FE_FAULT is set (R55). -/
  | feFault
  | valid (f : SenseFrame)
deriving DecidableEq, Repr

/-- A probe's temperature as it is stored: absent without its flag or out of range (R56). -/
def probe (present : Bool) (a b : Byte) : Option Int :=
  if present && decide (-400 ≤ int16 a b) && decide (int16 a b ≤ 850) then some (int16 a b) else none

def parseSenseFrame (frame : List Byte) : SenseRx :=
  match frame with
  | [sync, sq, v1, v2, i1, i2, p1, p2, a1, a2, b1, b2, c1, c2, d1, d2, flags, crc] =>
    if sync ≠ 0xC3#8 then .rejected
    else if crc8 [sq, v1, v2, i1, i2, p1, p2, a1, a2, b1, b2, c1, c2, d1, d2, flags] ≠ crc then .rejected
    else if flags.getLsbD 6 then .feFault
    else
      .valid
        { seq := sq
          v := nat16 v1 v2
          i := int16 i1 i2
          p := nat16 p1 p2
          t1 := probe (flags.getLsbD 0) a1 a2
          t2 := probe (flags.getLsbD 1) b1 b2
          t3 := probe (flags.getLsbD 2) c1 c2
          t4 := probe (flags.getLsbD 3) d1 d2
          mainsOk := flags.getLsbD 4
          invReady := flags.getLsbD 5 }
  | _ => .rejected

/-! ## The command window (R167, R182) -/

/-- The row that a host window stands for: none for a window that closes with no complete code byte
(R167), a read window for the read code FFh, else the command its code names. -/
def decodeWindow (window : List Byte) : Option Instr :=
  match window with
  | [] => none
  | code :: rest =>
    match code.toNat with
    | 0xFF => some (.readWindow rest.length)
    | 0x01 => some (.setFloor rest)
    | 0x02 => some (.setCabinet rest)
    | 0x03 => some (.loadAgeingTable rest)
    | 0x04 => some (.setProfile rest)
    | 0x05 => some (.loadCarryRecord rest)
    | 0x06 => some (.start rest)
    | 0x10 => some (.readStatus rest)
    | 0x11 => some (.readFloor rest)
    | 0x12 => some (.readPeer rest)
    | 0x13 => some (.clearPeerMarkers rest)
    | 0x14 => some (.readEvent rest)
    | 0x15 => some (.readCarryRecord rest)
    | 0x16 => some (.readDues rest)
    | 0x17 => some (.readVisitLog rest)
    | 0x18 => some (.readTestResult rest)
    | 0x19 => some (.silenceHorn rest)
    | 0x1A => some (.restart rest)
    | 0x20 => some (.transfer rest)
    | 0x21 => some (.forceBypass rest)
    | 0x22 => some (.join rest)
    | 0x23 => some (.runTest rest)
    | 0x24 => some (.continueTest rest)
    | 0x25 => some (.abortTest rest)
    | 0x26 => some (.openVisit rest)
    | 0x27 => some (.recordTask rest)
    | 0x28 => some (.closeVisit rest)
    | 0x29 => some (.cancelVisit rest)
    | 0x2A => some (.clearAlarmInput rest)
    | _ => some (.unknownCommand code rest)

/-- The opcode table gives its rows no bits, so no word spells a command. -/
def decodeTableWord (_nbits _w : Nat) : Option Instr := none

end Sys2Proof
end

