-- ==== Sys2Proof/Machine/State.lean ====
section
/-! DEFINITION. The state of the part, block by block (00_scope.md section 1.3), as plain data, and
`State.reset`: the part just after reset is released. A timer is `some n` while it runs with `n`
reference ticks left, `some 0` when its end is due, and `none` while it is stopped. -/

namespace Sys2Proof.Machine

/-- The part has no fault that stops it: no rule of the manual gives one, so no command ends in one. -/
inductive Fault where
deriving DecidableEq, Repr

/-- Why a command has no outcome. -/
inductive Refusal where
  /-- Raised by `exec` alone, for a row whose meaning is not written yet. Safe: the run stops. -/
  | notModelled (mnemonic : String)
deriving DecidableEq, Repr

/-! ## Floor Link Controller (chapter 1) -/

/-- The link states of R16, with the cause of a mute. -/
inductive LinkState where
  | listen | active | mutedFailures | mutedDuplicate
deriving DecidableEq, Repr

/-- A queued message with its attempt count (R12). `withdrawn` holds the reason of the drop while a
withdrawal waits for the attempt in progress to end (R15, R100). -/
structure TxEntry where
  msg       : Msg
  attempts  : Nat
  withdrawn : Option Byte
deriving DecidableEq, Repr

inductive TxClass where
  | urgent | coord | status
deriving DecidableEq, Repr

/-- The attempt in progress: its class, its transmit-start time (R14) and the bytes it drives. -/
structure Attempt where
  cls     : TxClass
  txStart : FloorTime
  frame   : List Byte
deriving DecidableEq, Repr

structure Link where
  station            : Station
  rate               : LineRate
  state              : LinkState
  muteTimer          : Option Ticks
  duplicateSeen      : Bool
  lastTransmitter    : Bool
  congestionReported : Bool
  urgent             : List TxEntry
  coord              : List TxEntry
  status             : Option TxEntry
  heldStatus         : Option StatusMsg
  attempt            : Option Attempt
  lineIdle           : Bool
  /-- The message being received, by its receive-start time (R6). -/
  rx                 : Option FloorTime
deriving DecidableEq, Repr

/-! ## Peer View Unit and Floor Time Unit (chapter 2) -/

inductive Presence where
  | absent | joining | present | stale
deriving DecidableEq, Repr

inductive Marker where
  | presence | mode | claim | health
deriving DecidableEq, Repr

structure Markers where
  presence : Bool
  mode     : Bool
  claim    : Bool
  health   : Bool
deriving DecidableEq, Repr

/-- One entry of the peer table (R19), keyed by its station. -/
structure Peer where
  station    : Station
  presence   : Presence
  seq        : Byte
  rxStart    : FloorTime
  offset     : Option (BitVec 32)
  fresh      : Nat
  report     : Report
  claim      : Option ShownClaim
  markers    : Markers
  presTimer  : Option Ticks
  staleTimer : Option Ticks
  claimTimer : Option Ticks
deriving DecidableEq, Repr

/-- What the PVU holds beside the table (R32). -/
structure Pvu where
  nextSeq  : Byte
  lastSent : Option FloorTime
deriving DecidableEq, Repr

structure Ftu where
  floorTime   : FloorTime
  slew        : Int
  align       : Align
  streak      : Nat
  tickCount   : Nat
  /-- The model's own: a boundary was crossed and its evaluation has not been made (R33, R36). -/
  boundaryDue : Bool
deriving DecidableEq, Repr

/-! ## Contact and Line Unit (chapter 3) -/

/-- An input qualified by the timer rule of R40; for a contact, true is closed. -/
structure LineIn where
  raw   : Bool
  qual  : Bool
  timer : Option Ticks
deriving DecidableEq, Repr

/-- The FB-INV, FB-BYP pair and its qualified mode (R41). -/
structure Feedback where
  rawInv : Bool
  rawByp : Bool
  qual   : FbMode
  timer  : Option Ticks
deriving DecidableEq, Repr

structure Clu where
  invFault  : LineIn
  overload  : LineIn
  bypOk     : LineIn
  fb        : Feedback
  input     : LineIn
  bypassIn  : LineIn
  output    : LineIn
  battery   : LineIn
  maint     : LineIn
  alarmIn   : LineIn
  /-- The alarm latch of edge mode (R49). -/
  alarmLatch : Bool
  modeCmd   : Mode
  /-- The dead interval of R43 runs. -/
  dead      : Bool
  supv      : Bool
  testWd    : Bool
  horn      : Bool
  hornTimer : Option Ticks
deriving DecidableEq, Repr

/-! ## Sense Port and Battery Accounting Unit (chapters 4 and 5) -/

inductive SenseState where
  | waiting | live | stale | lost
deriving DecidableEq, Repr

structure Sns where
  state   : SenseState
  last    : Option SenseFrame
  lastSeq : Option Byte
  /-- The silence timer, counting up from the last valid frame (R57). -/
  silence : Option Ticks
deriving DecidableEq, Repr

inductive Verdict where
  | none | good | weak
deriving DecidableEq, Repr

/-- The carry-over record (R67). While RUNNING its SoC field is stale: the live value is `soc`. -/
structure Carry where
  u         : Nat
  d         : Nat
  baseline  : Option Nat
  hTest     : Nat
  verdict   : Verdict
  soc       : Nat
  synced    : Bool
  minTest   : Nat
  minVisit  : Nat
  nextVisit : Nat
  nextRun   : Nat
deriving DecidableEq, Repr

structure Bau where
  carry      : Carry
  q          : Nat
  floatCount : Nat
  tf         : Int
  tfInit     : Bool
  hAge       : Nat
  h          : Nat
  weak       : Bool
  runtime    : Nat
  minutes    : Nat
  divider    : Nat
  ageing     : List Nat
deriving DecidableEq, Repr

/-! ## Transfer Coordinator (chapter 6) -/

/-- The origin of a switch (R85). -/
inductive Origin where
  | planned | forced | dropout | join | isolate | stage
deriving DecidableEq, Repr

/-- The transfer activity record (R85). -/
inductive Activity where
  | none
  | proposed (id : PropId) (dir : Direction)
  | following (id : PropId) (dir : Direction)
  | armed (id : PropId) (dir : Direction) (executeAt : FloorTime)
  | switching (target : Mode) (origin : Origin)
  | mismatch (target : Mode) (origin : Origin)
deriving DecidableEq, Repr

inductive Phase where
  | queued | window | ordering
deriving DecidableEq, Repr

/-- The proposal record (R85). Phase and sets are those of PROPOSED: a station in FOLLOWING or ARMED holds no
phase, and its sets are empty. -/
structure ProposalRec where
  station    : Station
  proposedAt : FloorTime
  executeAt  : FloorTime
  phase      : Option Phase
  consentSet : List Station
  consents   : List Station
  window     : Option Ticks
deriving DecidableEq, Repr

structure Trc where
  ownMode       : Mode
  activity      : Activity
  proposal      : Option ProposalRec
  /-- The planned transfer being executed, for TRANSFER_DONE at the end of its switch (R99). -/
  executing     : Option (PropId × Direction)
  proposalSeq   : Byte
  switchTimer   : Option Ticks
  holdTimer     : Option Ticks
  overloadTimer : Option Ticks
  /-- The split count of each station number (R108). -/
  splits        : Vector Nat 16
  lastKnown     : Option Mode
deriving DecidableEq, Repr

/-! ## Leave Arbiter (chapter 7) -/

/-- The own claim record (R112). Not granted is CLAIMING; its requester follows from its kind. -/
structure Claim where
  kind        : ClaimKind
  time        : FloorTime
  granted     : Bool
  /-- Phase window, after the CLAIM has completed; false is phase queued. -/
  inWindow    : Bool
  windowTimer : Option Ticks
  queueTimer  : Option Ticks
  fixed       : Bool
deriving DecidableEq, Repr

/-! ## Test Sequencer (chapter 8) -/

inductive StepKind where
  | rest | discharge
deriving DecidableEq, Repr

structure TestStep where
  kind     : StepKind
  duration : Nat
  floor    : Nat
  capture  : Bool
deriving DecidableEq, Repr

/-- The run states of R130; a step is numbered from 1. -/
inductive RunState where
  | idle
  | claiming
  | running (step : Nat)
  | paused (step : Nat)
  | ended
deriving DecidableEq, Repr

structure Capture where
  step : Nat
  v    : Nat
  i    : Int
deriving DecidableEq, Repr

/-- The in-progress fields of the run record (R130). -/
structure RunRec where
  number     : Nat
  single     : Bool
  completed  : Nat
  captures   : List Capture
  recent     : List (Nat × Int)
  floorCount : Nat
  discharged : Nat
  minV       : Option Nat
  stepTimer  : Option Ticks
  pauseTimer : Option Ticks
deriving DecidableEq, Repr

inductive EndCause where
  | profileDone | floorReached | claimDenied | aborted | mainsLost | transfer | forced | marginLost
  | senseStale | pauseTimeout | restart
deriving DecidableEq, Repr

/-- The result record (R141); the verdict NONE stands for absent. -/
structure TestResult where
  number     : Nat
  cause      : EndCause
  single     : Bool
  completed  : Nat
  captures   : List Capture
  resistance : Option Nat
  discharged : Nat
  minV       : Option Nat
  verdict    : Verdict
deriving DecidableEq, Repr

structure Tsq where
  profile : List TestStep
  state   : RunState
  run     : RunRec
  result  : Option TestResult
deriving DecidableEq, Repr

/-! ## Visit Manager (chapter 9) -/

inductive DueKind where
  | batteryReplace | batteryInspect | testOverdue | faultFollowup | periodic
deriving DecidableEq, Repr

structure Due where
  kind   : DueKind
  minute : Nat
deriving DecidableEq, Repr

inductive Task where
  | batteryReplaced | batteryInspected | faultCleared | periodicDone | fanReplaced | capacitorReplaced
  | other
deriving DecidableEq, Repr

inductive VisitKind where
  | inspection | isolation | floorMaintenance
deriving DecidableEq, Repr

inductive VisitState where
  | opened | requested | isolating | isolated | restoring | maintWait | maintOn
deriving DecidableEq, Repr

inductive VisitOutcome where
  | completed | cancelled | abandoned | stalled | interrupted
deriving DecidableEq, Repr

/-- The open visit record (R150). -/
structure Visit where
  number        : Nat
  kind          : VisitKind
  technician    : Nat
  openedMinute  : Nat
  state         : VisitState
  tasks         : List Task
  claimed       : Bool
  stepTimer     : Option Ticks
  joinRequested : Bool
  retryTimer    : Option Ticks
  /-- A JOIN has been refused once in this visit, so that VISIT_STATE has told of it (R156). -/
  joinRefused   : Bool
  outputOpened  : Bool
deriving DecidableEq, Repr

/-- A record of the visit log (R165). -/
structure LogRec where
  number       : Nat
  kind         : VisitKind
  technician   : Nat
  openedMinute : Nat
  closedMinute : Nat
  outcome      : VisitOutcome
  tasks        : List Task
  dues         : List DueKind
deriving DecidableEq, Repr

structure Vsm where
  dues       : List Due
  armReplace : Bool
  armInspect : Bool
  visit      : Option Visit
  log        : List LogRec
deriving DecidableEq, Repr

/-! ## Host Port Interface (chapter 10) -/

/-- The event kinds (R176, R179). -/
inductive EventKind where
  | transferForced | mismatch | splitDetected | cannotFollow | dropout | loadAtRisk | interlock
  | senseLost | linkMuted | duplicateStation
  | transferDone | transferCancelled | orderMissed | claimGranted | claimDenied | claimLost | testEnded
  | dueRaised | dueCleared | senseStale | alarmInput | linkCongestion | linkRestored
  | peerChange | alignmentChange | testStep | visitState | contactChange | senseRestored | restarted
deriving DecidableEq, Repr

inductive EventClass where
  | alarm | notice | info
deriving DecidableEq, Repr

/-- An event record (R176). -/
structure EventRec where
  kind   : EventKind
  cls    : EventClass
  minute : Nat
  time   : FloorTime
  detail : List Byte
deriving DecidableEq, Repr

/-- The floor settings (R174). -/
structure FloorCfg where
  margin      : Nat
  minInv      : Nat
  respWindow  : Nat
  lead        : Nat
  hold        : Nat
  claimWindow : Nat
  linkDelay   : Nat
  overloadTol : Nat
  elevated    : Option EventKind
deriving DecidableEq, Repr

inductive AlarmMode where
  | level | edge
deriving DecidableEq, Repr

/-- The cabinet settings (R175). -/
structure CabCfg where
  rated        : Option Nat
  cRated       : Option Nat
  vNom         : Option Nat
  life         : Nat
  cyclePenalty : Nat
  k            : Nat
  assumed      : Int
  floatV       : Nat
  floatI       : Nat
  weakTh       : Nat
  inspectTh    : Nat
  replaceTh    : Nat
  weakCap      : Nat
  testInt      : Nat
  periodInt    : Nat
  qualMs       : Nat
  alarmMode    : AlarmMode
  hornTerm     : Nat
  stepTimeout  : Nat
deriving DecidableEq, Repr

structure Hpi where
  /-- The device state: RUNNING when true, CONFIGURING when false (R171). -/
  running    : Bool
  configured : Bool
  floor      : FloorCfg
  cab        : CabCfg
  events     : List EventRec
  eventsLost : Bool
  /-- The command buffer: the frame last taken, its code byte first (R167). -/
  command    : Option (List Byte)
  /-- The response buffer (R168). -/
  response   : Option (List Byte)
  /-- The waiting slot: the window of the frame it holds (R167). -/
  waiting    : Option (List Byte)
  /-- The model's own: the bytes that the last read window shifted out to the host (R168). -/
  shiftedOut : List Byte
deriving DecidableEq, Repr

/-! ## The whole part -/

structure State where
  link    : Link
  peers   : List Peer
  pvu     : Pvu
  ftu     : Ftu
  clu     : Clu
  sns     : Sns
  bau     : Bau
  trc     : Trc
  lva     : Option Claim
  tsq     : Tsq
  vsm     : Vsm
  hpi     : Hpi
  /-- The commands and events that wait, first in, first out: the model's own queue. -/
  pending : List Instr
deriving DecidableEq, Repr

/-! ## Values after hard reset -/

def Report.blank : Report :=
  { mode := .off, isolated := false, maint := false, hold := false, source := .mains, weak := false,
    senseLost := false, align := .alone, act := .none, propId := none, carrying := 0, ready := 0,
    load := 0, health := 0, runtime := 0 }

def Markers.clear : Markers := { presence := false, mode := false, claim := false, health := false }

/-- An ABSENT entry: no field holds anything and both timers are stopped (R21). -/
def Peer.blank (p : Station) : Peer :=
  { station := p, presence := .absent, seq := 0, rxStart := 0, offset := none, fresh := 0,
    report := Report.blank, claim := none, markers := Markers.clear, presTimer := none,
    staleTimer := none, claimTimer := none }

/-- The fifteen entries of a station's peer table: one per other station number (R19). -/
def blankPeers (own : Station) : List Peer :=
  ((List.finRange 16).filter fun p => decide (p ≠ own)).map Peer.blank

def Link.blank (own : Station) (rate : LineRate) : Link :=
  { station := own, rate := rate, state := .listen, muteTimer := none, duplicateSeen := false,
    lastTransmitter := false, congestionReported := false, urgent := [], coord := [], status := none,
    heldStatus := none, attempt := none, lineIdle := false, rx := none }

def Pvu.blank : Pvu := { nextSeq := 0, lastSent := none }

def Ftu.blank : Ftu :=
  { floorTime := 0, slew := 0, align := .alone, streak := 0, tickCount := 0, boundaryDue := false }

/-- A line whose level is low or open, sampled at reset release (DESIGN CHOICE, log entry 2). -/
def LineIn.low : LineIn := { raw := false, qual := false, timer := none }

def Clu.blank : Clu :=
  { invFault := LineIn.low, overload := LineIn.low, bypOk := LineIn.low,
    fb := { rawInv := false, rawByp := false, qual := .off, timer := none },
    input := LineIn.low, bypassIn := LineIn.low, output := LineIn.low, battery := LineIn.low,
    maint := LineIn.low, alarmIn := LineIn.low, alarmLatch := false, modeCmd := .off, dead := false,
    supv := false, testWd := false, horn := false, hornTimer := none }

def Sns.blank : Sns := { state := .waiting, last := none, lastSeq := none, silence := none }

/-- The defaults of the carry-over record (R67). -/
def Carry.default : Carry :=
  { u := 0, d := 0, baseline := none, hTest := 1000, verdict := .none, soc := 500, synced := false,
    minTest := 0, minVisit := 0, nextVisit := 1, nextRun := 1 }

/-- The default ageing table (R72). -/
def defaultAgeing : List Nat := [8, 11, 16, 23, 32, 45, 64, 91, 128, 181, 255, 255, 255, 255, 255, 255]

def Bau.blank : Bau :=
  { carry := Carry.default, q := 0, floatCount := 0, tf := 250, tfInit := false, hAge := 1000, h := 1000,
    weak := false, runtime := 0, minutes := 0, divider := 0, ageing := defaultAgeing }

def Trc.blank : Trc :=
  { ownMode := .off, activity := .none, proposal := none, executing := none, proposalSeq := 0,
    switchTimer := none, holdTimer := none, overloadTimer := none, splits := Vector.replicate 16 0,
    lastKnown := none }

def RunRec.blank : RunRec :=
  { number := 0, single := false, completed := 0, captures := [], recent := [], floorCount := 0,
    discharged := 0, minV := none, stepTimer := none, pauseTimer := none }

/-- The default test profile (R129). -/
def defaultProfile : List TestStep :=
  [{ kind := .rest, duration := 60, floor := 0, capture := true },
   { kind := .discharge, duration := 300, floor := 0, capture := true }]

def Tsq.blank : Tsq := { profile := defaultProfile, state := .idle, run := RunRec.blank, result := none }

def Vsm.blank : Vsm := { dues := [], armReplace := true, armInspect := true, visit := none, log := [] }

/-- The default floor settings (R174). -/
def FloorCfg.default : FloorCfg :=
  { margin := 20, minInv := 2, respWindow := 100, lead := 300, hold := 10, claimWindow := 500,
    linkDelay := 0, overloadTol := 10, elevated := none }

/-- The default cabinet settings (R175). -/
def CabCfg.default : CabCfg :=
  { rated := none, cRated := none, vNom := none, life := 10, cyclePenalty := 4000, k := 8, assumed := 250,
    floatV := 0, floatI := 20, weakTh := 500, inspectTh := 600, replaceTh := 300, weakCap := 400,
    testInt := 90, periodInt := 180, qualMs := 20, alarmMode := .level, hornTerm := 120, stepTimeout := 15 }

/-- The host port after hard reset (R167, R168, R171). That the command buffer and the waiting slot are empty then
is a DESIGN CHOICE, log entry 17: chapter 10 gives neither a value. -/
def Hpi.blank : Hpi :=
  { running := false, configured := false, floor := FloorCfg.default, cab := CabCfg.default, events := [],
    eventsLost := false, command := none, response := none, waiting := none, shiftedOut := [] }

/-- The part just after reset is released, with every strap low and every input line inactive or open
at the release (DESIGN CHOICE, log entry 2). -/
def State.reset : State :=
  { link := Link.blank 0 .k125
    peers := blankPeers 0
    pvu := Pvu.blank
    ftu := Ftu.blank
    clu := Clu.blank
    sns := Sns.blank
    bau := Bau.blank
    trc := Trc.blank
    lva := none
    tsq := Tsq.blank
    vsm := Vsm.blank
    hpi := Hpi.blank
    pending := [] }

/-! ## Updates of one block -/

def State.modLink (f : Link → Link) (s : State) : State := { s with link := f s.link }
def State.modPeers (f : List Peer → List Peer) (s : State) : State := { s with peers := f s.peers }
def State.modPvu (f : Pvu → Pvu) (s : State) : State := { s with pvu := f s.pvu }
def State.modFtu (f : Ftu → Ftu) (s : State) : State := { s with ftu := f s.ftu }
def State.modClu (f : Clu → Clu) (s : State) : State := { s with clu := f s.clu }
def State.modSns (f : Sns → Sns) (s : State) : State := { s with sns := f s.sns }
def State.modBau (f : Bau → Bau) (s : State) : State := { s with bau := f s.bau }
def State.modTrc (f : Trc → Trc) (s : State) : State := { s with trc := f s.trc }
def State.setLva (c : Option Claim) (s : State) : State := { s with lva := c }
def State.modTsq (f : Tsq → Tsq) (s : State) : State := { s with tsq := f s.tsq }
def State.modVsm (f : Vsm → Vsm) (s : State) : State := { s with vsm := f s.vsm }
def State.modHpi (f : Hpi → Hpi) (s : State) : State := { s with hpi := f s.hpi }
def State.setPending (q : List Instr) (s : State) : State := { s with pending := q }

end Sys2Proof.Machine
end

