-- ==== Sys2Proof/Machine/Terms.lean ====
section
/-! DEFINITION. The fixed terms and constants of the manual, the timer rule, and the codes of the
records that only the machine forms (R179). -/

namespace Sys2Proof.Machine

/-! ## Times, in reference ticks of 100 µs -/

def ticksOfMs (ms : Nat) : Ticks := ms * 10
def ticksOfSeconds (n : Nat) : Ticks := n * 10000
def ticksOfMinutes (n : Nat) : Ticks := n * 600000

/-- The 350 ms without a STATUS after which an entry leaves JOINING or PRESENT (R20, R21). -/
def presenceTerm : Ticks := ticksOfMs 350
/-- The 5 s that a STALE entry keeps its fields (R21). -/
def staleTerm : Ticks := ticksOfSeconds 5
/-- The 5 s of a mute with cause FAILURES (R16). -/
def muteTerm : Ticks := ticksOfSeconds 5
/-- The qualify time of the stage inputs and of the feedback pair (R40, R41). -/
def stageQualify : Ticks := ticksOfMs 1
/-- The 40 ms in which stage feedback must confirm a switch (R87). -/
def switchTerm : Ticks := ticksOfMs 40
/-- The silence of 1 s that takes LIVE to STALE, and of 10 s that takes STALE to LOST (R57). -/
def staleSilence : Ticks := ticksOfSeconds 1
def lostSilence : Ticks := ticksOfSeconds 10
/-- The pause of a single-step run (R137). -/
def pauseTerm : Ticks := ticksOfMinutes 10
/-- The JOIN retry timer of a visit (R156). -/
def retryTerm : Ticks := ticksOfSeconds 1

/-- Reference cycles in one tick and in one operating minute (R33, R71). -/
def cyclesPerTick : Nat := 1000
def cyclesPerMinute : Nat := 600000000

/-- The attempts after which a message is discarded (R12). -/
def maxAttempts : Nat := 16
/-- The depths of the URGENT and COORD queues (R13). -/
def urgentDepth : Nat := 2
def coordDepth : Nat := 8
/-- The bound of the event queue (R176) and of the visit log (R165). -/
def eventDepth : Nat := 32
def logDepth : Nat := 16

/-- The largest value of a 32-bit counter (R67, R71, R74). -/
def max32 : Nat := 4294967295

/-! ## Timers -/

/-- One reference tick of a running timer. -/
def tickDown (t : Option Ticks) : Option Ticks := t.map (· - 1)

/-- A running timer has come to its end. -/
def due (t : Option Ticks) : Bool := decide (t = some 0)

/-- Remaining time in milliseconds, 0 when stopped (R182). Where ticks are left over, which way the
milliseconds are rounded is a free value (DESIGN CHOICE, log entry 7). -/
def msLeft (t : Option Ticks) : Nat :=
  match t with
  | none => 0
  | some n => if n % 10 = 0 then n / 10 else if Config.roundsUpMs n then n / 10 + 1 else n / 10

/-! ## Floor time (R1) -/

/-- The signed modular difference of two floor times. -/
def timeDiff (a b : FloorTime) : Int := (a - b).toInt

/-- `a` is at or after `b`. -/
def reached (a b : FloorTime) : Bool := decide (0 ≤ timeDiff a b)

/-- `a` is earlier than `b`. -/
def earlier (a b : FloorTime) : Bool := decide (timeDiff a b < 0)

def ticksTime (n : Ticks) : FloorTime := BitVec.ofNat 32 n

/-! ## Numbers -/

def clampNat (lo hi n : Nat) : Nat := max lo (min hi n)

def clampInt (lo hi n : Int) : Int := max lo (min hi n)

/-! ## Codes of the machine's own records (R179) -/

def Presence.code : Presence → Nat
  | .absent => 0 | .joining => 1 | .present => 2 | .stale => 3

def Marker.bit : Marker → Nat
  | .presence => 0 | .mode => 1 | .claim => 2 | .health => 3

def Markers.byte (m : Markers) : Nat :=
  bitAt m.presence 0 + bitAt m.mode 1 + bitAt m.claim 2 + bitAt m.health 3

def LinkState.code : LinkState → Nat
  | .listen => 0 | .active => 1 | .mutedFailures => 2 | .mutedDuplicate => 2

def LinkState.muteCode : LinkState → Nat
  | .listen => 0 | .active => 0 | .mutedFailures => 1 | .mutedDuplicate => 2

def SenseState.code : SenseState → Nat
  | .waiting => 0 | .live => 1 | .stale => 2 | .lost => 3

def Verdict.code : Verdict → Nat
  | .none => 0 | .good => 1 | .weak => 2

def Verdict.ofCode (n : Nat) : Option Verdict :=
  if n = 0 then some .none else if n = 1 then some .good else if n = 2 then some .weak else Option.none

def Origin.code : Origin → Nat
  | .planned => 1 | .forced => 2 | .dropout => 3 | .join => 4 | .isolate => 5 | .stage => 6

def Phase.code : Phase → Nat
  | .queued => 1 | .window => 2 | .ordering => 3

def StepKind.code : StepKind → Nat
  | .rest => 1 | .discharge => 2

def RunState.code : RunState → Nat
  | .idle => 0 | .claiming => 1 | .running _ => 2 | .paused _ => 3 | .ended => 4

/-- The step that the run state names. -/
def RunState.step : RunState → Option Nat
  | .running n => some n | .paused n => some n | .idle => none | .claiming => none | .ended => none

def EndCause.code : EndCause → Nat
  | .profileDone => 1 | .floorReached => 2 | .claimDenied => 3 | .aborted => 4 | .mainsLost => 5
  | .transfer => 6 | .forced => 7 | .marginLost => 8 | .senseStale => 9 | .pauseTimeout => 10
  | .restart => 11

def DueKind.code : DueKind → Nat
  | .batteryReplace => 1 | .batteryInspect => 2 | .testOverdue => 3 | .faultFollowup => 4
  | .periodic => 5

def Task.code : Task → Nat
  | .batteryReplaced => 1 | .batteryInspected => 2 | .faultCleared => 3 | .periodicDone => 4
  | .fanReplaced => 5 | .capacitorReplaced => 6 | .other => 7

def Task.ofCode (n : Nat) : Option Task :=
  if n = 1 then some .batteryReplaced else if n = 2 then some .batteryInspected
  else if n = 3 then some .faultCleared else if n = 4 then some .periodicDone
  else if n = 5 then some .fanReplaced else if n = 6 then some .capacitorReplaced
  else if n = 7 then some .other else none

def VisitKind.code : VisitKind → Nat
  | .inspection => 1 | .isolation => 2 | .floorMaintenance => 3

def VisitKind.ofCode (n : Nat) : Option VisitKind :=
  if n = 1 then some .inspection else if n = 2 then some .isolation
  else if n = 3 then some .floorMaintenance else none

def VisitState.code : VisitState → Nat
  | .opened => 1 | .requested => 2 | .isolating => 3 | .isolated => 4 | .restoring => 5
  | .maintWait => 6 | .maintOn => 7

def VisitOutcome.code : VisitOutcome → Nat
  | .completed => 1 | .cancelled => 2 | .abandoned => 3 | .stalled => 4 | .interrupted => 5

def AlarmMode.code : AlarmMode → Nat
  | .level => 1 | .edge => 2

def AlarmMode.ofCode (n : Nat) : Option AlarmMode :=
  if n = 1 then some .level else if n = 2 then some .edge else none

def EventClass.code : EventClass → Nat
  | .alarm => 1 | .notice => 2 | .info => 3

def EventKind.code : EventKind → Nat
  | .transferForced => 0x01 | .mismatch => 0x02 | .splitDetected => 0x03 | .cannotFollow => 0x04
  | .dropout => 0x05 | .loadAtRisk => 0x06 | .interlock => 0x07 | .senseLost => 0x08
  | .linkMuted => 0x09 | .duplicateStation => 0x0A
  | .transferDone => 0x10 | .transferCancelled => 0x11 | .orderMissed => 0x12 | .claimGranted => 0x13
  | .claimDenied => 0x14 | .claimLost => 0x15 | .testEnded => 0x16 | .dueRaised => 0x17
  | .dueCleared => 0x18 | .senseStale => 0x19 | .alarmInput => 0x1A | .linkCongestion => 0x1B
  | .linkRestored => 0x1C
  | .peerChange => 0x20 | .alignmentChange => 0x21 | .testStep => 0x22 | .visitState => 0x23
  | .contactChange => 0x24 | .senseRestored => 0x25 | .restarted => 0x26

def EventKind.all : List EventKind :=
  [.transferForced, .mismatch, .splitDetected, .cannotFollow, .dropout, .loadAtRisk, .interlock,
   .senseLost, .linkMuted, .duplicateStation, .transferDone, .transferCancelled, .orderMissed,
   .claimGranted, .claimDenied, .claimLost, .testEnded, .dueRaised, .dueCleared, .senseStale,
   .alarmInput, .linkCongestion, .linkRestored, .peerChange, .alignmentChange, .testStep, .visitState,
   .contactChange, .senseRestored, .restarted]

def EventKind.ofCode (n : Nat) : Option EventKind :=
  EventKind.all.find? fun k => decide (k.code = n)

/-- The natural class of a kind (R176). -/
def EventKind.naturalClass (k : EventKind) : EventClass :=
  if k.code < 0x10 then .alarm else if k.code < 0x20 then .notice else .info

end Sys2Proof.Machine
end

