-- ==== Sys2Proof/Machine/Flags.lean ====
section
/-! DEFINITION. Flags, pins and figures that follow from the state at every moment: the own flags of
R28, the outputs of chapter 3, and Q_full, SoC and runtime. Each is stored nowhere, so it cannot
disagree with the state it follows from. -/

namespace Sys2Proof

def Mode.feedback : Mode → FbMode
  | .off => .off
  | .inv => .inv
  | .byp => .byp

/-- A feedback mode read as an own mode: INVALID reads as OFF (R85, R86). -/
def FbMode.adopted : FbMode → Mode
  | .off => .off
  | .inv => .inv
  | .byp => .byp
  | .invalid => .off

def Direction.target : Direction → Mode
  | .toBypass => .byp
  | .toInverter => .inv

/-- The source mode of a direction, as a report shows it; the isolated flag must be clear (R90). -/
def Report.inSource (r : Report) (dir : Direction) : Bool :=
  match dir with
  | .toBypass => decide (r.mode = .inv)
  | .toInverter => decide (r.mode = .byp) || (decide (r.mode = .off) && decide (0 < r.ready))

end Sys2Proof

namespace Sys2Proof.Machine

/-- A station number in a byte of its own. -/
def stationByte (p : Station) : List Byte := u8 p.val

def zeros (n : Nat) : List Byte := List.replicate n 0#8

/-- An optional field: a presence byte, then the field, 0 where absent. R179 has the presence byte of a field that is
present be any value but 0 and leaves it open: it is sent as 1 (DESIGN CHOICE, log entry 30). -/
def opt (width : Nat) (field : Option (List Byte)) : List Byte :=
  match field with
  | some f => u8 1 ++ f
  | none => zeros (width + 1)

def State.own (s : State) : Station := s.link.station

/-! ## Own flags (R28) -/

/-- The visit states in which the own isolated flag is set (R28, R154). -/
def VisitState.isolates : VisitState → Bool
  | .isolating => true
  | .isolated => true
  | .restoring => true
  | .opened => false
  | .requested => false
  | .maintWait => false
  | .maintOn => false

def isolatedFlag (s : State) : Bool :=
  match s.vsm.visit with
  | some v => v.state.isolates
  | none => false

def maintFlag (s : State) : Bool :=
  match s.vsm.visit with
  | some v => decide (v.state = .maintOn)
  | none => false

/-- The hold flag: set while the hold timer runs (R28, R105). -/
def holdFlag (s : State) : Bool := s.trc.holdTimer.isSome

def senseLostFlag (s : State) : Bool := decide (s.sns.state = .lost)

/-- MAINS while the last valid frame had MAINS_OK set; BATTERY otherwise (R28). -/
def ownSource (s : State) : Source :=
  match s.sns.last with
  | some f => if f.mainsOk then .mains else .battery
  | none => .battery

/-- INV_READY of the last valid frame; clear before the first (R28). -/
def invReadyFlag (s : State) : Bool :=
  match s.sns.last with
  | some f => f.invReady
  | none => false

/-- The inverter is ready: INV_READY set and INV-FAULT inactive (R90). -/
def inverterReady (s : State) : Bool := invReadyFlag s && !s.clu.invFault.qual

/-- The output power of the last valid frame; 0 before the first (R28, R81). -/
def ownLoad (s : State) : Nat :=
  match s.sns.last with
  | some f => f.p
  | none => 0

def ratedOutput (s : State) : Nat := s.hpi.cab.rated.getD 0

/-- The own carrying capacity (R28): 0 while isolated or with OUTPUT open. -/
def ownCarrying (s : State) : Nat :=
  if isolatedFlag s || !s.clu.output.qual then 0 else ratedOutput s

/-- The own ready capacity (R28). -/
def ownReady (s : State) : Nat :=
  if isolatedFlag s || !s.clu.output.qual || !invReadyFlag s then 0 else ratedOutput s

def Activity.kind : Activity → ActKind
  | .none => .none
  | .proposed _ _ => .proposed
  | .following _ _ => .following
  | .armed _ _ _ => .armed
  | .switching _ _ => .switching
  | .mismatch _ _ => .mismatch

/-- The proposal id that STATUS carries (R85). -/
def Activity.propId : Activity → Option PropId
  | .proposed id _ => some id
  | .following id _ => some id
  | .armed id _ _ => some id
  | .none => Option.none
  | .switching _ _ => Option.none
  | .mismatch _ _ => Option.none

/-- The own values of R28, as they go into STATUS and into the floor figures. -/
def ownReport (s : State) : Report :=
  { mode := s.trc.ownMode
    isolated := isolatedFlag s
    maint := maintFlag s
    hold := holdFlag s
    source := ownSource s
    weak := s.bau.weak
    senseLost := senseLostFlag s
    align := s.ftu.align
    act := s.trc.activity.kind
    propId := s.trc.activity.propId
    carrying := ownCarrying s
    ready := ownReady s
    load := ownLoad s
    health := s.bau.h
    runtime := s.bau.runtime }

def Claim.shown (c : Claim) : ShownClaim := { kind := c.kind, time := c.time, granted := c.granted }

/-- The own claim as STATUS shows it (R23, R112). -/
def ownShown (s : State) : Option ShownClaim := s.lva.map Claim.shown

/-! ## Link -/

def linkMuted (s : State) : Bool :=
  decide (s.link.state = .mutedFailures) || decide (s.link.state = .mutedDuplicate)

/-! ## Outputs (R43 to R45, R51, R53) -/

/-- CMD-INV: the mode command INV, shown while SUPV is active and no dead interval runs (R43). -/
def cmdInv (s : State) : Bool := s.clu.supv && !s.clu.dead && decide (s.clu.modeCmd = .inv)

/-- CMD-BYP, likewise. -/
def cmdByp (s : State) : Bool := s.clu.supv && !s.clu.dead && decide (s.clu.modeCmd = .byp)

/-- READY: a response is waiting to be read (R168). -/
def readyPin (s : State) : Bool := s.hpi.response.isSome

/-- ATTN: the event queue is not empty (R168). -/
def attnPin (s : State) : Bool := !s.hpi.events.isEmpty

/-- LAMP-SVC: a visit is open (R53). -/
def lampSvc (s : State) : Bool := s.vsm.visit.isSome

/-- The permit indication, which drives LAMP-PERMIT (R159). It is computed from the state whenever it is used, not
at the moments that R159 lists alone (DESIGN CHOICE, log entry 27). -/
def permit (s : State) : Bool :=
  match s.vsm.visit with
  | none => false
  | some v =>
    match v.state with
    | .opened => false
    | .requested => false
    | .isolating => decide (s.trc.ownMode = .off) && decide (s.trc.activity = .none) && s.clu.output.qual
    | .isolated => s.clu.battery.qual
    | .restoring =>
      !(s.clu.input.qual && s.clu.battery.qual && s.clu.output.qual) && !v.joinRequested
    | .maintWait => decide (s.trc.ownMode = .byp) && !s.clu.maint.qual
    | .maintOn =>
      if !s.clu.output.qual then true
      else if v.outputOpened then s.clu.maint.qual
      else true

/-- The alarm condition: the qualified input in level mode, the latch in edge mode (R48, R49). -/
def alarmCondition (s : State) : Bool :=
  match s.hpi.cab.alarmMode with
  | .level => s.clu.alarmIn.qual
  | .edge => s.clu.alarmLatch

/-! ## Charge (R63) -/

/-- Q_full of a rated capacity and a health. -/
def qFullOf (cRated h : Nat) : Nat := cRated * 144000 * h / 1000

/-- Q_full, which reads 0 in CONFIGURING (R70). -/
def qFull (s : State) : Nat :=
  if s.hpi.running then qFullOf (s.hpi.cab.cRated.getD 0) s.bau.h else 0

/-- The state of charge in permille (R63). -/
def soc (s : State) : Nat := if qFull s = 0 then 0 else 1000 * s.bau.q / qFull s

/-- The carry-over record as it stands: while RUNNING its SoC is the live one (R67, R70). -/
def carryNow (s : State) : Carry :=
  if s.hpi.running then { s.bau.carry with soc := soc s } else s.bau.carry

/-- U_rated (R76). -/
def uRated (s : State) : Nat := s.hpi.cab.life * 8415360

/-- The band of a filtered temperature (R72). -/
def bandOf (tf : Int) : Nat :=
  if tf < 150 then 0 else if 850 ≤ tf then 15 else 1 + ((tf - 150) / 50).toNat

def bandWeight (s : State) : Nat := s.bau.ageing.getD (bandOf s.bau.tf) 0

/-! ## Runs and visits -/

/-- A run is in progress (R130). -/
def RunState.inProgress : RunState → Bool
  | .claiming => true
  | .running _ => true
  | .paused _ => true
  | .idle => false
  | .ended => false

/-- The tasks that clear a due (R146). -/
def DueKind.clearedBy : DueKind → List Task
  | .batteryReplace => [.batteryReplaced]
  | .batteryInspect => [.batteryInspected, .batteryReplaced]
  | .testOverdue => []
  | .faultFollowup => [.faultCleared]
  | .periodic => [.periodicDone]

end Sys2Proof.Machine
end

