-- ==== Sys2Proof/Machine/Views.lean ====
section
/-! DEFINITION. The station's own view: the peer table's entries, the counted stations, the five floor
figures (R29), the leave check and the margin test (R118, R119). All are functions of the state. -/

namespace Sys2Proof.Machine

/-! ## The peer table -/

def findPeer (p : Station) (s : State) : Option Peer :=
  s.peers.find? fun e => decide (e.station = p)

def updatePeer (p : Station) (f : Peer → Peer) (s : State) : State :=
  s.modPeers fun l => l.map fun e => if e.station = p then f e else e

def presentPeers (s : State) : List Peer := s.peers.filter fun e => decide (e.presence = .present)

def peerPresent (p : Station) (s : State) : Bool :=
  match findPeer p s with
  | some e => decide (e.presence = .present)
  | none => false

def Markers.any (m : Markers) : Bool := m.presence || m.mode || m.claim || m.health

def Markers.set (m : Markers) (k : Marker) : Markers :=
  match k with
  | .presence => { m with presence := true }
  | .mode => { m with mode := true }
  | .claim => { m with claim := true }
  | .health => { m with health := true }

/-! ## Counted stations and floor figures (R29) -/

/-- A counted station: its number, its reported values and the claim the view holds of it. -/
structure Counted where
  station : Station
  report  : Report
  claim   : Option ShownClaim
deriving DecidableEq, Repr

def ownCounted (s : State) : Counted :=
  { station := s.own, report := ownReport s, claim := ownShown s }

def Peer.counted (e : Peer) : Counted := { station := e.station, report := e.report, claim := e.claim }

/-- The own station, and every peer whose entry is PRESENT. -/
def countedStations (s : State) : List Counted := ownCounted s :: (presentPeers s).map Peer.counted

def Counted.inverting (c : Counted) : Bool := decide (c.report.mode = .inv)

/-- Fit to back the load by its flags and source, claims apart (R29, R119). -/
def Counted.sound (c : Counted) : Bool :=
  !c.report.weak && !c.report.senseLost && decide (c.report.source = .mains)

def sumOf (f : Counted → Nat) (l : List Counted) : Nat := (l.map f).sum

def inverterCount (s : State) : Nat := (countedStations s).countP Counted.inverting

def floorLoad (s : State) : Nat :=
  sumOf (fun c => c.report.load)
    ((countedStations s).filter fun c =>
      (decide (c.report.mode = .inv) || decide (c.report.mode = .byp)) && !c.report.isolated)

def carryingCapacity (s : State) : Nat :=
  sumOf (fun c => c.report.carrying) ((countedStations s).filter Counted.inverting)

def readyCapacity (s : State) : Nat :=
  sumOf (fun c => c.report.ready) ((countedStations s).filter fun c => !c.report.isolated)

def backedCapacity (s : State) : Nat :=
  sumOf (fun c => c.report.carrying)
    ((countedStations s).filter fun c => c.inverting && c.sound && c.claim.isNone)

/-- The carrying capacity of the other INV stations (R106). -/
def othersCarrying (s : State) : Nat :=
  sumOf (fun c => c.report.carrying) (((presentPeers s).map Peer.counted).filter Counted.inverting)

/-- The last-known floor mode after a recomputation of the figures (R109). -/
def knownFloorMode (s : State) : Option Mode :=
  let free := (countedStations s).filter fun c => !c.report.isolated
  if free.any Counted.inverting then some .inv
  else if free.any fun c => decide (c.report.mode = .byp) then some .byp
  else s.trc.lastKnown

/-! ## The leave check (R117 to R119) -/

/-- Claim `(t₁, p₁)` is older than `(t₂, p₂)` (R117). -/
def olderClaim (t₁ : FloorTime) (p₁ : Station) (t₂ : FloorTime) (p₂ : Station) : Bool :=
  earlier t₁ t₂ || (decide (t₁ = t₂) && decide (p₁ < p₂))

/-- A claim held in the view comes before the claim judged: it is granted, or it is older. -/
def comesBefore (c : Counted) (claimant : Station) (time : FloorTime) : Bool :=
  match c.claim with
  | some k => k.granted || olderClaim k.time c.station time claimant
  | none => false

/-- The station has left, for the margin test of a claim (R119). -/
def hasLeft (c : Counted) (claimant : Station) (time : FloorTime) : Bool :=
  decide (c.station = claimant) || comesBefore c claimant time

/-- Test 1 fails: another TEST claim stands before a TEST claim judged. -/
def testBusy (s : State) (claimant : Station) (kind : ClaimKind) (time : FloorTime) : Bool :=
  decide (kind = .test) &&
    (countedStations s).any fun c =>
      decide (c.station ≠ claimant) && decide (c.claim.map (·.kind) = some .test)
        && comesBefore c claimant time

/-- Test 2 fails: a counted station, not isolated, is in motion, on bypass, in hold or maintenance. -/
def floorBusy (s : State) : Bool :=
  (countedStations s).any fun c =>
    !c.report.isolated &&
      (decide (c.report.act ≠ .none) || decide (c.report.mode = .byp) || c.report.hold || c.report.maint)

/-- Test 3 fails: a counted station, not isolated, is on battery. -/
def onBattery (s : State) : Bool :=
  (countedStations s).any fun c => !c.report.isolated && decide (c.report.source = .battery)

/-- The stations that remain on inverter for the margin test. -/
def remaining (s : State) (claimant : Station) (time : FloorTime) : List Counted :=
  (countedStations s).filter fun c => !c.report.isolated && c.inverting && !hasLeft c claimant time

def sparedBacked (s : State) (claimant : Station) (time : FloorTime) : Nat :=
  sumOf (fun c => c.report.carrying) ((remaining s claimant time).filter Counted.sound)

/-- The margin test fails (R119). -/
def marginFails (s : State) (claimant : Station) (time : FloorTime) : Bool :=
  decide ((remaining s claimant time).length < s.hpi.floor.minInv) ||
    decide (sparedBacked s claimant time * 100 < floorLoad s * (100 + s.hpi.floor.margin))

/-- Tests 3 and 4, which a granted claim is judged by again (R122). -/
def keepCheck (s : State) (claimant : Station) (time : FloorTime) : Option Reason :=
  if onBattery s then some .onBattery
  else if marginFails s claimant time then some .margin
  else none

/-- The leave check: the reason of the first test that fails (R118). -/
def leaveCheck (s : State) (claimant : Station) (kind : ClaimKind) (time : FloorTime) : Option Reason :=
  if testBusy s claimant kind time then some .testBusy
  else if floorBusy s then some .floorBusy
  else keepCheck s claimant time

/-! ## Conditions of chapter 6 on the view -/

def ownInSource (s : State) (dir : Direction) : Bool := (ownReport s).inSource dir

def peersInSource (s : State) (dir : Direction) : List Peer :=
  (presentPeers s).filter fun e => !e.report.isolated && e.report.inSource dir

/-- MAINT is closed, or a maintenance flag is set here or at a PRESENT peer (R91, R96). -/
def maintBars (s : State) : Bool :=
  s.clu.maint.qual || maintFlag s || (presentPeers s).any fun e => e.report.maint

/-- The ready capacity at hand for a return to inverter (R91). -/
def returnCapacity (s : State) : Nat :=
  ownReady s + ((peersInSource s .toInverter).map fun e => e.report.ready).sum

end Sys2Proof.Machine
end

