-- ==== Sys2Proof/Machine/Ops.lean ====
section
/-! DEFINITION. The named operations that every block shares: raising an event, setting a change
marker, queuing and withdrawing a message, queuing the own STATUS, and the mode command. -/

namespace Sys2Proof

/-- The class of a message is fixed by its kind (R13). -/
def Msg.cls : Msg → Machine.TxClass
  | .status _ => .status
  | .force _ => .urgent
  | .propose _ _ _ _ => .coord
  | .consent _ => .coord
  | .objectTransfer _ _ => .coord
  | .objectClaim _ _ _ => .coord
  | .objectOther _ _ => .coord
  | .order _ => .coord
  | .cancel _ _ => .coord
  | .claim _ _ => .coord
  | .release _ _ => .coord

end Sys2Proof

namespace Sys2Proof.Machine

/-! ## Events and the horn (R51, R176) -/

/-- The class a record is given: INTERLOCK with condition OUTPUT_OPEN_UNVISITED is a NOTICE, and the
elevated kind is an ALARM (R164, R176). -/
def classOf (s : State) (k : EventKind) (detail : List Byte) : EventClass :=
  if s.hpi.floor.elevated = some k then .alarm
  else if k = .interlock ∧ detail.head? = some 5#8 then .notice
  else k.naturalClass

/-- An ALARM-class event sounds the horn for the full term; a term of 0 starts no timer (R51). -/
def soundHorn (s : State) : State :=
  s.modClu fun c =>
    { c with
      horn := true
      hornTimer := if s.hpi.cab.hornTerm = 0 then none else some (ticksOfSeconds s.hpi.cab.hornTerm) }

/-- The record enters the queue, or is dropped with events-lost set when the queue is full (R176). -/
def queueEvent (r : EventRec) (s : State) : State :=
  if s.hpi.events.length < eventDepth then s.modHpi fun h => { h with events := h.events ++ [r] }
  else s.modHpi fun h => { h with eventsLost := true }

/-- Raise an event: form its record, report an ALARM to the horn, place it in the queue (R176). Detail
items that do not fit in eight bytes are cut off (R183). -/
def raise (k : EventKind) (detail : List Byte) (s : State) : State :=
  let r : EventRec :=
    { kind := k, cls := classOf s k detail, minute := s.bau.minutes, time := s.ftu.floorTime,
      detail := detail.take 8 }
  queueEvent r (if r.cls = .alarm then soundHorn s else s)

/-! ## Change markers (R26, R27) -/

/-- Set a marker of an entry; the first marker of an entry raises PEER_CHANGE. -/
def markPeer (p : Station) (k : Marker) (s : State) : State :=
  match findPeer p s with
  | none => s
  | some e =>
    let s₁ := updatePeer p (fun e => { e with markers := e.markers.set k }) s
    if e.markers.any then s₁ else raise .peerChange (stationByte p ++ u8 (Markers.clear.set k).byte) s₁

/-! ## Transmit queues (R13 to R15) -/

def freshEntry (m : Msg) : TxEntry := { msg := m, attempts := 0, withdrawn := none }

/-- The congestion-reported flag clears when the COORD queue next holds fewer than 8 (R13). -/
def settleCongestion (l : Link) : Link :=
  if l.coord.length < coordDepth then { l with congestionReported := false } else l

/-- A COORD message is discarded for a full queue: LINK_CONGESTION, once until the queue drains. -/
def congest (m : Msg) (s : State) : State :=
  if s.link.congestionReported then s
  else (raise .linkCongestion (u8 m.kindCode) s).modLink fun l => { l with congestionReported := true }

/-- Ask for a COORD message to be queued; false is not-sent, FULL or LISTEN (R13). R13 and R176 do not order
LINK_CONGESTION and what the block that asked then raises: here LINK_CONGESTION comes first, and the not-sent outcome
reaches the block after it (DESIGN CHOICE, log entry 15). -/
def queueCoord (m : Msg) (s : State) : State × Bool :=
  if s.link.state = .listen then (s, false)
  else if s.link.coord.length < coordDepth then
    (s.modLink fun l => { l with coord := l.coord ++ [freshEntry m] }, true)
  else (congest m s, false)

/-- Ask for a COORD message whose not-sent outcome changes nothing at the block that queued it. -/
def postCoord (m : Msg) (s : State) : State := (queueCoord m s).1

/-- Ask for FORCE to be queued; a FORCE not sent is not queued again (R13, R102). -/
def postForce (cause : ForceCause) (s : State) : State :=
  if s.link.state = .listen then s
  else if s.link.urgent.length < urgentDepth then
    s.modLink fun l => { l with urgent := l.urgent ++ [freshEntry (.force (BitVec.ofNat 8 cause.code))] }
  else s

/-- An attempt of the given class is in progress. -/
def attempting (l : Link) (c : TxClass) : Bool := decide (l.attempt.map (·.cls) = some c)

/-- Withdraw the queued COORD messages that `which` picks (R15). The head, while an attempt of it is in
progress, is only marked: the withdrawal takes effect when the attempt ends. -/
def withdraw (which : Msg → Bool) (reason : Byte) (s : State) : State :=
  s.modLink fun l =>
    settleCongestion <|
      match l.coord with
      | [] => l
      | e :: rest =>
        if attempting l .coord then
          { l with
            coord := (if which e.msg then { e with withdrawn := some reason } else e)
              :: rest.filter fun x => !which x.msg }
        else { l with coord := (e :: rest).filter fun x => !which x.msg }

/-! ## The own STATUS (R31, R32) -/

def ownStatus (s : State) : StatusMsg :=
  { seq := s.pvu.nextSeq, prevStart := s.pvu.lastSent, report := ownReport s, claim := ownShown s }

/-- A new STATUS takes the slot, or is held back while an attempt of the slot's STATUS is in progress
(R13). Only a RUNNING part queues one (R31). -/
def queueStatus (s : State) : State :=
  if s.hpi.running && decide (s.link.state ≠ .listen) then
    s.modLink fun l =>
      if attempting l .status then { l with heldStatus := some (ownStatus s) }
      else { l with status := some (freshEntry (.status (ownStatus s))) }
  else s

/-! ## The mode command (R43) -/

/-- The TRC gives the CLU a mode command. A direct change between INV and BYP while SUPV is active goes
through the dead interval; a command given during it replaces the one being applied. -/
def setModeCmd (m : Mode) (s : State) : State :=
  s.modClu fun c =>
    if c.supv && !c.dead &&
        ((decide (c.modeCmd = .inv) && decide (m = .byp)) || (decide (c.modeCmd = .byp) && decide (m = .inv)))
    then { c with modeCmd := m, dead := true }
    else { c with modeCmd := m }

/-! ## Own mode and activity (R85, R104, R108) -/

def noSplits : Vector Nat 16 := Vector.replicate 16 0

/-- Set the activity record; every split count is 0 once the activity has left NONE (R108). -/
def setActivity (a : Activity) (s : State) : State :=
  s.modTrc fun t =>
    { t with activity := a, splits := if t.activity = .none ∧ a ≠ .none then noSplits else t.splits }

/-- Set the own mode; leaving INV stops the overload timer and clears the split counts (R104, R108). -/
def setOwnMode (m : Mode) (s : State) : State :=
  s.modTrc fun t =>
    if t.ownMode = .inv ∧ m ≠ .inv then { t with ownMode := m, overloadTimer := none, splits := noSplits }
    else { t with ownMode := m }

end Sys2Proof.Machine
end

