-- ==== Sys2Proof/Machine/DueOps.lean ====
section
/-! DEFINITION. The due list (R146 to R149): raising, evaluating and clearing dues. -/

namespace Sys2Proof.Machine

def holdsDue (k : DueKind) (s : State) : Bool := s.vsm.dues.any fun d => decide (d.kind = k)

/-- Append an entry and raise DUE_RAISED with the given detail, unless an entry of the kind stands
(R146). -/
def raiseDue (k : DueKind) (detail : List Byte) (s : State) : State :=
  if holdsDue k s then s
  else
    raise .dueRaised detail
      (s.modVsm fun v => { v with dues := v.dues ++ [{ kind := k, minute := s.bau.minutes }] })

/-- Remove the entry of a kind and raise DUE_CLEARED; nothing where there is none (R149). -/
def clearDue (k : DueKind) (source : List Byte) (s : State) : State :=
  if holdsDue k s then
    raise .dueCleared (u8 k.code ++ source)
      (s.modVsm fun v => { v with dues := v.dues.filter fun d => decide (d.kind ≠ k) })
  else s

/-- The detail of a health due: the kind, H and the last verdict (R147). -/
def healthDetail (k : DueKind) (s : State) : List Byte :=
  u8 k.code ++ u16 s.bau.h ++ u8 s.bau.carry.verdict.code

/-- The BATTERY_REPLACE part of an evaluation (R147). -/
def evaluateReplace (s : State) : State :=
  if s.bau.h < s.hpi.cab.replaceTh then
    if s.vsm.armReplace then
      raiseDue .batteryReplace (healthDetail .batteryReplace s) (s.modVsm fun v => { v with armReplace := false })
    else s
  else s.modVsm fun v => { v with armReplace := true }

/-- The BATTERY_INSPECT part of an evaluation (R147). -/
def evaluateInspect (s : State) : State :=
  if s.bau.h < s.hpi.cab.inspectTh ∨ s.bau.carry.verdict = .weak then
    if s.vsm.armInspect then
      raiseDue .batteryInspect (healthDetail .batteryInspect s) (s.modVsm fun v => { v with armInspect := false })
    else s
  else s.modVsm fun v => { v with armInspect := true }

/-- The TEST_OVERDUE part of an evaluation (R148). -/
def evaluateOverdue (s : State) : State :=
  if s.hpi.cab.testInt * 1440 < s.bau.carry.minTest then
    raiseDue .testOverdue (u8 DueKind.testOverdue.code ++ u32 s.bau.carry.minTest) s
  else s

/-- The PERIODIC part of an evaluation (R148). -/
def evaluatePeriodic (s : State) : State :=
  if s.hpi.cab.periodInt * 1440 < s.bau.carry.minVisit then
    raiseDue .periodic (u8 DueKind.periodic.code ++ u32 s.bau.carry.minVisit) s
  else s

/-- The VSM evaluates the dues, in the order R147 gives the kinds. -/
def evaluateDues (s : State) : State :=
  evaluatePeriodic (evaluateOverdue (evaluateInspect (evaluateReplace s)))

/-- The TRC reports a dropout or a forced transfer with a fault cause: the detail is the cause (R148). -/
def faultFollowup (cause : Byte) (s : State) : State := raiseDue .faultFollowup [cause] s

end Sys2Proof.Machine
end

