-- ==== Sys2Proof/Machine/BatteryOps.lean ====
section
/-! DEFINITION. The battery account: temperature, charge, ageing, health and runtime (chapters 4, 5). -/

namespace Sys2Proof

/-- The highest temperature that is not absent (R60). -/
def SenseFrame.tMax (f : SenseFrame) : Option Int :=
  ([f.t1, f.t2, f.t3, f.t4].filterMap id).max?

end Sys2Proof

namespace Sys2Proof.Machine

/-! ## Health, weak flag and runtime (R76, R79 to R81) -/

/-- The ageing health of a life used (R76). -/
def ageHealth (u rated : Nat) : Nat := 1000 - min 1000 (1000 * u / rated)

/-- The weak flag (R80). -/
def weakOf (h : Nat) (verdict : Verdict) (threshold : Nat) : Bool :=
  decide (h < threshold) || decide (verdict = .weak)

/-- Runtime in minutes (R81). -/
def runtimeOf (q vNom p : Nat) : Nat :=
  if q = 0 then 0 else if p = 0 then 65535 else min 65535 (q * vNom / (p * 240000))

def refreshRuntime (s : State) : State :=
  s.modBau fun b => { b with runtime := runtimeOf b.q (s.hpi.cab.vNom.getD 0) (ownLoad s) }

/-- The BAU recomputes the weak flag (R80). -/
def refreshWeak (s : State) : State :=
  s.modBau fun b => { b with weak := weakOf b.h b.carry.verdict s.hpi.cab.weakTh }

/-- H as it would be recomputed now (R76, R79). -/
def healthNow (s : State) : Nat := min (ageHealth s.bau.carry.u (uRated s)) s.bau.carry.hTest

/-- The BAU recomputes H_age and H. A changed H clamps Q to the new Q_full and recomputes runtime and the
weak flag (R79); the report to the VSM is the caller's. -/
def recomputeHealth (s : State) : State :=
  let s₁ := s.modBau fun b => { b with hAge := ageHealth b.carry.u (uRated s) }
  if healthNow s = s.bau.h then s₁
  else
    let s₂ := s₁.modBau fun b =>
      { b with h := healthNow s, q := min b.q (qFullOf (s.hpi.cab.cRated.getD 0) (healthNow s)) }
    refreshWeak (refreshRuntime s₂)

/-- The preview figures of CONFIGURING: H_age, H and the weak flag alone (R83). -/
def previewHealth (s : State) : State :=
  refreshWeak (s.modBau fun b => { b with hAge := ageHealth b.carry.u (uRated s), h := healthNow s })

/-! ## Life used (R66, R74) -/

/-- The saturating addition to U (R74). -/
def addLife (n : Nat) (s : State) : State :=
  s.modBau fun b => { b with carry := { b.carry with u := min max32 (b.carry.u + n) } }

/-! ## A valid frame (R58 step 3, R60 to R66) -/

/-- The filter step (R61). -/
def filterTemp (k : Nat) (tMax tf : Int) : Int := ((k : Int) * tMax + (32 - (k : Int)) * tf + 16).fdiv 32

def takeTemperature (f : SenseFrame) (s : State) : State :=
  match f.tMax with
  | none => s
  | some t =>
    s.modBau fun b =>
      if b.tfInit then { b with tf := filterTemp s.hpi.cab.k t b.tf } else { b with tf := t, tfInit := true }

/-- The gap and the multiplier of a frame (R56); the gap is 0 where R56 gives none. -/
def gapOf (last : Option Byte) (seq : Byte) : Nat :=
  match last with
  | none => 0
  | some l => if seq = l then 0 else (seq - l - 1#8).toNat

def multiplierOf (last : Option Byte) (seq : Byte) : Nat :=
  match last with
  | none => 1
  | some l => if seq = l then 0 else if gapOf last seq ≤ 3 then gapOf last seq + 1 else 1

/-- Charge counting: add m × I to Q and clamp it to [0, Q_full] (R62). -/
def countCharge (m : Nat) (i : Int) (s : State) : State :=
  s.modBau fun b => { b with q := (clampInt 0 (qFull s) ((b.q : Int) + (m : Int) * i)).toNat }

/-- The float condition of a frame; a voltage threshold of 0 disables resync (R65). -/
def floatHolds (f : SenseFrame) (s : State) : Bool :=
  decide (s.hpi.cab.floatV ≠ 0) && decide (s.hpi.cab.floatV ≤ f.v) && decide (f.i.natAbs ≤ s.hpi.cab.floatI)

/-- Counted frames at float after which Q is taken as full: 30 minutes (R65). -/
def resyncCount : Nat := 7200

/-- The float count of a counted frame, and the resync when it reaches 7200 (R65). -/
def countFloat (f : SenseFrame) (gap m : Nat) (s : State) : State :=
  let n := if floatHolds f s then (if 4 ≤ gap then 1 else s.bau.floatCount + m) else 0
  if resyncCount ≤ n then
    s.modBau fun b => { b with q := qFull s, floatCount := 0, carry := { b.carry with synced := true } }
  else s.modBau fun b => { b with floatCount := n }

/-- The step size of the discharge remainder, one percent of rated capacity (R66). -/
def stepSize (s : State) : Nat := s.hpi.cab.cRated.getD 0 * 1440

/-- The discharge remainder of a counted frame, with one cycle penalty for each step (R66). -/
def countDischarge (m : Nat) (i : Int) (s : State) : State :=
  if i < 0 then
    let d := s.bau.carry.d + m * i.natAbs
    addLife (d / stepSize s * s.hpi.cab.cyclePenalty)
      (s.modBau fun b => { b with carry := { b.carry with d := d % stepSize s } })
  else s

/-- The steps of the discharge remainder that a counted frame makes (R66). -/
def stepsMade (m : Nat) (i : Int) (s : State) : Nat :=
  if i < 0 then (s.bau.carry.d + m * i.natAbs) / stepSize s else 0

/-- The one recomputation of health that the steps of a frame bring (R75), with its report to the VSM
when H changed (R79). -/
def recountHealth (s : State) : State :=
  let s₁ := recomputeHealth s
  if s₁.bau.h = s.bau.h then s₁ else evaluateDues s₁

/-- The BAU takes a valid frame with the gap and multiplier the SNS derived (R58 step 3). Charge, float
and discharge are counted while RUNNING and LIVE (R62), and runtime is recomputed last. -/
def accountFrame (f : SenseFrame) (gap m : Nat) (s : State) : State :=
  let s₁ := takeTemperature f s
  if s.hpi.running && decide (s.sns.state = .live) then
    let s₂ := countFloat f gap m (countCharge m f.i s₁)
    let s₃ := countDischarge m f.i s₂
    refreshRuntime (if stepsMade m f.i s₂ = 0 then s₃ else recountHealth s₃)
  else s₁

/-! ## Setting Q (R64) -/

/-- Set Q from a state of charge against Q_full for the present H (R64). -/
def setCharge (permille : Nat) (s : State) : State :=
  s.modBau fun b => { b with q := qFullOf (s.hpi.cab.cRated.getD 0) b.h * permille / 1000 }

/-! ## Verdicts and replacement (R77, R78, R82) -/

/-- The resistance term of a test resistance against a baseline (R77). -/
def resistanceTerm (baseline : Option Nat) (r : Nat) : Nat :=
  match baseline with
  | none => 1000
  | some b => if r ≤ b then 1000 else 1000 - 1000 * (r - b) / b

/-- The baseline after a verdict: the first GOOD resistance of a string (R78). -/
def baselineAfter (good : Bool) (resistance baseline : Option Nat) : Option Nat :=
  match baseline with
  | some b => some b
  | none => if good then resistance else none

/-- H_test after a verdict: the term, capped where the verdict is WEAK (R78). -/
def hTestAfter (good : Bool) (resistance baseline : Option Nat) (hTest weakCap : Nat) : Nat :=
  let term :=
    match resistance with
    | some r => resistanceTerm baseline r
    | none => hTest
  if good then term else min term weakCap

/-- Steps 1 to 5 of the verdict update (R78), GOOD when `good`. -/
def recordVerdict (good : Bool) (resistance : Option Nat) (weakCap : Nat) (c : Carry) : Carry :=
  let baseline := baselineAfter good resistance c.baseline
  { c with
    baseline := baseline, hTest := hTestAfter good resistance baseline c.hTest weakCap,
    verdict := if good then .good else .weak, minTest := 0 }

/-- The source that DUE_CLEARED names for a verdict: TEST (R149, DESIGN CHOICE, log entry 9). -/
def testSource : List Byte := u16 Config.testSourceCode.toNat

/-- The verdict update (R78). The VSM is told once, at the end: TEST_OVERDUE is cleared before the dues are
evaluated (R149). -/
def verdictUpdate (good : Bool) (resistance : Option Nat) (s : State) : State :=
  let s₁ := s.modBau fun b => { b with carry := recordVerdict good resistance s.hpi.cab.weakCap b.carry }
  evaluateDues (clearDue .testOverdue testSource (refreshWeak (recomputeHealth s₁)))

/-- The carry-over record of a new string (R82). -/
def Carry.renewed (c : Carry) : Carry :=
  { c with u := 0, d := 0, baseline := none, hTest := 1000, verdict := .none, synced := false }

/-- The account of a new string: health from a record of no life used, Q from a state of charge of 500,
runtime from that Q (R82). -/
def renewAccount (s : State) : State :=
  let s₁ := s.modBau fun b => { b with floatCount := 0, carry := b.carry.renewed }
  refreshRuntime (setCharge 500 (refreshWeak (recomputeHealth s₁)))

/-- Battery replacement (R82). The VSM sets both arm flags at the report and evaluates the dues (R163). -/
def replaceBattery (s : State) : State :=
  evaluateDues ((renewAccount s).modVsm fun v => { v with armReplace := true, armInspect := true })

/-! ## START and the operating minute (R69, R73) -/

/-- START takes up the carry-over record (R69, R83). -/
def takeUpRecord (s : State) : State :=
  let s₁ := s.modBau fun b => { b with carry := { b.carry with d := min b.carry.d (stepSize s - 1) } }
  let s₂ := previewHealth s₁
  let s₃ := setCharge s.bau.carry.soc s₂
  refreshRuntime
    (s₃.modBau fun b => { b with floatCount := 0, tfInit := false, tf := s.hpi.cab.assumed })

/-- The BAU's part of an operating minute (R71, R73): the counter, calendar ageing by the band of T_f, the
two minute counts, health and runtime; then the VSM evaluates the dues. R71 and R73 do not order the increase of
the counter and the steps of R73: here the counter is increased first, so a DUE_RAISED of that minute and the minute
that its due records carry the new count (DESIGN CHOICE, log entry 15). -/
def operatingMinute (s : State) : State :=
  let s₁ := s.modBau fun b => { b with minutes := min max32 (b.minutes + 1) }
  let s₂ := addLife (bandWeight s) s₁
  let s₃ := s₂.modBau fun b =>
    { b with
      carry :=
        { b.carry with
          minTest := min max32 (b.carry.minTest + 1), minVisit := min max32 (b.carry.minVisit + 1) } }
  evaluateDues (refreshRuntime (refreshWeak (recomputeHealth s₃)))

end Sys2Proof.Machine
end

