-- ==== Sys2Proof/Machine/ClaimOps.lean ====
section
/-! DEFINITION. The own claim record (R112) and its release (R126): what the TSQ, the VSM and the TRC ask
of the LVA without an answer. -/

namespace Sys2Proof.Machine

/-- The queued CLAIM of the own claim. -/
def isOwnClaim (c : Claim) (m : Msg) : Bool := decide (m = .claim c.kind c.time)

/-- A CLAIM carries no reason, so its withdrawal holds none. -/
def noReason : Byte := 0#8

/-- Release the own claim by the state of its record, empty it and tell the PVU (R126). A RELEASE that is not sent,
for FULL or FAILURES, is not queued again: R14 leaves that to chapter 7, which does not say (DESIGN CHOICE, log
entry 14). -/
def releaseClaim (s : State) : State :=
  match s.lva with
  | none => s
  | some c =>
    let s₁ :=
      if c.granted || c.inWindow then postCoord (.release c.kind c.time) s
      else withdraw (isOwnClaim c) noReason s
    queueStatus (s₁.setLva none)

/-- Release the own claim if it is of the given kind (R103, R126, R140). -/
def releaseKind (k : ClaimKind) (s : State) : State :=
  if s.lva.map (·.kind) = some k then releaseClaim s else s

/-- The VSM reports that OUTPUT has opened: the fixed flag of a granted SERVICE claim is set (R124). -/
def fixClaim (s : State) : State :=
  match s.lva with
  | some c => if c.granted && decide (c.kind = .service) then s.setLva (some { c with fixed := true }) else s
  | none => s

/-- The conditions of a claim request, in their order: the reason of the first that fails (R113). -/
def claimRefusal (s : State) : Option Reason :=
  if s.lva.isSome then some .claimHeld
  else if linkMuted s then some .linkMuted
  else if s.ftu.align = .aligning then some .notAligned
  else if s.trc.ownMode ≠ .inv then some .wrongMode
  else if s.trc.activity ≠ .none then some .busy
  else if ownSource s = .battery then some .onBattery
  else none

end Sys2Proof.Machine
end

