-- ==== Sys2Proof/Machine/TestOps.lean ====
section
/-! DEFINITION. Battery test runs: entering a step, captures, resistance, verdict and the end of a run
(R133, R135, R140 to R143). -/

namespace Sys2Proof.Machine

/-- Step `n` of the profile, numbered from 1. -/
def profileStep (n : Nat) (s : State) : Option TestStep := s.tsq.profile[n - 1]?

/-- Enter step `n` (R133): TEST-WD is asked for in a DISCHARGE step and withdrawn in a REST step. -/
def enterStep (n : Nat) (s : State) : State :=
  match profileStep n s with
  | none => s
  | some st =>
    (s.modTsq fun t =>
      { t with
        state := .running n
        run :=
          { t.run with
            recent := [], floorCount := 0, stepTimer := some (ticksOfSeconds st.duration),
            pauseTimer := none } }).modClu fun c => { c with testWd := decide (st.kind = .discharge) }

/-- The average of the recent frames, rounded toward minus infinity (R135). -/
def averageCapture (n : Nat) (recent : List (Nat × Int)) : Option Capture :=
  if recent = [] then none
  else
    some
      { step := n
        v := (recent.map Prod.fst).sum / recent.length
        i := (recent.map Prod.snd).sum.fdiv recent.length }

/-- The capture that the end of step `n` takes: none with the capture flag clear or no recent frame. -/
def stepCapture (n : Nat) (s : State) : Option Capture :=
  match profileStep n s with
  | some st => if st.capture then averageCapture n s.tsq.run.recent else none
  | none => none

/-- Append the capture that the end of step `n` takes (R135). -/
def takeCapture (n : Nat) (s : State) : State :=
  match stepCapture n s with
  | some c => s.modTsq fun t => { t with run := { t.run with captures := t.run.captures ++ [c] } }
  | none => s

def captureOf (n : Nat) (captures : List Capture) : Option Capture :=
  captures.find? fun c => decide (c.step = n)

/-- The first pair, in profile order, of a REST step and the DISCHARGE step that directly follows it,
both with a capture; `n` numbers the first step of the list (R142). -/
def capturePair (n : Nat) (profile : List TestStep) (captures : List Capture) : Option (Capture × Capture) :=
  match profile with
  | a :: b :: rest =>
    match captureOf n captures, captureOf (n + 1) captures with
    | some x, some y =>
      if a.kind = .rest ∧ b.kind = .discharge then some (x, y) else capturePair (n + 1) (b :: rest) captures
    | _, _ => capturePair (n + 1) (b :: rest) captures
  | _ => none

/-- The resistance of a pair of captures (R142). -/
def pairResistance (rest discharge : Capture) : Option Nat :=
  let dv : Int := (rest.v : Int) - discharge.v
  let di : Int := rest.i - discharge.i
  if di ≤ 0 ∨ dv < 0 then none
  else some (max 1 (min 65535 (10000 * dv.toNat / di.toNat)))

def testResistance (profile : List TestStep) (captures : List Capture) : Option Nat :=
  match capturePair 1 profile captures with
  | some (x, y) => pairResistance x y
  | none => none

/-- The verdict of an end: whether it is GOOD, or none (R143). -/
def verdictOf (cause : EndCause) (resistance : Option Nat) (s : State) : Option Bool :=
  match cause with
  | .floorReached => some false
  | .profileDone =>
    match resistance with
    | none => some true
    | some r => some (decide (s.hpi.cab.weakTh ≤ resistanceTerm s.bau.carry.baseline r))
  | _ => none

def verdictFlag : Option Bool → Verdict
  | none => .none
  | some true => .good
  | some false => .weak

/-- The result record of a run that ends now (R141). -/
def resultNow (cause : EndCause) (verdict : Option Bool) (s : State) : TestResult :=
  { number := s.tsq.run.number
    cause := cause
    single := s.tsq.run.single
    completed := s.tsq.run.completed
    captures := s.tsq.run.captures
    resistance := testResistance s.tsq.profile s.tsq.run.captures
    discharged := s.tsq.run.discharged
    minV := s.tsq.run.minV
    verdict := verdictFlag verdict }

/-- End the run in progress with a cause (R140): TEST-WD falls, the claim is released, the result is
filled, ENDED is entered, TEST_ENDED is raised and a verdict goes to the BAU, in that order. -/
def endRun (cause : EndCause) (s : State) : State :=
  let s₁ := s.modClu fun c => { c with testWd := false }
  let s₂ := releaseKind .test s₁
  let resistance := testResistance s.tsq.profile s.tsq.run.captures
  let verdict := verdictOf cause resistance s
  let result := resultNow cause verdict s
  let s₃ := s₂.modTsq fun t => { t with state := .ended, run := RunRec.blank, result := some result }
  let s₄ :=
    raise .testEnded
      (u16 result.number ++ u8 cause.code ++ u8 result.completed ++ u8 result.verdict.code) s₃
  match verdict with
  | none => s₄
  | some good => verdictUpdate good resistance s₄

/-- An abort that acts in every state of a run in progress (R138). -/
def abortRun (cause : EndCause) (s : State) : State :=
  if s.tsq.state.inProgress then endRun cause s else s

/-- A run in a step or paused, where the claim is granted (R138). -/
def RunState.underway : RunState → Bool
  | .running _ => true
  | .paused _ => true
  | .idle => false
  | .claiming => false
  | .ended => false

/-- An abort that acts in RUNNING and PAUSED only (R138). -/
def abortUnderway (cause : EndCause) (s : State) : State :=
  if s.tsq.state.underway then endRun cause s else s

end Sys2Proof.Machine
end

