-- ==== Sys2Proof/Machine/VisitOps.lean ====
section
/-! DEFINITION. The open visit record: its number, its state changes and its closure (R150, R163, R165). -/

namespace Sys2Proof.Machine

def modVisit (f : Visit → Visit) (s : State) : State :=
  s.modVsm fun v => { v with visit := v.visit.map f }

def visitState (s : State) : Option VisitState := s.vsm.visit.map (·.state)

/-- The cause of a VISIT_STATE, an item that its detail may lack: a presence byte, then the cause (R183).
A cancel for a lost claim names two, the loss and the answer to its JOIN (R161, DESIGN CHOICE, log entry 11). -/
def causeItem (causes : List Byte) : List Byte :=
  if causes = [] then opt 1 none else causes.flatMap fun c => opt 1 (some [c])

/-- VISIT_STATE: the visit number, the new state or the outcome, and the cause where a rule names one
(R150). -/
def tellVisit (v : Visit) (code : Nat) (causes : List Byte) (s : State) : State :=
  raise .visitState (u16 v.number ++ u8 code ++ causeItem causes) s

/-- Enter a visit state, with its VISIT_STATE; a change of the own isolated flag queues a STATUS (R31). -/
def enterVisitState (st : VisitState) (s : State) : State :=
  match s.vsm.visit with
  | none => s
  | some v =>
    let s₁ := tellVisit v st.code [] (modVisit (fun v => { v with state := st }) s)
    if v.state.isolates = st.isolates then s₁ else queueStatus s₁

/-- The number of the newest record of the visit log. -/
def newestVisit (s : State) : Option Nat := s.vsm.log.getLast?.map (·.number)

/-- The number that a visit opened now takes (R165). -/
def visitNumber (s : State) : Nat :=
  match newestVisit s with
  | some n => if n = 65535 then s.bau.carry.nextVisit else max s.bau.carry.nextVisit (n + 1)
  | none => s.bau.carry.nextVisit

/-- A log whose newest number is 65535 is first emptied, with no event (R165 step 1). -/
def wrapLog (s : State) : State :=
  if newestVisit s = some 65535 then s.modVsm fun v => { v with log := [] } else s

/-- The next visit number after `number` has been taken (R165 step 3). -/
def noteVisitNumber (number : Nat) (s : State) : State :=
  (wrapLog s).modBau fun b =>
    { b with carry := { b.carry with nextVisit := if number = 65535 then 1 else number + 1 } }

/-- The dues that a COMPLETED closure of a visit clears, in due list order (R149). -/
def clearedDues (v : Visit) (s : State) : List DueKind :=
  (s.vsm.dues.map (·.kind)).filter fun k =>
    (k.clearedBy.any fun t => v.tasks.contains t) && (decide (k ≠ .periodic) || decide (v.kind = .isolation))

/-- What a COMPLETED closure does before the log record (R163 step 3). -/
def completeVisit (v : Visit) (s : State) : State :=
  let s₁ := (clearedDues v s).foldl (fun s k => clearDue k (u16 v.number) s) s
  let s₂ :=
    if v.kind = .isolation ∧ v.tasks.contains .periodicDone then
      s₁.modBau fun b => { b with carry := { b.carry with minVisit := 0 } }
    else s₁
  if v.tasks.contains .batteryReplaced then replaceBattery s₂ else s₂

/-- Append a record to the visit log; the oldest of 16 is first removed (R165). -/
def appendLog (r : LogRec) (s : State) : State :=
  s.modVsm fun v =>
    { v with log := (if v.log.length < logDepth then v.log else v.log.drop 1) ++ [r] }

def logRecOf (v : Visit) (outcome : VisitOutcome) (dues : List DueKind) (s : State) : LogRec :=
  { number := v.number, kind := v.kind, technician := v.technician, openedMinute := v.openedMinute,
    closedMinute := s.bau.minutes, outcome := outcome, tasks := v.tasks, dues := dues }

/-- Close the open visit with an outcome (R163). The claim release it needs was made before. -/
def closeVisit (outcome : VisitOutcome) (causes : List Byte) (s : State) : State :=
  match s.vsm.visit with
  | none => s
  | some v =>
    let s₁ := s.modVsm fun m => { m with visit := none }
    let s₂ := if v.state.isolates then queueStatus s₁ else s₁
    let dues := if outcome = .completed then clearedDues v s₂ else []
    let s₃ := if outcome = .completed then completeVisit v s₂ else s₂
    tellVisit v outcome.code causes (appendLog (logRecOf v outcome dues s₃) s₃)

/-- The TRC reports the end of a JOIN switch: a RESTORING visit that asked for it releases its claim and
closes COMPLETED (R156). Any other report finds nothing to do. -/
def joinEnded (s : State) : State :=
  match s.vsm.visit with
  | some v =>
    if v.state = .restoring ∧ v.joinRequested then closeVisit .completed [] (releaseKind .service s) else s
  | none => s

end Sys2Proof.Machine
end

