-- ==== Sys2Proof/Machine/TransferOps.lean ====
section
/-! DEFINITION. Mode control: dropping a proposal, switching, forced transfers, the inverter fault, JOIN
and the execution of a planned transfer (R87 to R110). -/

namespace Sys2Proof.Machine

/-! ## Dropping a proposal (R100) -/

/-- The own queued PROPOSE and ORDER of a proposal. -/
def isOwnProposalMsg (id : PropId) (m : Msg) : Bool :=
  match m with
  | .propose sq _ _ _ => decide (sq = id.seq)
  | .order i => decide (i = id)
  | _ => false

/-- The byte of the drop's reason that a withdrawn PROPOSE keeps, for the CANCEL that its completion asks
for; a drop with no reason named leaves it free (DESIGN CHOICE, log entry 8). -/
def dropByte (reason : Option Reason) : Byte :=
  match reason with
  | some r => r.byte
  | none => Config.unnamedDropReason

/-- Withdraw the messages of a dropped proposal, then discard its record with activity NONE (R100 steps 1
to 3). -/
def clearProposal (which : Msg → Bool) (reason : Byte) (s : State) : State :=
  (setActivity .none (withdraw which reason s)).modTrc fun t => { t with proposal := none }

/-- The proposer drops its proposal: a reason raises TRANSFER_CANCELLED. Step 1 of R100 withdraws a queued ORDER at
every drop, its last sentence only at a drop that queues CANCEL or by a FORCE. The model follows step 1, so a drop in
phase ordering that does neither withdraws the ORDER too (DESIGN CHOICE, log entry 25). -/
def dropOwn (id : PropId) (reason : Option Reason) (more : List Byte) (s : State) : State :=
  let s₁ := clearProposal (isOwnProposalMsg id) (dropByte reason) s
  match reason with
  | some r => raise .transferCancelled (id.bytes ++ [r.byte] ++ more) s₁
  | none => s₁

/-- A follower drops the proposal it consented to, with no event. -/
def dropFollowed (id : PropId) (s : State) : State :=
  clearProposal (fun m => decide (m = .consent id)) noReason s

/-- Drop the planned activity, if there is one; an ARMED station drops it as the proposer or the follower that
it is (R100). At a proposer a reason raises TRANSFER_CANCELLED, with
the id, the reason and `more` as its detail. -/
def dropProposal (reason : Option Reason) (more : List Byte) (s : State) : State :=
  match s.trc.activity with
  | .proposed id _ => dropOwn id reason more s
  | .following id _ => dropFollowed id s
  | .armed id _ _ => if id.station = s.own then dropOwn id reason more s else dropFollowed id s
  | .none => s
  | .switching _ _ => s
  | .mismatch _ _ => s

/-! ## Switching (R87) -/

/-- The switch timer at the entry to SWITCHING(target): a switch that already has this target keeps its
timer as it stands. -/
def switchTimerFor (target : Mode) (t : Trc) : Option Ticks :=
  match t.activity with
  | .switching target₀ _ => if target₀ = target then t.switchTimer else some switchTerm
  | _ => some switchTerm

/-- Enter SWITCHING(target, origin): mode command, switch timer, and no overload timer where the target is
not INV (R87, R104). -/
def beginSwitch (target : Mode) (origin : Origin) (s : State) : State :=
  let s₁ := s.modTrc fun t =>
    { t with
      switchTimer := switchTimerFor target t
      proposal := none
      executing := if origin = .planned then t.executing else none
      overloadTimer := if target = .inv then t.overloadTimer else none }
  setModeCmd target (setActivity (.switching target origin) s₁)

/-- TRANSFER_DONE, at the end of a switch of origin PLANNED (R99). -/
def tellDone (reachedMode : Mode) (s : State) : State :=
  match s.trc.executing with
  | some (id, dir) =>
    (raise .transferDone (id.bytes ++ u8 dir.code ++ u8 reachedMode.code) s).modTrc fun t =>
      { t with executing := none }
  | none => s

/-- Report the end of a switch to the block that its origin names (R87 step 3). -/
def reportEnd (target : Mode) (origin : Origin) (s : State) : State :=
  match origin with
  | .planned => tellDone target s
  | .join => joinEnded s
  | .isolate => s
  | .forced => s
  | .dropout => s
  | .stage => s

/-- The end of a switch or of a mismatch (R87, R88). -/
def endSwitchCore (target : Mode) (origin : Origin) (s : State) : State :=
  let s₁ := setActivity .none (setOwnMode target (s.modTrc fun t => { t with switchTimer := none }))
  let s₂ := reportEnd target origin s₁
  if s.trc.ownMode = target then s₂ else queueStatus s₂

/-- A switch that ends at its entry where the feedback already equals the target: the form for the
targets BYP and OFF, after which nothing more follows. -/
def switchAway (target : Mode) (origin : Origin) (s : State) : State :=
  let s₁ := beginSwitch target origin s
  if s₁.clu.fb.qual = target.feedback then endSwitchCore target origin s₁ else s₁

/-! ## Forced transfers (R101 to R105) -/

def startHold (s : State) : State :=
  s.modTrc fun t => { t with holdTimer := some (ticksOfSeconds s.hpi.floor.hold) }

/-- What a FORCE ends at a station that follows it: the planned activity, a run, an own TEST claim. -/
def clearForForce (s : State) : State :=
  releaseKind .test (abortRun .forced (dropProposal none [] s))

/-- A station acts on a FORCE by its own state; the first row that applies is used (R103). `ownFault`
says that the cause is its own INVERTER_FAULT. R103 names the forcing station as the detail of CANNOT_FOLLOW and
none for LOAD_AT_RISK in its place, which carries the same item, here the own number (DESIGN CHOICE, log entry
16). -/
def actOnForce (forcing : Station) (ownFault : Bool) (s : State) : State :=
  if isolatedFlag s then s
  else if s.trc.ownMode = .inv ∨ s.trc.activity ≠ .none then
    if s.clu.bypOk.qual then startHold (switchAway .byp .forced (clearForForce s))
    else
      startHold
        (raise (if ownFault then .loadAtRisk else .cannotFollow) (stationByte forcing)
          (switchAway .off .forced (clearForForce s)))
  else startHold s

/-- A station forces (R102); the VSM hears of the two fault causes. R102 and R148 give that report no step: it follows
step 3, so its DUE_RAISED stands behind the events of R103 (DESIGN CHOICE, log entry 15). -/
def force (cause : ForceCause) (s : State) : State :=
  let s₁ := raise .transferForced (u8 cause.code ++ stationByte s.own) s
  let s₂ := actOnForce s.own (decide (cause = .inverterFault)) (postForce cause s₁)
  match cause with
  | .inverterFault => faultFollowup (BitVec.ofNat 8 cause.code) s₂
  | .stageTransfer => faultFollowup (BitVec.ofNat 8 cause.code) s₂
  | .host => s₂
  | .overload => s₂
  | .split => s₂
  | .interlock => s₂

/-! ## The inverter fault (R106) -/

/-- DROPOUT, with the carrying capacity of the others and the floor load as its detail. -/
def tellDropout (s : State) : State := raise .dropout (u32 (othersCarrying s) ++ u32 (floorLoad s)) s

/-- The station drops out: it goes OFF, the floor does not change mode. -/
def dropOut (s : State) : State :=
  let s₁ := releaseKind .test (abortRun .forced (tellDropout s))
  faultFollowup Config.dropoutCauseCode (queueStatus (switchAway .off .dropout s₁))

/-- An inverter fault taken (R106): drop out if the others can carry the load, else force. -/
def inverterFault (s : State) : State :=
  let s₁ := dropProposal (some .fault) [] s
  if floorLoad s₁ ≤ othersCarrying s₁ then dropOut s₁ else force .inverterFault s₁

/-- The stage fails during a switch to INV (R106): OFF, with no capacity comparison. The rule names no item for
this DROPOUT, so its detail is empty (R183). -/
def failSwitch (s : State) : State :=
  faultFollowup Config.dropoutCauseCode (raise .dropout [] (switchAway .off .dropout s))

/-! ## Overload and the maintenance interlock (R104, R107) -/

/-- Start the overload timer, or force at once with a tolerance of 0 (R104). -/
def startOverload (s : State) : State :=
  if s.hpi.floor.overloadTol = 0 then force .overload s
  else s.modTrc fun t => { t with overloadTimer := some (ticksOfSeconds s.hpi.floor.overloadTol) }

/-- The own mode is INV while OVERLOAD is active (R86, R104). -/
def checkOverload (s : State) : State :=
  if s.trc.ownMode = .inv ∧ s.clu.overload.qual then startOverload s else s

/-- INTERLOCK, with a condition code and the own mode as detail (R164). -/
def tellInterlock (condition : Nat) (s : State) : State :=
  raise .interlock (u8 condition ++ u8 s.trc.ownMode.code) s

/-- MAINT closed onto the own mode INV, other than by a MAINT change: INTERLOCK, then the force (R107, R164). R164
has the INTERLOCK of the VSM and the TRANSFER_FORCED of the TRC queued in either order: here INTERLOCK comes first, at
START within step 4 of R172 and at the end of a switch alike (DESIGN CHOICE, log entry 15). -/
def checkMaint (s : State) : State :=
  if s.trc.ownMode = .inv ∧ s.clu.maint.qual then force .interlock (tellInterlock 1 s) else s

/-! ## Switches to any mode -/

/-- The end of a switch; one that makes the own mode INV looks at OVERLOAD and MAINT (R87, R104, R107). No rule
orders the two looks here, as R86 does at START: OVERLOAD comes first (DESIGN CHOICE, log entry 15). -/
def endSwitch (target : Mode) (origin : Origin) (s : State) : State :=
  let s₁ := endSwitchCore target origin s
  if target = .inv ∧ s.trc.ownMode ≠ .inv then checkMaint (checkOverload s₁) else s₁

/-- Enter SWITCHING(target, origin) (R87). -/
def switchTo (target : Mode) (origin : Origin) (s : State) : State :=
  let s₁ := beginSwitch target origin s
  if s₁.clu.fb.qual = target.feedback then endSwitch target origin s₁ else s₁

/-- Enter MISMATCH by unsolicited feedback: any planned activity is dropped first (R89). The rule names no item
for this MISMATCH, so its detail is empty (R183). -/
def enterMismatch (s : State) : State :=
  let s₁ := dropProposal none [] s
  raise .mismatch [] (setActivity (.mismatch s.clu.modeCmd .stage) s₁)

/-! ## JOIN and OFF (R109, R110) -/

/-- The conditions of JOIN in their order; a request of the VSM waives the first (R110). -/
def joinRefusal (forVisit : Bool) (s : State) : Option Reason :=
  if !forVisit && isolatedFlag s then some .isolated
  else if s.trc.ownMode ≠ .off then some .wrongMode
  else if s.trc.activity ≠ .none then some .busy
  else if !inverterReady s then some .notReady
  else if !s.clu.output.qual then some .outputOpen
  else if s.clu.maint.qual then some .maintClosed
  else if holdFlag s then some .hold
  else none

/-- The mode that JOIN believes the floor is in (R109). -/
def joinTarget (s : State) : Mode :=
  if s.ftu.align = .alone then .inv
  else if ((presentPeers s).any fun e => decide (e.report.mode = .inv)) || decide (s.trc.lastKnown = some .inv)
  then .inv
  else .byp

def joinFloor (s : State) : State := switchTo (joinTarget s) .join s

/-- The VSM asks for OFF when the isolated flag has become set (R110). -/
def requestOff (s : State) : State :=
  let s₁ :=
    match s.trc.activity with
    | .proposed id _ => dropProposal (some .isolated) [] (postCoord (.cancel id Reason.isolated.byte) s)
    | _ => dropProposal none [] s
  switchAway .off .isolate s₁

/-! ## Planned transfers: execution and proposal (R92 to R95, R99) -/

/-- Execution of a planned transfer (R99). -/
def executeTransfer (id : PropId) (dir : Direction) (s : State) : State :=
  let s₁ := abortRun .transfer s
  if dir = .toInverter ∧ holdFlag s₁ then
    raise .transferCancelled (id.bytes ++ [Reason.hold.byte])
      ((setActivity .none s₁).modTrc fun t => { t with proposal := none })
  else
    let target : Mode :=
      match dir with
      | .toBypass => .byp
      | .toInverter => if inverterReady s₁ then .inv else .off
    switchTo target .planned (s₁.modTrc fun t => { t with executing := some (id, dir) })

def modProposal (f : ProposalRec → ProposalRec) (s : State) : State :=
  s.modTrc fun t => { t with proposal := t.proposal.map f }

/-- The record of ARMED holds no phase, sets or window (R85). -/
def ProposalRec.ordered (r : ProposalRec) : ProposalRec :=
  { r with phase := none, consentSet := [], consents := [], window := none }

/-- Enter ARMED; where the execute time has been reached the station switches at once (R95, R98). -/
def arm (id : PropId) (dir : Direction) (executeAt : FloorTime) (s : State) : State :=
  let s₁ := modProposal ProposalRec.ordered (setActivity (.armed id dir executeAt) s)
  if reached s.ftu.floorTime executeAt then executeTransfer id dir s₁ else s₁

/-- Queue CANCEL with a reason, then end the proposal with it (R94, R95). -/
def cancelProposal (id : PropId) (reason : Reason) (more : List Byte) (s : State) : State :=
  dropProposal (some reason) more (postCoord (.cancel id reason.byte) s)

/-- Every remaining member has consented: the window stops and ORDER is queued (R94). An ORDER not sent
for FULL ends the proposal with NOT_SENT (R95). -/
def queueOrder (id : PropId) (s : State) : State :=
  let s₁ := modProposal (fun r => { r with phase := some .ordering, window := none }) s
  match queueCoord (.order id) s₁ with
  | (s₂, true) => s₂
  | (s₂, false) => cancelProposal id .notSent [] s₂

/-- The proposer looks whether every remaining member of the consent set has consented (R94). -/
def checkConsents (s : State) : State :=
  match s.trc.activity, s.trc.proposal with
  | .proposed id _, some r =>
    if r.phase = some .window ∧ r.consentSet.all fun p => r.consents.contains p then queueOrder id s else s
  | _, _ => s

/-- A member whose entry has left PRESENT is excused (R94). -/
def excuseMember (p : Station) (s : State) : State :=
  match s.trc.proposal with
  | some r =>
    if r.phase = some .window then
      checkConsents (modProposal (fun r => { r with consentSet := r.consentSet.filter fun q => decide (q ≠ p) }) s)
    else s
  | none => s

/-- The lead of a proposal in milliseconds (R92). -/
def leadMs (s : State) : Nat := max s.hpi.floor.lead (s.hpi.floor.respWindow + 50)

def windowTime (s : State) : FloorTime := ticksTime (ticksOfMs s.hpi.floor.respWindow)

/-- Begin a proposal (R92): local while ALONE, else PROPOSED with its PROPOSE queued. -/
def beginProposal (dir : Direction) (s : State) : State :=
  let seq := s.trc.proposalSeq + 1#8
  let id : PropId := { station := s.own, seq := seq }
  let s₁ := s.modTrc fun t => { t with proposalSeq := seq }
  if s.ftu.align = .alone then executeTransfer id dir s₁
  else
    let now := s.ftu.floorTime
    let execAt := now + ticksTime (ticksOfMs (leadMs s))
    let s₂ := setActivity (.proposed id dir) s₁
    let s₃ := s₂.modTrc fun t =>
      { t with
        proposal := some
          { station := s.own, proposedAt := now, executeAt := execAt, phase := some .queued, consentSet := [],
            consents := [], window := none } }
    match queueCoord (.propose seq dir now execAt) s₃ with
    | (s₄, true) => s₄
    | (s₄, false) => dropProposal (some .notSent) [] s₄

end Sys2Proof.Machine
end

