-- ==== Sys2Proof/Machine/Coordination.lean ====
section
/-! DEFINITION. The operations that run through several blocks: the steps of an ISOLATION visit (R153 to
R161), the life of the own claim (R113 to R125), and what follows a change of the station's view: the
last-known floor mode and the re-evaluation of a granted claim (R109, R122). -/

namespace Sys2Proof.Machine

/-! ## JOIN asked by a visit (R110, R156) -/

/-- A JOIN asked for at the end of a visit: the answer's byte, 0 for OK (R157, R161). -/
def joinAnswer (s : State) : Byte :=
  match joinRefusal true s with
  | some r => r.byte
  | none => 0#8

/-- The TRC takes the VSM's JOIN if none of its conditions fails. -/
def requestJoin (s : State) : State :=
  match joinRefusal true s with
  | some _ => s
  | none => joinFloor s

/-- The three contacts that a restored cabinet needs closed (R156). -/
def restored (s : State) : Bool := s.clu.input.qual && s.clu.battery.qual && s.clu.output.qual

/-- JOIN refused in RESTORING: the retry timer starts, and the first refusal of the visit is told. -/
def joinTurnedAway (v : Visit) (r : Reason) (s : State) : State :=
  let s₁ := modVisit (fun v => { v with retryTimer := some retryTerm, joinRefused := true }) s
  if v.joinRefused then s₁ else tellVisit v VisitState.restoring.code [r.byte] s₁

/-- A visit in RESTORING asks for JOIN whenever all three contacts are closed and it has not joined. -/
def tryJoin (s : State) : State :=
  match s.vsm.visit with
  | none => s
  | some v =>
    if v.state = .restoring ∧ ¬ v.joinRequested ∧ restored s then
      match joinRefusal true s with
      | some r => joinTurnedAway v r s
      | none => joinFloor (modVisit (fun v => { v with joinRequested := true, retryTimer := none }) s)
    else s

/-! ## The states of an ISOLATION visit (R154 to R156) -/

def stepTerm (s : State) : Ticks := ticksOfMinutes s.hpi.cab.stepTimeout

def enterIsolated (s : State) : State :=
  let claimed := (s.vsm.visit.map (·.claimed)).getD false
  let s₁ := enterVisitState .isolated (modVisit (fun v => { v with stepTimer := none }) s)
  if claimed then fixClaim s₁ else s₁

def enterIsolating (s : State) : State :=
  let s₁ := requestOff (enterVisitState .isolating s)
  let s₂ := modVisit (fun v => { v with stepTimer := some (stepTerm s) }) s₁
  if s₂.clu.output.qual then s₂ else enterIsolated s₂

def enterRestoring (s : State) : State :=
  tryJoin <|
    enterVisitState .restoring
      (modVisit (fun v => { v with joinRequested := false, stepTimer := some (stepTerm s) }) s)

/-- MAINT_ON clears the output-opened flag on entry (R158). OUTPUT already open at the entry leaves the flag clear
until it is next qualified open (DESIGN CHOICE, log entry 20). -/
def enterMaintOn (s : State) : State :=
  enterVisitState .maintOn (modVisit (fun v => { v with outputOpened := false }) s)

/-- A visit that leaves ISOLATING without having been isolated asks for JOIN, releases its claim and
closes (R157, R161). -/
def leaveIsolating (outcome : VisitOutcome) (causes : List Byte) (s : State) : State :=
  let answer := joinAnswer s
  closeVisit outcome (causes ++ [answer]) (releaseKind .service (requestJoin s))

/-! ## What the LVA tells its requester (R121, R120, R125) -/

def tellGrant (kind : ClaimKind) (s : State) : State :=
  match kind with
  | .test => if s.tsq.state = .claiming then enterStep 1 s else s
  | .service => if visitState s = some .requested then enterIsolating s else s

def tellDenial (kind : ClaimKind) (reason : Byte) (s : State) : State :=
  match kind with
  | .test => if s.tsq.state = .claiming then endRun .claimDenied s else s
  | .service => if visitState s = some .requested then closeVisit .cancelled [reason] s else s

def tellLoss (kind : ClaimKind) (reason : Reason) (s : State) : State :=
  match kind with
  | .test => abortUnderway (if reason = .onBattery then .mainsLost else .marginLost) s
  | .service =>
    if visitState s = some .isolating then leaveIsolating .cancelled [Reason.claimLost.byte] s else s

/-! ## Grant, denial and loss -/

/-- The own claim becomes GRANTED (R121). -/
def grantClaim (s : State) : State :=
  match s.lva with
  | none => s
  | some c =>
    let s₁ := s.setLva (some { c with granted := true, inWindow := false, windowTimer := none, queueTimer := none })
    queueStatus (tellGrant c.kind (raise .claimGranted (u8 c.kind.code ++ timeBytes c.time) s₁))

/-- CLAIM_DENIED, then the requester is told: what a denial does once the record is empty. -/
def denialOf (kind : ClaimKind) (reason : Byte) (station : Station) (s : State) : State :=
  tellDenial kind reason (raise .claimDenied (u8 kind.code ++ [reason] ++ stationByte station) s)

/-- Deny the own claim while it is CLAIMING (R115, R120). -/
def denyClaim (reason : Byte) (station : Station) (s : State) : State :=
  match s.lva with
  | none => s
  | some c =>
    let s₁ := if c.inWindow then s else withdraw (isOwnClaim c) noReason s
    queueStatus (denialOf c.kind reason station (s₁.setLva none))

/-- The own GRANTED claim is lost (R125). -/
def loseClaim (reason : Reason) (s : State) : State :=
  match s.lva with
  | none => s
  | some c =>
    releaseKind c.kind (tellLoss c.kind reason (raise .claimLost (u8 c.kind.code ++ [reason.byte]) s))

/-! ## Asking for a claim (R114, R115) -/

def claimTerm (s : State) : Ticks := ticksOfMs s.hpi.floor.claimWindow

def newClaim (kind : ClaimKind) (s : State) : Claim :=
  { kind := kind, time := s.ftu.floorTime, granted := false, inWindow := false, windowTimer := none,
    queueTimer := some (claimTerm s), fixed := false }

/-- A local claim, taken while ALONE (R114). -/
def claimLocally (kind : ClaimKind) (s : State) : State :=
  match leaveCheck s s.own kind s.ftu.floorTime with
  | some r => denialOf kind r.byte s.own s
  | none => grantClaim (s.setLva (some (newClaim kind s)))

/-- A claim request that passed its conditions (R113): local while ALONE, else announced (R115). -/
def takeClaimRequest (kind : ClaimKind) (s : State) : State :=
  if s.ftu.align = .alone then claimLocally kind s
  else
    let s₁ := s.setLva (some (newClaim kind s))
    match queueCoord (.claim kind s.ftu.floorTime) s₁ with
    | (s₂, true) => queueStatus s₂
    | (s₂, false) => denyClaim Reason.notSent.byte s.own s₂

/-! ## After a change of the view (R29, R109, R122) -/

/-- The last-known floor mode follows each recomputation of the floor figures. In CONFIGURING it is left
as it is (R86, DEDUCED, log entry 12). -/
def noteFloorMode (s : State) : State :=
  if s.hpi.running then s.modTrc fun t => { t with lastKnown := knownFloorMode s } else s

/-- The LVA re-evaluates a GRANTED own claim; a SERVICE claim with the fixed flag set is kept (R122,
R124). -/
def reevaluate (s : State) : State :=
  match s.lva with
  | none => s
  | some c =>
    if c.granted && !c.fixed then
      match keepCheck s s.own c.time with
      | some r => loseClaim r s
      | none => s
    else s

/-- What follows a command that may have changed a peer entry, a claim record or an own value. -/
def settle (s : State) : State :=
  if s.hpi.running then noteFloorMode (reevaluate (noteFloorMode s)) else s

end Sys2Proof.Machine
end

