-- ==== Sys2Proof/Machine/Operands.lean ====
section
/-! DEFINITION. The operand forms of the host port, both ways: the arguments of a command window (R170,
R182), and the records and bodies of a response (R179, R182, R183). -/

namespace Sys2Proof.Machine

/-! ## Arguments (R170, R182) -/

/-- The argument bytes of a window: none where the length byte is missing or disagrees with them. -/
def argBytes (window : List Byte) : Option (List Byte) :=
  match window with
  | [] => none
  | n :: args => if n.toNat = args.length then some args else none

/-- Byte `k` of the arguments, 0 beyond their end. -/
def byteAt (l : List Byte) (k : Nat) : Nat := (l.getD k 0#8).toNat

/-- The two-byte field at offset `k`, most significant byte first (R179). -/
def wordAt (l : List Byte) (k : Nat) : Nat := nat16 (l.getD k 0#8) (l.getD (k + 1) 0#8)

/-- The signed two-byte field at offset `k`. -/
def signedAt (l : List Byte) (k : Nat) : Int := int16 (l.getD k 0#8) (l.getD (k + 1) 0#8)

/-- The four-byte field at offset `k`. -/
def longAt (l : List Byte) (k : Nat) : Nat :=
  nat32 (l.getD k 0#8) (l.getD (k + 1) 0#8) (l.getD (k + 2) 0#8) (l.getD (k + 3) 0#8)

def stationAt (l : List Byte) (k : Nat) : Option Station := stationOf (l.getD k 0#8)

/-- The floor settings that SET FLOOR carries, before any clamping; none for an elevated kind that is no
event kind, or RESTARTED (R174). -/
def floorArgs (l : List Byte) : Option FloorCfg :=
  let cfg (elevated : Option EventKind) : FloorCfg :=
    { margin := byteAt l 0, minInv := byteAt l 1, respWindow := wordAt l 2, lead := wordAt l 4,
      hold := wordAt l 6, claimWindow := wordAt l 8, linkDelay := byteAt l 10, overloadTol := byteAt l 11,
      elevated := elevated }
  if byteAt l 12 = 0 then some (cfg none)
  else
    match EventKind.ofCode (byteAt l 12) with
    | some k => if k = .restarted then none else some (cfg (some k))
    | none => none

/-- Every floor setting within its range (R174). -/
def FloorCfg.clamped (c : FloorCfg) : FloorCfg :=
  { margin := clampNat 0 100 c.margin, minInv := clampNat 1 16 c.minInv,
    respWindow := clampNat 20 500 c.respWindow, lead := clampNat 100 2000 c.lead,
    hold := clampNat 1 600 c.hold, claimWindow := clampNat 100 2000 c.claimWindow,
    linkDelay := clampNat 0 15 c.linkDelay, overloadTol := clampNat 0 60 c.overloadTol,
    elevated := c.elevated }

/-- The cabinet settings that SET CABINET carries, before any clamping; none for a rated output, C_rated
or V_nom of 0 and for an alarm mode outside its codes (R175). -/
def cabinetArgs (l : List Byte) : Option CabCfg :=
  if wordAt l 0 = 0 ∨ wordAt l 2 = 0 ∨ wordAt l 4 = 0 then none
  else
    (AlarmMode.ofCode (byteAt l 29)).map fun mode =>
      { rated := some (wordAt l 0), cRated := some (wordAt l 2), vNom := some (wordAt l 4),
        life := byteAt l 6, cyclePenalty := wordAt l 7, k := byteAt l 9, assumed := signedAt l 10,
        floatV := wordAt l 12, floatI := wordAt l 14, weakTh := wordAt l 16, inspectTh := wordAt l 18,
        replaceTh := wordAt l 20, weakCap := wordAt l 22, testInt := wordAt l 24, periodInt := wordAt l 26,
        qualMs := byteAt l 28, alarmMode := mode, hornTerm := wordAt l 30, stepTimeout := byteAt l 32 }

/-- Every cabinet setting within its range (R175). -/
def CabCfg.clamped (c : CabCfg) : CabCfg :=
  { rated := c.rated.map (clampNat 1 65535), cRated := c.cRated.map (clampNat 1 5000),
    vNom := c.vNom.map (clampNat 1 1000), life := clampNat 1 30 c.life,
    cyclePenalty := clampNat 0 65535 c.cyclePenalty, k := clampNat 1 32 c.k,
    assumed := clampInt (-400) 850 c.assumed, floatV := clampNat 0 65535 c.floatV,
    floatI := clampNat 0 1000 c.floatI, weakTh := clampNat 0 1000 c.weakTh,
    inspectTh := clampNat 0 1000 c.inspectTh, replaceTh := clampNat 0 1000 c.replaceTh,
    weakCap := clampNat 0 1000 c.weakCap, testInt := clampNat 1 730 c.testInt,
    periodInt := clampNat 1 730 c.periodInt, qualMs := clampNat 5 200 c.qualMs, alarmMode := c.alarmMode,
    hornTerm := clampNat 0 600 c.hornTerm, stepTimeout := clampNat 1 60 c.stepTimeout }

/-- The carry-over record that LOAD CARRY RECORD carries, before any clamping; none for a last verdict
outside its codes (R68, R183). -/
def carryArgs (l : List Byte) : Option Carry :=
  (Verdict.ofCode (byteAt l 13)).map fun verdict =>
    { u := longAt l 0, d := longAt l 4,
      baseline := if byteAt l 8 = 0 then none else some (wordAt l 9),
      hTest := wordAt l 11, verdict := verdict, soc := wordAt l 14,
      synced := decide (byteAt l 16 ≠ 0), minTest := longAt l 17, minVisit := longAt l 21,
      nextVisit := wordAt l 25, nextRun := wordAt l 27 }

/-- A loaded record within the ranges of R68. -/
def Carry.clamped (c : Carry) : Carry :=
  { c with
    baseline := c.baseline.map (max 1), hTest := min 1000 c.hTest, soc := min 1000 c.soc,
    nextVisit := max 1 c.nextVisit, nextRun := max 1 c.nextRun }

/-- The weights that LOAD AGEING TABLE carries, two bytes each. -/
def pairsOf (l : List Byte) : List Nat :=
  match l with
  | a :: b :: rest => nat16 a b :: pairsOf rest
  | _ => []

/-- One step of SET PROFILE, six bytes (R182); none for a kind outside its codes. -/
def stepArgs (kind d1 d2 v1 v2 flag : Byte) : Option TestStep :=
  let st (k : StepKind) : TestStep :=
    { kind := k, duration := nat16 d1 d2, floor := nat16 v1 v2, capture := decide (flag ≠ 0#8) }
  if kind = 1#8 then some (st .rest) else if kind = 2#8 then some (st .discharge) else none

/-- The list of steps that SET PROFILE carries; none where a step's kind is neither REST nor DISCHARGE. -/
def profileArgs (l : List Byte) : Option (List TestStep) :=
  match l with
  | [] => some []
  | a :: b :: c :: d :: e :: f :: rest =>
    match stepArgs a b c d e f, profileArgs rest with
    | some st, some more => some (st :: more)
    | _, _ => none
  | _ => none

def TestStep.clamped (st : TestStep) : TestStep := { st with duration := clampNat 1 3600 st.duration }

/-! ## Fields of a response (R179, R182) -/

/-- A list: a count byte, then its entries at the list's full bound. -/
def listField (width bound : Nat) (entries : List (List Byte)) : List Byte :=
  u8 entries.length ++ entries.flatten ++ zeros (width * (bound - entries.length))

/-- A timer: its remaining time in milliseconds, 0 when stopped. -/
def timerField (t : Option Ticks) : List Byte := u32 (msLeft t)

/-! ## Records (R183) -/

def EventRec.bytes (r : EventRec) : List Byte :=
  u8 r.kind.code ++ u8 r.cls.code ++ u32 r.minute ++ timeBytes r.time ++ u8 r.detail.length
    ++ r.detail ++ zeros (8 - r.detail.length)

def Carry.bytes (c : Carry) : List Byte :=
  u32 c.u ++ u32 c.d ++ opt 2 (c.baseline.map u16) ++ u16 c.hTest ++ u8 c.verdict.code ++ u16 c.soc
    ++ flagByte c.synced ++ u32 c.minTest ++ u32 c.minVisit ++ u16 c.nextVisit ++ u16 c.nextRun

def Capture.bytes (c : Capture) : List Byte := u8 c.step ++ u16 c.v ++ i16 c.i

def TestResult.bytes (r : TestResult) : List Byte :=
  u16 r.number ++ u8 r.cause.code ++ flagByte r.single ++ u8 r.completed
    ++ listField 5 8 (r.captures.map Capture.bytes) ++ opt 2 (r.resistance.map u16) ++ u32 r.discharged
    ++ opt 2 (r.minV.map u16) ++ u8 r.verdict.code

def LogRec.bytes (r : LogRec) : List Byte :=
  u16 r.number ++ u8 r.kind.code ++ u16 r.technician ++ u32 r.openedMinute ++ u32 r.closedMinute
    ++ u8 r.outcome.code ++ listField 1 8 (r.tasks.map fun t => u8 t.code)
    ++ listField 1 5 (r.dues.map fun k => u8 k.code)

/-! ## Bodies (R30, R165, R178) -/

def elevatedByte (e : Option EventKind) : List Byte := u8 ((e.map EventKind.code).getD 0)

def FloorCfg.bytes (c : FloorCfg) : List Byte :=
  u8 c.margin ++ u8 c.minInv ++ u16 c.respWindow ++ u16 c.lead ++ u16 c.hold ++ u16 c.claimWindow
    ++ u8 c.linkDelay ++ u8 c.overloadTol ++ elevatedByte c.elevated

def CabCfg.bytes (c : CabCfg) : List Byte :=
  opt 2 (c.rated.map u16) ++ opt 2 (c.cRated.map u16) ++ opt 2 (c.vNom.map u16) ++ u8 c.life
    ++ u16 c.cyclePenalty ++ u8 c.k ++ i16 c.assumed ++ u16 c.floatV ++ u16 c.floatI ++ u16 c.weakTh
    ++ u16 c.inspectTh ++ u16 c.replaceTh ++ u16 c.weakCap ++ u16 c.testInt ++ u16 c.periodInt
    ++ u8 c.qualMs ++ u8 c.alarmMode.code ++ u16 c.hornTerm ++ u8 c.stepTimeout

/-- The device state: 1 CONFIGURING, 2 RUNNING (R182). -/
def deviceByte (s : State) : List Byte := u8 (if s.hpi.running then 2 else 1)

def hpiItems (s : State) : List Byte :=
  deviceByte s ++ flagByte s.hpi.configured ++ u8 s.hpi.events.length ++ flagByte s.hpi.eventsLost
    ++ s.hpi.floor.bytes ++ s.hpi.cab.bytes

def flcItems (s : State) : List Byte :=
  stationByte s.own ++ u8 s.link.rate.code ++ u8 s.link.state.code ++ u8 s.link.state.muteCode

def cluItems (s : State) : List Byte :=
  levelByte s.clu.invFault.qual ++ levelByte s.clu.overload.qual ++ levelByte s.clu.bypOk.qual
    ++ u8 s.clu.fb.qual.code ++ u8 s.clu.modeCmd.code ++ levelByte (cmdInv s) ++ levelByte (cmdByp s)
    ++ levelByte s.clu.supv ++ levelByte s.clu.testWd ++ levelByte s.clu.input.qual
    ++ levelByte s.clu.bypassIn.qual ++ levelByte s.clu.output.qual ++ levelByte s.clu.battery.qual
    ++ levelByte s.clu.maint.qual ++ flagByte (alarmCondition s) ++ flagByte s.clu.alarmLatch
    ++ levelByte s.clu.alarmIn.qual ++ levelByte s.clu.horn ++ levelByte (lampSvc s) ++ levelByte (permit s)

def SenseFrame.bytes (f : SenseFrame) : List Byte :=
  [f.seq] ++ u16 f.v ++ i16 f.i ++ u16 f.p ++ opt 2 (f.t1.map i16) ++ opt 2 (f.t2.map i16)
    ++ opt 2 (f.t3.map i16) ++ opt 2 (f.t4.map i16) ++ flagByte f.mainsOk ++ flagByte f.invReady

/-- The sense state and the battery account, then the values of R84. -/
def batteryItems (s : State) : List Byte :=
  u8 s.sns.state.code ++ opt 21 (s.sns.last.map SenseFrame.bytes) ++ i16 s.bau.tf ++ flagByte s.bau.tfInit
    ++ u32 s.bau.q ++ u32 (qFull s) ++ u16 (soc s) ++ u32 s.bau.carry.d ++ u16 s.bau.floatCount
    ++ flagByte s.bau.carry.synced
    ++ u32 s.bau.minutes ++ u32 s.bau.carry.u ++ u32 (uRated s) ++ u16 s.bau.hAge ++ u16 s.bau.carry.hTest
    ++ u16 s.bau.h ++ flagByte s.bau.weak ++ u16 s.hpi.cab.weakTh ++ u16 s.bau.runtime
    ++ u8 (bandOf s.bau.tf) ++ u8 (bandWeight s) ++ s.bau.ageing.flatMap u8

def Activity.dir : Activity → Option Direction
  | .proposed _ d => some d
  | .following _ d => some d
  | .armed _ d _ => some d
  | .none => Option.none
  | .switching _ _ => Option.none
  | .mismatch _ _ => Option.none

def Activity.executeAt : Activity → Option FloorTime
  | .armed _ _ t => some t
  | .none => Option.none
  | .proposed _ _ => Option.none
  | .following _ _ => Option.none
  | .switching _ _ => Option.none
  | .mismatch _ _ => Option.none

def Activity.aim : Activity → Option (Mode × Origin)
  | .switching m o => some (m, o)
  | .mismatch m o => some (m, o)
  | .none => Option.none
  | .proposed _ _ => Option.none
  | .following _ _ => Option.none
  | .armed _ _ _ => Option.none

/-- The activity record: its kind, then each of its items that the kind may lack (R85, R179). -/
def Activity.bytes (a : Activity) : List Byte :=
  u8 a.kind.code ++ opt 2 (a.propId.map PropId.bytes) ++ opt 1 (a.dir.map fun d => u8 d.code)
    ++ opt 4 (a.executeAt.map timeBytes) ++ opt 1 (a.aim.map fun x => u8 x.1.code)
    ++ opt 1 (a.aim.map fun x => u8 x.2.code)

def stationList (l : List Station) : List Byte := listField 1 15 (l.map stationByte)

/-- The proposal record: proposing station, proposed-at, execute time, phase, consent set and consents heard.
PROPOSED holds no station of its own, and FOLLOWING and ARMED hold no phase and no sets; what a record does
not hold is an absent field (R85, R179; the place of the station is a DESIGN CHOICE, log entry 19). -/
def ProposalRec.bytes (r : ProposalRec) : List Byte :=
  opt 1 (if r.phase.isNone then some (stationByte r.station) else none)
    ++ timeBytes r.proposedAt ++ timeBytes r.executeAt ++ opt 1 (r.phase.map fun p => u8 p.code)
    ++ opt 16 (r.phase.map fun _ => stationList r.consentSet)
    ++ opt 16 (r.phase.map fun _ => stationList r.consents)

/-- The split counts of the fifteen peers, in station order. -/
def splitBytes (s : State) : List Byte :=
  ((List.finRange 16).filter fun p => decide (p ≠ s.own)).flatMap fun p => u8 (s.trc.splits.get p)

/-- The items of R178's row of the TRC, then the three more that R85 has READ STATUS return: proposal sequence, split
counts and last-known floor mode. Their place is a DESIGN CHOICE, log entry 19. -/
def trcItems (s : State) : List Byte :=
  u8 s.trc.ownMode.code ++ s.trc.activity.bytes ++ opt 46 (s.trc.proposal.map ProposalRec.bytes)
    ++ timerField s.trc.holdTimer ++ timerField s.trc.switchTimer ++ timerField s.trc.overloadTimer
    ++ [s.trc.proposalSeq] ++ splitBytes s ++ opt 1 (s.trc.lastKnown.map fun m => u8 m.code)

/-- Claim phase: 0 none, 1 queued, 2 window (R179). -/
def Claim.phaseCode (c : Claim) : Nat := if c.granted then 0 else if c.inWindow then 2 else 1

/-- The own claim record; NONE carries every other field as 0, and a TEST claim its fixed flag, which R112 gives
to SERVICE alone, as a clear flag (DESIGN CHOICE, log entry 19). R179 gives the requester no code: its byte is
a free value (DESIGN CHOICE, log entry 26). -/
def lvaItems (s : State) : List Byte :=
  match s.lva with
  | none => zeros 17
  | some c =>
    u8 (if c.granted then 2 else 1) ++ u8 c.kind.code ++ [Config.requesterCode c.kind] ++ timeBytes c.time
      ++ u8 c.phaseCode ++ timerField c.windowTimer ++ timerField c.queueTimer ++ flagByte c.fixed

def TestStep.bytes (st : TestStep) : List Byte :=
  u8 st.kind.code ++ u16 st.duration ++ u16 st.floor ++ flagByte st.capture

/-- The profile, the run state and the in-progress fields (R129, R130). The step of RUNNING and PAUSED follows
the run state as a field that the other states lack (R179, DESIGN CHOICE, log entry 19). -/
def tsqItems (s : State) : List Byte :=
  let r := s.tsq.run
  listField 6 8 (s.tsq.profile.map TestStep.bytes) ++ u8 s.tsq.state.code
    ++ opt 1 (s.tsq.state.step.map u8)
    ++ u16 r.number ++ flagByte r.single ++ u8 r.completed ++ listField 5 8 (r.captures.map Capture.bytes)
    ++ listField 4 4 (r.recent.map fun x => u16 x.1 ++ i16 x.2) ++ u8 r.floorCount ++ u32 r.discharged
    ++ opt 2 (r.minV.map u16) ++ timerField r.stepTimer ++ timerField r.pauseTimer

/-- The open visit record, in the order of R150. The fields that R150 gives to one kind alone are carried in a visit
of any kind, as clear flags and stopped timers (DESIGN CHOICE, log entry 19). -/
def Visit.bytes (v : Visit) : List Byte :=
  u16 v.number ++ u8 v.kind.code ++ u16 v.technician ++ u32 v.openedMinute ++ u8 v.state.code
    ++ listField 1 8 (v.tasks.map fun t => u8 t.code) ++ flagByte v.claimed ++ timerField v.stepTimer
    ++ flagByte v.joinRequested ++ timerField v.retryTimer ++ flagByte v.outputOpened

def vsmItems (s : State) : List Byte := opt 30 (s.vsm.visit.map Visit.bytes)

/-- The body of READ STATUS, in the order of R178. -/
def statusBody (s : State) : List Byte :=
  hpiItems s ++ flcItems s ++ cluItems s ++ batteryItems s ++ trcItems s ++ lvaItems s ++ tsqItems s
    ++ vsmItems s

/-- A claim with its kind, claim time and state. R179 gives a PENDING record no claim state code: it carries
that of CLAIMING (DESIGN CHOICE, log entry 19). -/
def shownClaimBytes (c : ShownClaim) : List Byte :=
  u8 c.kind.code ++ timeBytes c.time ++ u8 (if c.granted then 2 else 1)

/-- The own values, in the order of R28. The claim, which R28 gives as 'none, or kind and claim time with state', is an
optional field here: a presence byte, then kind, time and state, and with no own claim the presence byte is 0 and not
the state (DESIGN CHOICE, log entry 19). -/
def ownValueBytes (s : State) : List Byte :=
  let r := ownReport s
  u8 r.mode.code ++ u8 r.act.code ++ opt 2 (r.propId.map PropId.bytes) ++ flagByte r.hold
    ++ flagByte r.isolated ++ flagByte r.maint ++ opt 6 ((ownShown s).map shownClaimBytes)
    ++ u8 r.source.code ++ flagByte r.senseLost ++ flagByte r.weak ++ u16 r.health ++ u16 r.runtime
    ++ u16 r.load ++ u16 r.carrying ++ u16 r.ready ++ u8 r.align.code

/-- The body of READ FLOOR (R30). -/
def floorBody (s : State) : List Byte :=
  u8 (inverterCount s) ++ u32 (floorLoad s) ++ u32 (carryingCapacity s) ++ u32 (readyCapacity s)
    ++ u32 (backedCapacity s) ++ ownValueBytes s ++ u8 s.ftu.align.code ++ timeBytes s.ftu.floorTime
    ++ i16 s.ftu.slew

/-- The body of READ PEER, in the order of R19. -/
def Peer.body (e : Peer) : List Byte :=
  let r := e.report
  u8 e.presence.code ++ [e.seq] ++ timeBytes e.rxStart ++ opt 4 (e.offset.map fun o => u32 o.toNat)
    ++ u8 e.fresh ++ u8 r.mode.code ++ flagByte r.isolated ++ flagByte r.maint ++ flagByte r.hold
    ++ u8 r.source.code ++ flagByte r.weak ++ flagByte r.senseLost ++ u8 r.align.code ++ u8 r.act.code
    ++ opt 2 (r.propId.map PropId.bytes) ++ opt 6 (e.claim.map shownClaimBytes) ++ u16 r.carrying
    ++ u16 r.ready ++ u16 r.load ++ u16 r.health ++ u16 r.runtime ++ u8 e.markers.byte

/-- An entry of the due list, with its clearing tasks: at most two. -/
def Due.bytes (d : Due) : List Byte :=
  u8 d.kind.code ++ u32 d.minute ++ listField 1 2 (d.kind.clearedBy.map fun t => u8 t.code)

/-- The body of READ DUES (R165). -/
def duesBody (s : State) : List Byte :=
  listField 8 5 (s.vsm.dues.map Due.bytes) ++ flagByte s.vsm.armReplace ++ flagByte s.vsm.armInspect

end Sys2Proof.Machine
end

