-- ==== Sys2Proof/Machine/HostPort.lean ====
section
/-! DEFINITION. The host port: replies, the response and the checks that every command passes (R167 to
R170, R182). -/

namespace Sys2Proof.Machine

/-! ## Replies -/

/-- The status of a response (R169). -/
inductive HostStatus where
  | ok | clamped | wrongState | busy | refused | badArgument | unknownCommand | empty
deriving DecidableEq, Repr

def HostStatus.code : HostStatus → Nat
  | .ok => 0 | .clamped => 1 | .wrongState => 2 | .busy => 3 | .refused => 4 | .badArgument => 5
  | .unknownCommand => 6 | .empty => 7

/-- What a command answers. `lost` overrides the events-lost flag of the header (R169). -/
structure Reply where
  status : HostStatus
  reason : Byte
  body   : List Byte
  lost   : Option Bool
deriving DecidableEq, Repr

def plainReply (status : HostStatus) : Reply :=
  { status := status, reason := 0#8, body := [], lost := none }

def okReply : Reply := plainReply .ok
def busyReply : Reply := plainReply .busy
def wrongState : Reply := plainReply .wrongState
def badArgument : Reply := plainReply .badArgument

def refusedReply (r : Reason) : Reply :=
  { status := .refused, reason := r.byte, body := [], lost := none }

def bodyReply (body : List Byte) : Reply := { status := .ok, reason := 0#8, body := body, lost := none }

/-- CLAMPED if any value was clamped, and OK otherwise (R174). -/
def clampReply (changed : Bool) : Reply := if changed then plainReply .clamped else okReply

/-! ## The response (R168, R169, R182) -/

/-- The flags of a header: events pending, events lost, horn sounding. -/
def headerFlags (lost : Bool) (s : State) : Nat :=
  bitAt (attnPin s) 0 + bitAt lost 1 + bitAt s.clu.horn 2

/-- A response, as it is shifted out. -/
def responseBytes (r : Reply) (s : State) : List Byte :=
  u8 r.status.code ++ [r.reason] ++ deviceByte s ++ u8 (headerFlags (r.lost.getD s.hpi.eventsLost) s)
    ++ u16 r.body.length ++ r.body

/-- The response enters the response buffer, and READY is active. -/
def respond (r : Reply) (s : State) : State :=
  s.modHpi fun h => { h with response := some (responseBytes r s) }

/-! ## Taking a command (R167, R170) -/

/-- The device states in which a command is accepted. -/
inductive TakenIn where
  | configuring | running | both
deriving DecidableEq, Repr

def TakenIn.accepts (t : TakenIn) (s : State) : Bool :=
  match t with
  | .configuring => !s.hpi.running
  | .running => s.hpi.running
  | .both => true

/-- The frame enters the command buffer, and an unread response is discarded (R167). -/
def openCommand (code : Byte) (window : List Byte) (s : State) : State :=
  s.modHpi fun h => { h with command := some (code :: window), response := none }

/-- What a command of its own rule does: its effect and its reply. -/
abbrev Rule := List Byte → State → State × Reply

/-- Take a command: the length check, the device-state check, then its own rule; then its response. -/
def hostCommand (code : Byte) (lengths : Nat → Bool) (taken : TakenIn) (rule : Rule) (window : List Byte)
    (s : State) : State :=
  let s₁ := openCommand code window s
  match argBytes window with
  | none => respond badArgument s₁
  | some args =>
    if !lengths args.length then respond badArgument s₁
    else if !taken.accepts s then respond wrongState s₁
    else
      let (s₂, r) := rule args s₁
      respond r s₂

/-- The length check of a command with one allowed length. -/
def len (n : Nat) : Nat → Bool := fun k => decide (k = n)

end Sys2Proof.Machine
end

