-- ==== Sys2Proof/Machine/Settings.lean ====
section
/-! DEFINITION. The configuration commands, START and RESTART: what is set in CONFIGURING, and the two
ways between the device states (R68, R74, R129, R172 to R175). -/

namespace Sys2Proof.Machine

/-! ## Settings -/

/-- SET FLOOR (R174). -/
def ruleSetFloor : Rule := fun args s =>
  match floorArgs args with
  | none => (s, badArgument)
  | some c => (s.modHpi fun h => { h with floor := c.clamped }, clampReply (decide (c.clamped ≠ c)))

def tellAlarmInput (s : State) : State :=
  raise .alarmInput (u8 s.hpi.cab.alarmMode.code ++ levelByte s.clu.alarmIn.qual) s

/-- What an accepted SET CABINET does to the alarm condition (R50), from the settings before it. -/
def changeAlarmMode (before : AlarmMode) (s : State) : State :=
  match before, s.hpi.cab.alarmMode with
  | .level, .edge => s.modClu fun c => { c with alarmLatch := false }
  | .edge, .level => if s.clu.alarmIn.qual && !s.clu.alarmLatch then tellAlarmInput s else s
  | .level, .level => s
  | .edge, .edge => s

/-- The assumed temperature replaces T_f while the initialised flag is clear (R61). -/
def assumeTemperature (s : State) : State :=
  s.modBau fun b => if b.tfInit then b else { b with tf := s.hpi.cab.assumed }

/-- SET CABINET, with what it does at once to running state (R175). -/
def ruleSetCabinet : Rule := fun args s =>
  match cabinetArgs args with
  | none => (s, badArgument)
  | some c =>
    let s₁ := s.modHpi fun h => { h with cab := c.clamped, configured := true }
    (previewHealth (changeAlarmMode s.hpi.cab.alarmMode (assumeTemperature s₁)),
      clampReply (decide (c.clamped ≠ c)))

/-- The table with `values` written from index `start`, each at most 255 (R74). -/
def writeWeights (table : List Nat) (start : Nat) (values : List Nat) : List Nat :=
  match values with
  | [] => table
  | v :: rest => writeWeights (table.set start (min 255 v)) (start + 1) rest

/-- LOAD AGEING TABLE (R74). -/
def ruleLoadAgeingTable : Rule := fun args s =>
  let start := byteAt args 0
  let values := pairsOf (args.drop 1)
  if 15 < start then (s, badArgument)
  else
    (s.modBau fun b => { b with ageing := writeWeights b.ageing start values },
      clampReply ((values.take (16 - start)).any (fun v => decide (255 < v))
        || decide (16 < start + values.length)))

/-- SET PROFILE (R129). -/
def ruleSetProfile : Rule := fun args s =>
  match profileArgs args with
  | none => (s, badArgument)
  | some steps =>
    if steps = [] ∨ 8 < steps.length then (s, badArgument)
    else
      (s.modTsq fun t => { t with profile := steps.map TestStep.clamped },
        clampReply (decide (steps.map TestStep.clamped ≠ steps)))

/-- LOAD CARRY RECORD (R68); the preview follows it (R83). -/
def ruleLoadCarryRecord : Rule := fun args s =>
  match carryArgs args with
  | none => (s, badArgument)
  | some c =>
    (previewHealth (s.modBau fun b => { b with carry := c.clamped }), clampReply (decide (c.clamped ≠ c)))

/-! ## START (R172) -/

/-- The link leaves LISTEN (R16). -/
def openLink (s : State) : State :=
  if s.link.duplicateSeen then
    raise .linkMuted (u8 LinkState.mutedDuplicate.muteCode)
      (s.modLink fun l => { l with state := .mutedDuplicate })
  else s.modLink fun l => { l with state := .active }

/-- Feedback INVALID at START (R86). -/
def adoptInvalid (s : State) : State :=
  if s.clu.fb.qual = .invalid then
    raise .mismatch (u8 FbMode.invalid.code)
      (s.modTrc fun t => { t with activity := .mismatch .off .stage })
  else s

/-- The TRC adopts its mode from the feedback, and SUPV becomes active with the adopted command (R44,
R86). -/
def adoptMode (s : State) : State :=
  let m := s.clu.fb.qual.adopted
  let s₁ := s.modTrc fun t =>
    { t with ownMode := m, activity := .none, lastKnown := if m = .off then none else some m }
  (adoptInvalid s₁).modClu fun c => { c with modeCmd := m, supv := true }

/-- An inverter fault standing at START with the own mode INV (R86). -/
def checkFault (s : State) : State :=
  if s.trc.ownMode = .inv ∧ s.clu.invFault.qual
      ∧ (s.trc.activity.aim = none ∨ s.trc.activity.aim.map Prod.fst = some .inv)
  then inverterFault s else s

/-- The steps of START, in their order (R172). -/
def startPart (s : State) : State :=
  let s₁ := openLink (takeUpRecord s)
  let s₂ := s₁.modHpi fun h => { h with running := true }
  let s₃ := checkFault (checkMaint (checkOverload (adoptMode s₂)))
  settle (evaluateDues (queueStatus s₃))

def ruleStart : Rule := fun _ s =>
  if s.hpi.configured then (startPart s, okReply)
  else (s, { wrongState with reason := Reason.notConfigured.byte })

/-! ## RESTART (R173) -/

/-- A run in progress ends RESTART, with no event and no release (R145). -/
def restartRun (s : State) : State :=
  if s.tsq.state.inProgress then
    s.modTsq fun t => { t with state := .ended, run := RunRec.blank, result := some (resultNow .restart none s) }
  else s

/-- An open visit closes INTERRUPTED into the log, with no event (R166). -/
def restartVisit (s : State) : State :=
  match s.vsm.visit with
  | none => s
  | some v => appendLog (logRecOf v .interrupted [] s) (s.modVsm fun m => { m with visit := none })

/-- The battery account stops: the record keeps the SoC of that moment, and Q, the float count and runtime
read 0 in CONFIGURING (R67, R70, R83). -/
def stopAccount (s : State) : State :=
  previewHealth <|
    s.modBau fun b =>
      { b with
        carry := carryNow s, q := 0, floatCount := 0, runtime := 0, tfInit := false,
        tf := s.hpi.cab.assumed }

/-- The outputs, the horn and the alarm latch at RESTART (R44, R45, R50, R52). -/
def dropOutputs (s : State) : State :=
  s.modClu fun c =>
    { c with
      supv := false, testWd := false, horn := false, hornTimer := none, alarmLatch := false, modeCmd := .off,
      dead := false }

/-- The event queue is emptied and seeded (R173 step 5). Where ALARM_INPUT is the elevated kind, the ALARM_INPUT that
follows RESTARTED has class ALARM and sounds the horn by R51, after step 1 has silenced it, so RESTART ends with the
horn SOUNDING; R52 has RESTART leave it SILENT (DESIGN CHOICE, log entry 31). -/
def seedEvents (s : State) : State :=
  let s₁ := raise .restarted [] (s.modHpi fun h => { h with events := [], eventsLost := false })
  if s.hpi.cab.alarmMode = .level ∧ s.clu.alarmIn.qual then tellAlarmInput s₁ else s₁

/-- The TRC in CONFIGURING: its own mode follows the feedback, and nothing else stands (R85). -/
def restartTrc (s : State) : State :=
  s.modTrc fun _ => { Trc.blank with ownMode := s.clu.fb.qual.adopted }

/-- The link enters LISTEN with its queues and its receive buffer empty (R16, section 1.9). What the straps
gave stands, and so does the idleness of the line, which lies outside the part (DESIGN CHOICE, log entry 20). -/
def restartLink (s : State) : State :=
  s.modLink fun l => { Link.blank l.station l.rate with lineIdle := l.lineIdle }

def ruleRestart : Rule := fun _ s =>
  let s₁ := restartTrc ((restartVisit (restartRun (dropOutputs s))).setLva none)
  let s₂ := restartLink (stopAccount s₁)
  let s₃ := ((s₂.modPeers fun _ => blankPeers s.own).modPvu fun _ => Pvu.blank).modFtu fun _ => Ftu.blank
  (seedEvents (s₃.modHpi fun h => { h with running := false }), okReply)

/-! ## The commands -/

def cmdSetFloor : List Byte → State → State := hostCommand 0x01 (len 13) .configuring ruleSetFloor
def cmdSetCabinet : List Byte → State → State := hostCommand 0x02 (len 33) .configuring ruleSetCabinet
def cmdLoadAgeingTable : List Byte → State → State :=
  hostCommand 0x03 (fun n => decide (n % 2 = 1 ∧ n ≤ 33)) .configuring ruleLoadAgeingTable
def cmdSetProfile : List Byte → State → State :=
  hostCommand 0x04 (fun n => decide (n % 6 = 0)) .configuring ruleSetProfile
def cmdLoadCarryRecord : List Byte → State → State :=
  hostCommand 0x05 (len 29) .configuring ruleLoadCarryRecord
def cmdStart : List Byte → State → State := hostCommand 0x06 (len 0) .configuring ruleStart
def cmdRestart : List Byte → State → State := hostCommand 0x1A (len 0) .both ruleRestart

def execSetFloor (window : List Byte) (s : State) : Host.Outcome State Fault Refusal :=
  .next (cmdSetFloor window s)
def execSetCabinet (window : List Byte) (s : State) : Host.Outcome State Fault Refusal :=
  .next (cmdSetCabinet window s)
def execLoadAgeingTable (window : List Byte) (s : State) : Host.Outcome State Fault Refusal :=
  .next (cmdLoadAgeingTable window s)
def execSetProfile (window : List Byte) (s : State) : Host.Outcome State Fault Refusal :=
  .next (cmdSetProfile window s)
def execLoadCarryRecord (window : List Byte) (s : State) : Host.Outcome State Fault Refusal :=
  .next (cmdLoadCarryRecord window s)
def execStart (window : List Byte) (s : State) : Host.Outcome State Fault Refusal :=
  .next (cmdStart window s)
def execRestart (window : List Byte) (s : State) : Host.Outcome State Fault Refusal :=
  .next (cmdRestart window s)

/-! ## Hard reset (R171) -/

/-- An input sampled at the release of reset (R40, R46). -/
def LineIn.sampled (l : LineIn) : LineIn := { raw := l.raw, qual := l.raw, timer := none }

def rawFeedback (f : Feedback) : FbMode :=
  if f.rawInv then (if f.rawByp then .invalid else .inv) else (if f.rawByp then .byp else .off)

def Feedback.sampled (f : Feedback) : Feedback := { f with qual := rawFeedback f, timer := none }

/-- The CLU at the release of reset: its outputs at their hard-reset values, its inputs sampled. -/
def Clu.resampled (c : Clu) : Clu :=
  { Clu.blank with
    invFault := c.invFault.sampled, overload := c.overload.sampled, bypOk := c.bypOk.sampled,
    fb := c.fb.sampled, input := c.input.sampled, bypassIn := c.bypassIn.sampled,
    output := c.output.sampled, battery := c.battery.sampled, maint := c.maint.sampled,
    alarmIn := c.alarmIn.sampled }

/-- The part after a hard reset with the given strap levels. The raw line levels and the waiting commands
stand outside the part and are kept (DESIGN CHOICE, log entry 2). -/
def hardReset (station : BitVec 4) (rate : BitVec 2) (s : State) : State :=
  let own : Station := Fin.ofNat 16 station.toNat
  let clu := s.clu.resampled
  let s₁ : State :=
    { State.reset with
      link := Link.blank own (LineRate.ofStraps rate), peers := blankPeers own, clu := clu,
      trc := { Trc.blank with ownMode := clu.fb.qual.adopted }, pending := s.pending }
  if clu.alarmIn.qual then tellAlarmInput s₁ else s₁

def execHardReset (station : BitVec 4) (rate : BitVec 2) (s : State) :
    Host.Outcome State Fault Refusal :=
  .next (hardReset station rate s)

end Sys2Proof.Machine
end

