-- ==== Sys2Proof/Machine/Reads.lean ====
section
/-! DEFINITION. The commands that read: state, floor, peers, events, records, dues, log and result (R27,
R30, R52, R70, R144, R165, R177, R178). -/

namespace Sys2Proof.Machine

def ruleReadStatus : Rule := fun _ s => (s, bodyReply (statusBody s))

def ruleReadFloor : Rule := fun _ s => (s, bodyReply (floorBody s))

/-- The entry that a command names: none for the own number and for a number above 15 (R27, R30). -/
def namedPeer (args : List Byte) (s : State) : Option Peer :=
  match stationAt args 0 with
  | some p => findPeer p s
  | none => none

/-- READ PEER; an ABSENT entry is returned with every field absent or 0 (R182). -/
def ruleReadPeer : Rule := fun args s =>
  match namedPeer args s with
  | none => (s, badArgument)
  | some e => (s, bodyReply (if e.presence = .absent then (Peer.blank e.station).body else e.body))

def Markers.cleared (m : Markers) (which : Byte) : Markers :=
  { presence := m.presence && !which.getLsbD 0, mode := m.mode && !which.getLsbD 1,
    claim := m.claim && !which.getLsbD 2, health := m.health && !which.getLsbD 3 }

/-- CLEAR PEER MARKERS (R27). -/
def ruleClearPeerMarkers : Rule := fun args s =>
  match namedPeer args s with
  | none => (s, badArgument)
  | some e =>
    (updatePeer e.station (fun e => { e with markers := e.markers.cleared (args.getD 1 0#8) }) s, okReply)

/-! ## Events (R177) -/

def oldestOf (c : EventClass) (l : List EventRec) : Option EventRec := l.find? fun r => decide (r.cls = c)

/-- The class that READ EVENT takes from: the highest of which the queue holds a record. -/
def highestClass (l : List EventRec) : EventClass :=
  if (oldestOf .alarm l).isSome then .alarm else if (oldestOf .notice l).isSome then .notice else .info

/-- The queue after the oldest record of the highest class has been removed. -/
def dropEvent (l : List EventRec) : List EventRec := l.eraseP fun r => decide (r.cls = highestClass l)

/-- READ EVENT. The header shows the events-lost flag as it stood when the command was taken. -/
def ruleReadEvent : Rule := fun _ s =>
  match oldestOf (highestClass s.hpi.events) s.hpi.events with
  | none => (s, okReply)
  | some r =>
    let left := dropEvent s.hpi.events
    (s.modHpi fun h => { h with events := left, eventsLost := if left = [] then false else h.eventsLost },
      { bodyReply r.bytes with lost := some s.hpi.eventsLost })

/-! ## Records -/

def ruleReadCarryRecord : Rule := fun _ s => (s, bodyReply (carryNow s).bytes)

def ruleReadDues : Rule := fun _ s => (s, bodyReply (duesBody s))

/-- READ VISIT LOG, by an index from the newest record (R165). -/
def ruleReadVisitLog : Rule := fun args s =>
  if 15 < byteAt args 0 then (s, badArgument)
  else
    match s.vsm.log.reverse[byteAt args 0]? with
    | some r => (s, bodyReply r.bytes)
    | none => (s, okReply)

/-- READ TEST RESULT; it turns ENDED to IDLE (R144). -/
def ruleReadTestResult : Rule := fun _ s =>
  (if s.tsq.state = .ended then s.modTsq fun t => { t with state := .idle } else s,
    match s.tsq.result with
    | some r => bodyReply r.bytes
    | none => okReply)

/-- SILENCE HORN (R52). -/
def ruleSilenceHorn : Rule := fun _ s =>
  (s.modClu fun c => { c with horn := false, hornTimer := none }, okReply)

/-! ## The commands -/

def cmdReadStatus : List Byte → State → State := hostCommand 0x10 (len 0) .both ruleReadStatus
def cmdReadFloor : List Byte → State → State := hostCommand 0x11 (len 0) .both ruleReadFloor
def cmdReadPeer : List Byte → State → State := hostCommand 0x12 (len 1) .both ruleReadPeer
def cmdClearPeerMarkers : List Byte → State → State := hostCommand 0x13 (len 2) .both ruleClearPeerMarkers
def cmdReadEvent : List Byte → State → State := hostCommand 0x14 (len 0) .both ruleReadEvent
def cmdReadCarryRecord : List Byte → State → State := hostCommand 0x15 (len 0) .both ruleReadCarryRecord
def cmdReadDues : List Byte → State → State := hostCommand 0x16 (len 0) .both ruleReadDues
def cmdReadVisitLog : List Byte → State → State := hostCommand 0x17 (len 1) .both ruleReadVisitLog
def cmdReadTestResult : List Byte → State → State := hostCommand 0x18 (len 0) .both ruleReadTestResult
def cmdSilenceHorn : List Byte → State → State := hostCommand 0x19 (len 0) .both ruleSilenceHorn

def execReadStatus (window : List Byte) (s : State) : Host.Outcome State Fault Refusal :=
  .next (cmdReadStatus window s)
def execReadFloor (window : List Byte) (s : State) : Host.Outcome State Fault Refusal :=
  .next (cmdReadFloor window s)
def execReadPeer (window : List Byte) (s : State) : Host.Outcome State Fault Refusal :=
  .next (cmdReadPeer window s)
def execClearPeerMarkers (window : List Byte) (s : State) : Host.Outcome State Fault Refusal :=
  .next (cmdClearPeerMarkers window s)
def execReadEvent (window : List Byte) (s : State) : Host.Outcome State Fault Refusal :=
  .next (cmdReadEvent window s)
def execReadCarryRecord (window : List Byte) (s : State) : Host.Outcome State Fault Refusal :=
  .next (cmdReadCarryRecord window s)
def execReadDues (window : List Byte) (s : State) : Host.Outcome State Fault Refusal :=
  .next (cmdReadDues window s)
def execReadVisitLog (window : List Byte) (s : State) : Host.Outcome State Fault Refusal :=
  .next (cmdReadVisitLog window s)
def execReadTestResult (window : List Byte) (s : State) : Host.Outcome State Fault Refusal :=
  .next (cmdReadTestResult window s)
def execSilenceHorn (window : List Byte) (s : State) : Host.Outcome State Fault Refusal :=
  .next (cmdSilenceHorn window s)

end Sys2Proof.Machine
end

