-- ==== Sys2Proof/Machine/Control.lean ====
section
/-! DEFINITION. The commands that act on the cabinet: transfers, JOIN, battery tests, visits and the alarm
latch (R49, R91, R101, R109, R131, R137, R139, R151, R160 to R162). -/

namespace Sys2Proof.Machine

/-! ## Transfers (R91, R101, R109) -/

/-- The conditions of TRANSFER that hold for both directions, in their order. -/
def transferRefusal (dir : Direction) (s : State) : Option Reason :=
  if isolatedFlag s then some .isolated
  else if !ownInSource s dir then some .wrongMode
  else if s.trc.activity ≠ .none then some .busy
  else if linkMuted s then some .linkMuted
  else if s.ftu.align = .aligning then some .notAligned
  else
    match dir with
    | .toBypass =>
      if s.tsq.state.inProgress then some .testRunning
      else if !s.clu.bypOk.qual then some .bypassUnavailable
      else none
    | .toInverter =>
      if holdFlag s then some .hold
      else if maintBars s then some .maintClosed
      else if !inverterReady s then some .notReady
      else if returnCapacity s < floorLoad s then some .capacity
      else none

/-- TRANSFER (R91). -/
def ruleTransfer : Rule := fun args s =>
  match Direction.ofCode (byteAt args 0) with
  | none => (s, badArgument)
  | some dir =>
    match transferRefusal dir s with
    | some r => (s, refusedReply r)
    | none => (settle (beginProposal dir s), okReply)

/-- The conditions of FORCE BYPASS (R101). -/
def forceRefusal (s : State) : Option Reason :=
  if isolatedFlag s then some .isolated
  else if !s.clu.bypOk.qual && (decide (s.trc.ownMode = .inv) || decide (s.trc.activity ≠ .none)) then
    some .bypassUnavailable
  else none

def ruleForceBypass : Rule := fun _ s =>
  match forceRefusal s with
  | some r => (s, refusedReply r)
  | none => (settle (force .host s), okReply)

/-- JOIN (R109). -/
def ruleJoin : Rule := fun _ s =>
  match joinRefusal false s with
  | some r => (s, refusedReply r)
  | none => (settle (joinFloor s), okReply)

/-! ## Battery tests (R131, R137, R139) -/

/-- A visit that keeps a test from being begun: any but an INSPECTION. -/
def visitBars (s : State) : Bool :=
  match s.vsm.visit with
  | some v => decide (v.kind ≠ .inspection)
  | none => false

/-- A run is begun and numbered (R131). -/
def beginRun (single : Bool) (s : State) : State :=
  let n := s.bau.carry.nextRun
  let s₁ := s.modBau fun b =>
    { b with carry := { b.carry with nextRun := if n = 65535 then 1 else n + 1 } }
  takeClaimRequest .test
    (s₁.modTsq fun t => { t with state := .claiming, run := { RunRec.blank with number := n, single := single } })

def ruleRunTest : Rule := fun args s =>
  if s.tsq.state = .ended then (s, refusedReply .resultPending)
  else if s.tsq.state.inProgress then (s, busyReply)
  else if visitBars s then (s, busyReply)
  else if s.lva.isSome then (s, busyReply)
  else
    match claimRefusal s with
    | some r => (s, refusedReply r)
    | none => (settle (beginRun (decide (byteAt args 0 ≠ 0)) s), okReply)

/-- CONTINUE TEST (R137). -/
def ruleContinueTest : Rule := fun _ s =>
  match s.tsq.state with
  | .paused n => (enterStep (n + 1) s, okReply)
  | .idle => (s, wrongState)
  | .claiming => (s, wrongState)
  | .running _ => (s, wrongState)
  | .ended => (s, wrongState)

/-- ABORT TEST (R139). -/
def ruleAbortTest : Rule := fun _ s =>
  if s.tsq.state.inProgress then (settle (endRun .aborted s), okReply) else (s, wrongState)

/-! ## Visits (R151, R160 to R162) -/

/-- The refusals of OPEN VISIT after its kind is known (R151). -/
def openRefusal (kind : VisitKind) (s : State) : Option Reply :=
  if s.vsm.visit.isSome then some busyReply
  else
    match kind with
    | .inspection => none
    | .floorMaintenance => if s.trc.ownMode = .byp then none else some (refusedReply .wrongMode)
    | .isolation =>
      match s.trc.ownMode with
      | .byp => some (refusedReply .wrongMode)
      | .off => if s.trc.activity = .none then none else some (refusedReply .busy)
      | .inv => (claimRefusal s).map refusedReply

/-- The record of a visit just opened, before its first state is entered (R150). -/
def newVisit (number : Nat) (kind : VisitKind) (technician : Nat) (claimed : Bool) (s : State) : Visit :=
  { number := number, kind := kind, technician := technician, openedMinute := s.bau.minutes,
    state := .opened, tasks := [], claimed := claimed, stepTimer := none, joinRequested := false,
    retryTimer := none, joinRefused := false, outputOpened := false }

/-- The first state of each kind (R151). VISIT_STATE of REQUESTED is raised before what the LVA raises where it answers
the request at once, by a grant, a denial or a full queue (DESIGN CHOICE, log entry 15). -/
def enterFirstState (v : Visit) (s : State) : State :=
  match v.kind with
  | .inspection => enterVisitState .opened s
  | .isolation =>
    if v.claimed then takeClaimRequest .service (enterVisitState .requested s) else enterIsolating s
  | .floorMaintenance =>
    let s₁ := enterVisitState .maintWait s
    if s₁.clu.maint.qual then enterMaintOn s₁ else s₁

/-- The visit takes its number, fills its record and enters its first state (R151). -/
def openVisit (kind : VisitKind) (technician : Nat) (s : State) : State :=
  let claimed := decide (kind = .isolation) && decide (s.trc.ownMode = .inv)
  let v := newVisit (visitNumber s) kind technician claimed s
  enterFirstState v ((noteVisitNumber (visitNumber s) s).modVsm fun m => { m with visit := some v })

def ruleOpenVisit : Rule := fun args s =>
  match VisitKind.ofCode (byteAt args 0) with
  | none => (s, badArgument)
  | some kind =>
    match openRefusal kind s with
    | some r => (s, r)
    | none => (settle (openVisit kind (wordAt args 1) s), okReply)

/-- The list with a task appended; a task already held keeps its first place (R162). -/
def withTask (t : Task) (l : List Task) : List Task := if l.contains t then l else l ++ [t]

/-- RECORD TASK (R162). -/
def ruleRecordTask : Rule := fun args s =>
  match Task.ofCode (byteAt args 0) with
  | none => (s, badArgument)
  | some t =>
    match s.vsm.visit with
    | none => (s, wrongState)
    | some v =>
      if t = .batteryReplaced ∧ v.state ≠ .isolated then (s, refusedReply .notIsolated)
      else if t = .batteryReplaced ∧ s.clu.battery.qual then (s, refusedReply .breakers)
      else (modVisit (fun v => { v with tasks := withTask t v.tasks }) s, okReply)

/-- CLOSE VISIT, by the state of the visit (R160). -/
def ruleCloseVisit : Rule := fun _ s =>
  match s.vsm.visit with
  | none => (s, wrongState)
  | some v =>
    match v.state with
    | .opened => (settle (closeVisit .completed [] s), okReply)
    | .requested => (s, wrongState)
    | .isolating => (s, wrongState)
    | .isolated => (settle (enterRestoring s), okReply)
    | .restoring => (s, busyReply)
    | .maintWait => (s, wrongState)
    | .maintOn =>
      if !s.clu.maint.qual && s.clu.output.qual then (settle (closeVisit .completed [] s), okReply)
      else (s, refusedReply .breakers)

/-- CANCEL VISIT, by the state of the visit (R161). -/
def ruleCancelVisit : Rule := fun _ s =>
  match s.vsm.visit with
  | none => (s, wrongState)
  | some v =>
    match v.state with
    | .opened => (settle (closeVisit .cancelled [] s), okReply)
    | .maintWait => (settle (closeVisit .cancelled [] s), okReply)
    | .requested => (settle (closeVisit .cancelled [] (releaseKind .service s)), okReply)
    | .isolating => (settle (leaveIsolating .cancelled [] s), okReply)
    | .isolated => (s, wrongState)
    | .restoring => (s, wrongState)
    | .maintOn => (s, wrongState)

/-- CLEAR ALARM INPUT (R49). -/
def ruleClearAlarmInput : Rule := fun _ s =>
  match s.hpi.cab.alarmMode with
  | .edge => (s.modClu fun c => { c with alarmLatch := false }, okReply)
  | .level => (s, okReply)

/-! ## The commands -/

def cmdTransfer : List Byte → State → State := hostCommand 0x20 (len 1) .running ruleTransfer
def cmdForceBypass : List Byte → State → State := hostCommand 0x21 (len 0) .running ruleForceBypass
def cmdJoin : List Byte → State → State := hostCommand 0x22 (len 0) .running ruleJoin
def cmdRunTest : List Byte → State → State := hostCommand 0x23 (len 1) .running ruleRunTest
def cmdContinueTest : List Byte → State → State := hostCommand 0x24 (len 0) .running ruleContinueTest
def cmdAbortTest : List Byte → State → State := hostCommand 0x25 (len 0) .running ruleAbortTest
def cmdOpenVisit : List Byte → State → State := hostCommand 0x26 (len 3) .running ruleOpenVisit
def cmdRecordTask : List Byte → State → State := hostCommand 0x27 (len 1) .running ruleRecordTask
def cmdCloseVisit : List Byte → State → State := hostCommand 0x28 (len 0) .running ruleCloseVisit
def cmdCancelVisit : List Byte → State → State := hostCommand 0x29 (len 0) .running ruleCancelVisit
def cmdClearAlarmInput : List Byte → State → State := hostCommand 0x2A (len 0) .running ruleClearAlarmInput

def execTransfer (window : List Byte) (s : State) : Host.Outcome State Fault Refusal :=
  .next (cmdTransfer window s)
def execForceBypass (window : List Byte) (s : State) : Host.Outcome State Fault Refusal :=
  .next (cmdForceBypass window s)
def execJoin (window : List Byte) (s : State) : Host.Outcome State Fault Refusal :=
  .next (cmdJoin window s)
def execRunTest (window : List Byte) (s : State) : Host.Outcome State Fault Refusal :=
  .next (cmdRunTest window s)
def execContinueTest (window : List Byte) (s : State) : Host.Outcome State Fault Refusal :=
  .next (cmdContinueTest window s)
def execAbortTest (window : List Byte) (s : State) : Host.Outcome State Fault Refusal :=
  .next (cmdAbortTest window s)
def execOpenVisit (window : List Byte) (s : State) : Host.Outcome State Fault Refusal :=
  .next (cmdOpenVisit window s)
def execRecordTask (window : List Byte) (s : State) : Host.Outcome State Fault Refusal :=
  .next (cmdRecordTask window s)
def execCloseVisit (window : List Byte) (s : State) : Host.Outcome State Fault Refusal :=
  .next (cmdCloseVisit window s)
def execCancelVisit (window : List Byte) (s : State) : Host.Outcome State Fault Refusal :=
  .next (cmdCancelVisit window s)
def execClearAlarmInput (window : List Byte) (s : State) : Host.Outcome State Fault Refusal :=
  .next (cmdClearAlarmInput window s)

end Sys2Proof.Machine
end

