-- ==== Sys2Proof/Machine/Windows.lean ====
section
/-! DEFINITION. The windows of the host port that are no one command: the read window, the waiting slot
and the code that names no command (R167, R168, R170). -/

namespace Sys2Proof.Machine

/-- A code that names no command is answered UNKNOWN_COMMAND and nothing else changes (R170). -/
def cmdUnknown (code : Byte) (window : List Byte) (s : State) : State :=
  respond (plainReply .unknownCommand) (openCommand code window s)

/-- Take the command frame whose first byte is the code (R182). -/
def takeFrame (code : Byte) (window : List Byte) (s : State) : State :=
  match code.toNat with
  | 0x01 => cmdSetFloor window s
  | 0x02 => cmdSetCabinet window s
  | 0x03 => cmdLoadAgeingTable window s
  | 0x04 => cmdSetProfile window s
  | 0x05 => cmdLoadCarryRecord window s
  | 0x06 => cmdStart window s
  | 0x10 => cmdReadStatus window s
  | 0x11 => cmdReadFloor window s
  | 0x12 => cmdReadPeer window s
  | 0x13 => cmdClearPeerMarkers window s
  | 0x14 => cmdReadEvent window s
  | 0x15 => cmdReadCarryRecord window s
  | 0x16 => cmdReadDues window s
  | 0x17 => cmdReadVisitLog window s
  | 0x18 => cmdReadTestResult window s
  | 0x19 => cmdSilenceHorn window s
  | 0x1A => cmdRestart window s
  | 0x20 => cmdTransfer window s
  | 0x21 => cmdForceBypass window s
  | 0x22 => cmdJoin window s
  | 0x23 => cmdRunTest window s
  | 0x24 => cmdContinueTest window s
  | 0x25 => cmdAbortTest window s
  | 0x26 => cmdOpenVisit window s
  | 0x27 => cmdRecordTask window s
  | 0x28 => cmdCloseVisit window s
  | 0x29 => cmdCancelVisit window s
  | 0x2A => cmdClearAlarmInput window s
  | _ => cmdUnknown code window s

/-- The bytes that a read window finds: the waiting response, or one with the status EMPTY (R168). -/
def readable (s : State) : List Byte :=
  s.hpi.response.getD (responseBytes (plainReply .empty) s)

/-- A read window: however many bytes the host clocks, the response then counts as read (R168). -/
def readWindow (clocked : Nat) (s : State) : State :=
  s.modHpi fun h => { h with shiftedOut := (readable s).take clocked, response := none }

def execReadWindow (clocked : Nat) (s : State) : Host.Outcome State Fault Refusal :=
  .next (readWindow clocked s)

/-- A window that can enter the command buffer or the waiting slot: it began with a command code (R167). -/
def isCommandFrame (window : List Byte) : Bool :=
  match window with
  | [] => false
  | code :: _ => decide (code ≠ 0xFF#8)

/-- A command frame is taken; a window that carries none is ignored. -/
def takeWindow (frame : List Byte) (s : State) : State :=
  match frame with
  | [] => s
  | code :: window => if code = 0xFF#8 then s else takeFrame code window s

/-- The waiting slot after the windows that closed while a command was being taken: the first command frame
fills an empty slot, and the others are discarded (R167). -/
def fillSlot (slot : Option (List Byte)) (windows : List (List Byte)) : Option (List Byte) :=
  match slot with
  | some w => some w
  | none => (windows.filter isCommandFrame).head?

def setWaiting (slot : Option (List Byte)) (s : State) : State := s.modHpi fun h => { h with waiting := slot }

/-- Take the command in progress while a frame stands in the waiting slot: its effects stand, its response is
discarded unread, and READY is not raised for it (R167). The slot is then empty. -/
def takeUnanswered (frame next : List Byte) (s : State) : State :=
  (takeWindow frame (setWaiting (some next) s)).modHpi fun h => { h with waiting := none, response := none }

/-- Take the command in progress, then, one after the other, the frames that its waiting slot held: `closed`
lists, for each command taken, the windows that closed meanwhile. The last command is answered. -/
def takeRounds (frame : List Byte) (closed : List (List (List Byte))) (s : State) : State :=
  match closed with
  | [] =>
    match s.hpi.waiting with
    | none => takeWindow frame s
    | some next => takeWindow next (takeUnanswered frame next s)
  | windows :: more =>
    match fillSlot s.hpi.waiting windows with
    | none => takeWindow frame s
    | some next => takeRounds next more (takeUnanswered frame next s)

/-- The command in progress is taken, and the frame of the waiting slot after it, in one step (R167). -/
def waitingSlotTake (windows : WaitingWindows) (s : State) : State :=
  if isCommandFrame windows.inProgress then takeRounds windows.inProgress windows.closed s else s

def execWaitingSlotTake (windows : WaitingWindows) (s : State) : Host.Outcome State Fault Refusal :=
  .next (waitingSlotTake windows s)

def execUnknownCommand (code : Byte) (window : List Byte) (s : State) : Host.Outcome State Fault Refusal :=
  .next (cmdUnknown code window s)

end Sys2Proof.Machine
end

