-- ==== Sys2Proof/Machine/Line.lean ====
section
/-! DEFINITION. The floor line: idle, slots, attempts and their outcomes, discarded messages, the duplicate
STATUS and the mute timer (chapter 1). -/

namespace Sys2Proof.Machine

/-! ## Idle and slots (R7 to R10) -/

/-- The line is idle; whatever was being received has ended before (R7). -/
def lineIdle (s : State) : State :=
  s.modLink fun l => if l.attempt.isSome then l else { l with lineIdle := true, rx := none }

def execLineIdle (s : State) : Host.Outcome State Fault Refusal := .next (lineIdle s)

/-- A start bit or noise that the station did not drive (R9, R10). On an idle line it begins a message,
whose receive-start time is sampled; otherwise it is noise (R3, R6). -/
def startBitSensed (s : State) : State :=
  s.modLink fun l =>
    if l.lineIdle then { l with lineIdle := false, lastTransmitter := false, rx := some s.ftu.floorTime }
    else { l with lastTransmitter := false }

def execStartBitSensed (s : State) : Host.Outcome State Fault Refusal := .next (startBitSensed s)

/-- The class that the station offers: its highest-class queue that is not empty (R8). -/
def offeredClass (l : Link) : Option TxClass :=
  if !l.urgent.isEmpty then some .urgent
  else if !l.coord.isEmpty then some .coord
  else if l.status.isSome then some .status
  else none

/-- The head of a class's queue. -/
def headOf (c : TxClass) (l : Link) : Option TxEntry :=
  match c with
  | .urgent => l.urgent.head?
  | .coord => l.coord.head?
  | .status => l.status

/-- The slot index of the class offered (R8). -/
def slotIndex (l : Link) (c : TxClass) : Nat :=
  match c with
  | .urgent => l.station.val
  | .coord => 16 + l.station.val + (if l.lastTransmitter then 16 else 0)
  | .status => 32 + l.station.val + (if l.lastTransmitter then 16 else 0)

/-- The attempt that a slot brings: only a station in ACTIVE, on an idle line, at its own slot (R7). -/
def attemptAt (slot : Nat) (now : FloorTime) (l : Link) : Option Attempt :=
  match offeredClass l with
  | none => none
  | some c =>
    match headOf c l with
    | none => none
    | some e =>
      if l.state = .active ∧ l.lineIdle ∧ l.attempt = none ∧ slot = slotIndex l c then
        some { cls := c, txStart := now, frame := encodeFloorFrame l.station e.msg }
      else none

def slotAttempt (slot : Fin 64) (s : State) : State :=
  match attemptAt slot.val s.ftu.floorTime s.link with
  | some a => s.modLink fun l => { l with attempt := some a, lineIdle := false }
  | none => s

def execSlotAttempt (slot : Fin 64) (s : State) : Host.Outcome State Fault Refusal :=
  .next (slotAttempt slot s)

/-! ## The outcomes of an attempt (R11 to R14) -/

/-- Not-sent with cause FAILURES, as the block that queued the message takes it (R92, R95, R115). -/
def reportFailure (m : Msg) (s : State) : State :=
  match m, s.trc.activity, s.trc.proposal with
  | .propose sq _ _ _, .proposed id _, some r =>
    if sq = id.seq ∧ r.phase = some .queued then dropProposal (some .notSent) [] s else s
  | .order i, .proposed id _, some r =>
    if i = id ∧ r.phase = some .ordering then cancelProposal id .notSent [] s else s
  | .claim kind time, _, _ =>
    match s.lva with
    | some c =>
      if c.kind = kind ∧ c.time = time ∧ !c.granted ∧ !c.inWindow then
        denyClaim Reason.notSent.byte s.own s
      else s
    | none => s
  | _, _, _ => s

/-- The link enters MUTED with cause FAILURES; the detail names the kind discarded (R16). -/
def muteForFailures (m : Msg) (s : State) : State :=
  raise .linkMuted (u8 LinkState.mutedFailures.muteCode ++ u8 m.kindCode)
    (s.modLink fun l => { l with state := .mutedFailures, muteTimer := some muteTerm })

/-- The link after a mismatch on a line that carried a frame: the frame is received from its first bit, whose
time is the transmit-start time, and the last transmitter is another station (R9, R11). -/
def afterAbort (a : Attempt) (l : Link) : Link :=
  { l with attempt := none, lastTransmitter := false, lineIdle := false, rx := some a.txStart }

/-- The link after a readback mismatch. Where no dominant bit of the attempt was sensed the line is still idle
(R7) and carries no frame; the last-transmitter flag then stands (DESIGN CHOICE, log entry 21). -/
def afterMismatch (x : Mismatch) (a : Attempt) (l : Link) : Link :=
  match x with
  | .sensedDominant => afterAbort a l
  | .sensedRecessive false => afterAbort a l
  | .sensedRecessive true => { l with attempt := none, lineIdle := true }

/-- Put an entry back at the head of its class's queue. -/
def putHead (c : TxClass) (e : TxEntry) (l : Link) : Link :=
  match c with
  | .urgent => { l with urgent := e :: l.urgent.drop 1 }
  | .coord => { l with coord := e :: l.coord.drop 1 }
  | .status => { l with status := some e }

/-- Remove the head of a class's queue; a STATUS held back fills the slot (R13). -/
def removeHead (c : TxClass) (l : Link) : Link :=
  match c with
  | .urgent => { l with urgent := l.urgent.drop 1 }
  | .coord => settleCongestion { l with coord := l.coord.drop 1 }
  | .status =>
    { l with status := l.heldStatus.map fun m => freshEntry (.status m), heldStatus := none }

/-- A failed attempt of the entry `e` (R12, R13, R15). -/
def failEntry (c : TxClass) (e : TxEntry) (s : State) : State :=
  if maxAttempts ≤ e.attempts + 1 then
    let s₁ := s.modLink (removeHead c)
    muteForFailures e.msg (if e.withdrawn.isSome then s₁ else reportFailure e.msg s₁)
  else if e.withdrawn.isSome || (decide (c = .status) && s.link.heldStatus.isSome) then
    s.modLink (removeHead c)
  else s.modLink (putHead c { e with attempts := e.attempts + 1 })

def attemptFailed (x : Mismatch) (s : State) : State :=
  match s.link.attempt with
  | none => s
  | some a =>
    match headOf a.cls s.link with
    | none => s.modLink (afterMismatch x a)
    | some e => settle (failEntry a.cls e (s.modLink (afterMismatch x a)))

def execAttemptFailed (x : Mismatch) (s : State) : Host.Outcome State Fault Refusal :=
  .next (attemptFailed x s)

/-- Completion of the own STATUS (R32). One that was held back is queued anew. -/
def statusSent (txStart : FloorTime) (s : State) : State :=
  let s₁ := s.modPvu fun p => { p with nextSeq := p.nextSeq + 1#8, lastSent := some txStart }
  if s.link.status.isSome then queueStatus s₁ else s₁

/-- Completion of a PROPOSE (R93, R100). -/
def proposeSent (sq : Byte) (e : TxEntry) (s : State) : State :=
  match e.withdrawn, s.trc.activity, s.trc.proposal with
  | some reason, _, _ => postCoord (.cancel { station := s.own, seq := sq } reason) s
  | none, .proposed id dir, some r =>
    if sq = id.seq ∧ r.phase = some .queued then
      if reached s.ftu.floorTime (r.executeAt - windowTime s) then
        postCoord (.cancel id Reason.late.byte) (dropProposal (some .late) [] s)
      else
        checkConsents <|
          modProposal
            (fun r =>
              { r with
                phase := some .window
                consentSet := (peersInSource s dir).map (·.station)
                consents := []
                window := some (ticksOfMs s.hpi.floor.respWindow) }) s
    else s
  | none, _, _ => s

/-- Completion of an ORDER (R95). -/
def orderSent (i : PropId) (s : State) : State :=
  match s.trc.activity, s.trc.proposal with
  | .proposed id dir, some r => if i = id ∧ r.phase = some .ordering then arm id dir r.executeAt s else s
  | _, _ => s

/-- Completion of a CLAIM (R115, R116, R120, R126). -/
def claimSent (kind : ClaimKind) (time : FloorTime) (e : TxEntry) (s : State) : State :=
  match e.withdrawn, s.lva with
  | none, some c =>
    if c.kind = kind ∧ c.time = time ∧ !c.granted then
      s.setLva (some { c with queueTimer := none, inWindow := true, windowTimer := some (claimTerm s) })
    else postCoord (.release kind time) s
  | _, _ => postCoord (.release kind time) s

/-- Completion as the block that queued the message takes it (R14). -/
def reportSent (e : TxEntry) (txStart : FloorTime) (s : State) : State :=
  match e.msg with
  | .status _ => statusSent txStart s
  | .propose sq _ _ _ => proposeSent sq e s
  | .order i => orderSent i s
  | .claim kind time => claimSent kind time e s
  | .consent _ => s
  | .objectTransfer _ _ => s
  | .objectClaim _ _ _ => s
  | .objectOther _ _ => s
  | .cancel _ _ => s
  | .force _ => s
  | .release _ _ => s

def attemptComplete (s : State) : State :=
  match s.link.attempt with
  | none => s
  | some a =>
    match headOf a.cls s.link with
    | none => s.modLink fun l => { l with attempt := none, lastTransmitter := true }
    | some e =>
      settle <|
        reportSent e a.txStart
          (s.modLink fun l => { removeHead a.cls l with attempt := none, lastTransmitter := true })

def execAttemptComplete (s : State) : Host.Outcome State Fault Refusal := .next (attemptComplete s)

/-! ## Messages that reach no block (R3, R4, R6) -/

def endReception (s : State) : State := s.modLink fun l => { l with rx := none }

def execMessageDiscarded (_frame : List Byte) (s : State) : Host.Outcome State Fault Refusal :=
  .next (endReception s)

def execOwnMessageHeard (_frame : List Byte) (s : State) : Host.Outcome State Fault Refusal :=
  .next (endReception s)

/-- The message that the receiver accepts from a frame: it passes the checks of R4 to R6, and it is one that began at
a start bit after an idle line (R3). A frame with no such start, on a busy line or cut by a reset that emptied the
buffer, is noise and is not received (log entry 6). -/
def acceptedMessage (frame : List Byte) (s : State) : Option (Station × Msg) :=
  match s.link.rx, parseFloorFrame frame with
  | some _, .accepted p m => some (p, m)
  | _, _ => none

/-! ## The duplicate STATUS (R17) -/

def muteForDuplicate (s : State) : State :=
  raise .linkMuted (u8 LinkState.mutedDuplicate.muteCode)
    ((raise .duplicateStation [] s).modLink fun l => { l with state := .mutedDuplicate, muteTimer := none })

/-- The FLC acts on a duplicate STATUS by the link state. -/
def duplicateHeard (s : State) : State :=
  match s.link.state with
  | .listen =>
    if s.link.duplicateSeen then s
    else raise .duplicateStation [] (s.modLink fun l => { l with duplicateSeen := true })
  | .active => muteForDuplicate s
  | .mutedFailures => muteForDuplicate s
  | .mutedDuplicate => s

/-- The frame is an accepted STATUS whose sender field is the own number. -/
def isDuplicate (frame : List Byte) (s : State) : Bool :=
  match acceptedMessage frame s with
  | some (p, .status _) => decide (p = s.own)
  | _ => false

def duplicateStatus (frame : List Byte) (s : State) : State :=
  if isDuplicate frame s then duplicateHeard (endReception s) else endReception s

def execDuplicateStatus (frame : List Byte) (s : State) : Host.Outcome State Fault Refusal :=
  .next (duplicateStatus frame s)

/-! ## The mute timer (R12, R16) -/

def TxEntry.renewed (e : TxEntry) : TxEntry := { e with attempts := 0 }

/-- The mute timer ends (R16): ACTIVE, with the attempt counts cleared. R16 has the queued messages offered from the
next idle and does not say what stands for it on a line that is idle already: the idle flag stands as it is, so a slot
of the present idle may be used (DESIGN CHOICE, log entry 28). -/
def muteTimerExpiry (s : State) : State :=
  if s.link.state = .mutedFailures ∧ due s.link.muteTimer then
    raise .linkRestored []
      (s.modLink fun l =>
        { l with
          state := .active, muteTimer := none, urgent := l.urgent.map TxEntry.renewed,
          coord := l.coord.map TxEntry.renewed, status := l.status.map TxEntry.renewed })
  else s

def execMuteTimerExpiry (s : State) : Host.Outcome State Fault Refusal := .next (muteTimerExpiry s)

/-! ## Accepted messages from other stations (R6) -/

/-- The message that a frame delivers: accepted, from another sender, and in LISTEN a STATUS only. -/
def heard (frame : List Byte) (s : State) : Option (Station × Msg) :=
  match acceptedMessage frame s with
  | some (p, m) =>
    if p = s.own then none
    else if s.link.state = .listen ∧ m.cls ≠ .status then none
    else some (p, m)
  | none => none

end Sys2Proof.Machine
end

