-- ==== Sys2Proof/Machine/PeerView.lean ====
section
/-! DEFINITION. The peer table: a heard STATUS, the timers of an entry, and its claim record (R20 to R27,
R34, R108). -/

namespace Sys2Proof.Machine

/-! ## The claim record of an entry (R24, R25) -/

/-- The record that a PRESENT entry holds after a STATUS, from the record it held and the claim shown. -/
def claimAfter (held shown : Option ShownClaim) : Option ShownClaim :=
  match shown with
  | none => none
  | some c =>
    if c.granted then some c
    else
      match held with
      | some h => if h.kind = c.kind ∧ h.time = c.time then some h else none
      | none => none

/-- The claim timer runs on only where a PENDING record is kept. -/
def claimTimerAfter (held after : Option ShownClaim) (timer : Option Ticks) : Option Ticks :=
  match after with
  | some c => if !c.granted && decide (held = after) then timer else none
  | none => none

/-- Change the claim record of an entry, with its CLAIM marker where the record appears, changes or is removed (R26).
A heard CLAIM that passes and equals the PENDING record already held replaces it by R24, and R26 does not say whether
that is a change: the claim timer restarts, and no CLAIM marker is set (DESIGN CHOICE, log entry 29). -/
def setPeerClaim (p : Station) (claim : Option ShownClaim) (timer : Option Ticks) (s : State) : State :=
  match findPeer p s with
  | none => s
  | some e =>
    let s₁ := updatePeer p (fun e => { e with claim := claim, claimTimer := timer }) s
    if e.claim = claim then s₁ else markPeer p .claim s₁

/-! ## A STATUS applied to its entry (R20, R22, R34) -/

/-- The offset that a STATUS captures, or none (R34). -/
def capturedOffset (e : Peer) (m : StatusMsg) (linkDelay : Nat) : Option (BitVec 32) :=
  if e.presence ≠ .absent ∧ m.seq = e.seq + 1#8 then
    m.prevStart.map fun t => t + ticksTime linkDelay - e.rxStart
  else none

/-- The presence state that a STATUS brings (R20). -/
def Presence.onStatus : Presence → Presence
  | .absent => .joining
  | .joining => .present
  | .present => .present
  | .stale => .present

/-- Steps 1 to 3 of R22, after the presence change of R20. -/
def writeEntry (m : StatusMsg) (rxStart : FloorTime) (linkDelay : Nat) (e : Peer) : Peer :=
  let offset := capturedOffset e m linkDelay
  { e with
    presence := e.presence.onStatus
    presTimer := some presenceTerm
    staleTimer := none
    offset := offset
    fresh := if offset.isSome then 2 else 0
    seq := m.seq
    rxStart := rxStart
    report := m.report }

/-- The markers that a STATUS sets in the entry it finds (R26). -/
def markStatus (e : Peer) (m : StatusMsg) (s : State) : State :=
  let known := decide (e.presence ≠ .absent)
  let moved := decide (m.report.mode ≠ e.report.mode) || decide (m.report.isolated ≠ e.report.isolated)
  let s₁ := if known && moved then markPeer e.station .mode s else s
  if known && decide (m.report.weak ≠ e.report.weak) then markPeer e.station .health s₁ else s₁

/-- Apply an accepted STATUS to the entry it finds. -/
def applyStatus (e : Peer) (m : StatusMsg) (rxStart : FloorTime) (s : State) : State :=
  let p := e.station
  let s₁ := updatePeer p (writeEntry m rxStart s.hpi.floor.linkDelay) s
  let s₂ :=
    if e.presence = .joining ∨ e.presence = .stale then markPeer p .presence s₁ else s₁
  let s₃ := markStatus e m s₂
  if e.presence.onStatus = .present then
    let claim := claimAfter e.claim m.claim
    setPeerClaim p claim (claimTimerAfter e.claim claim e.claimTimer) s₃
  else s₃

/-! ## Split detection (R108) -/

/-- A STATUS that counts toward a split. -/
def splitShown (m : StatusMsg) (s : State) : Bool :=
  decide (s.trc.ownMode = .inv) && decide (s.trc.activity = .none) && !m.report.isolated
    && decide (m.report.mode = .byp)
    && (decide (m.report.act = .none) || decide (m.report.act = .mismatch))

def setSplit (p : Station) (n : Nat) (s : State) : State :=
  s.modTrc fun t => { t with splits := t.splits.set p n }

/-- The TRC takes a STATUS applied to a PRESENT entry. -/
def countSplit (p : Station) (m : StatusMsg) (s : State) : State :=
  if splitShown m s then
    let n := s.trc.splits.get p + 1
    let s₁ := setSplit p n s
    if 2 ≤ n then force .split (raise .splitDetected (stationByte p) s₁) else s₁
  else setSplit p 0 s

/-- A STATUS from a peer, as the PVU and then the TRC take it. Where one STATUS both fails the GRANTED own claim
(R122) and completes a split (R108), the rules do not say which of the LVA and the TRC acts first: here the claim is
evaluated again before the split is counted and the floor forced, so the claim is lost with CLAIM_LOST and a run ends
with MARGIN_LOST or MAINS_LOST, not with FORCED (DESIGN CHOICE, log entry 15). -/
def takeStatus (p : Station) (m : StatusMsg) (rxStart : FloorTime) (s : State) : State :=
  match findPeer p s with
  | none => s
  | some e =>
    let s₁ := settle (applyStatus e m rxStart s)
    if s.hpi.running && decide (e.presence.onStatus = .present) then settle (countSplit p m s₁) else s₁

/-- A heard STATUS is taken with its receive-start time (R6). -/
def statusReceived (frame : List Byte) (s : State) : State :=
  match s.link.rx, heard frame s with
  | some rxStart, some (p, .status m) => takeStatus p m rxStart (endReception s)
  | _, _ => endReception s

def execStatusReceived (frame : List Byte) (s : State) : Host.Outcome State Fault Refusal :=
  .next (statusReceived frame s)

/-! ## The timers of an entry (R21, R25) -/

/-- A PRESENT entry enters STALE; what waited for the station is told (R21, R94, R108). The TRC excuses the member
before the LVA evaluates the own claim again; R94 and R122 leave that order open (DESIGN CHOICE, log entry 15). -/
def goStale (p : Station) (s : State) : State :=
  let s₁ := updatePeer p
    (fun e => { e with presence := .stale, presTimer := none, staleTimer := some staleTerm }) s
  let s₂ := setPeerClaim p none none (markPeer p .presence s₁)
  settle (excuseMember p (setSplit p 0 s₂))

def clearEntry (p : Station) (s : State) : State := updatePeer p (fun _ => Peer.blank p) s

def presenceTimerExpiry (p : Station) (s : State) : State :=
  match findPeer p s with
  | none => s
  | some e =>
    if due e.presTimer then
      match e.presence with
      | .joining => clearEntry p s
      | .present => goStale p s
      | .absent => s
      | .stale => s
    else s

def execPresenceTimerExpiry (p : Station) (s : State) : Host.Outcome State Fault Refusal :=
  .next (presenceTimerExpiry p s)

def staleTimerExpiry (p : Station) (s : State) : State :=
  match findPeer p s with
  | none => s
  | some e => if e.presence = .stale ∧ due e.staleTimer then clearEntry p s else s

def execStaleTimerExpiry (p : Station) (s : State) : Host.Outcome State Fault Refusal :=
  .next (staleTimerExpiry p s)

def claimTimerExpiry (p : Station) (s : State) : State :=
  match findPeer p s with
  | none => s
  | some e =>
    if e.claim.map (·.granted) = some false ∧ due e.claimTimer then settle (setPeerClaim p none none s) else s

def execClaimTimerExpiry (p : Station) (s : State) : Host.Outcome State Fault Refusal :=
  .next (claimTimerExpiry p s)

end Sys2Proof.Machine
end

