-- ==== Sys2Proof/Machine/Clock.lean ====
section
/-! DEFINITION. The reference clock and floor time: the tick with every timer it moves, the slew, and the
boundary evaluation (R33, R35 to R38). -/

namespace Sys2Proof.Machine

/-! ## What one reference tick moves -/

def LineIn.tick (l : LineIn) : LineIn := { l with timer := tickDown l.timer }

def Peer.tick (e : Peer) : Peer :=
  { e with
    presTimer := tickDown e.presTimer, staleTimer := tickDown e.staleTimer,
    claimTimer := tickDown e.claimTimer }

def Clu.tick (c : Clu) : Clu :=
  { c with
    invFault := c.invFault.tick, overload := c.overload.tick, bypOk := c.bypOk.tick,
    fb := { c.fb with timer := tickDown c.fb.timer }, input := c.input.tick, bypassIn := c.bypassIn.tick,
    output := c.output.tick, battery := c.battery.tick, maint := c.maint.tick, alarmIn := c.alarmIn.tick,
    hornTimer := tickDown c.hornTimer }

/-- The silence timer counts up, and needs no count past 10 s (R57). -/
def Sns.tick (n : Sns) : Sns := { n with silence := n.silence.map fun t => min (t + 1) lostSilence }

/-- The minute divider counts reference cycles while RUNNING (R71). -/
def Bau.tick (running : Bool) (b : Bau) : Bau :=
  if running then { b with divider := b.divider + cyclesPerTick } else b

def Trc.tick (t : Trc) : Trc :=
  { t with
    switchTimer := tickDown t.switchTimer, holdTimer := tickDown t.holdTimer,
    overloadTimer := tickDown t.overloadTimer,
    proposal := t.proposal.map fun r => { r with window := tickDown r.window } }

def Claim.tick (c : Claim) : Claim :=
  { c with windowTimer := tickDown c.windowTimer, queueTimer := tickDown c.queueTimer }

def Tsq.tick (t : Tsq) : Tsq :=
  { t with
    run :=
      { t.run with stepTimer := tickDown t.run.stepTimer, pauseTimer := tickDown t.run.pauseTimer } }

def Visit.tick (v : Visit) : Visit :=
  { v with stepTimer := tickDown v.stepTimer, retryTimer := tickDown v.retryTimer }

/-- Every timer on the reference clock after one tick of 100 µs. -/
def tickTimers (s : State) : State :=
  { s with
    link := { s.link with muteTimer := tickDown s.link.muteTimer }
    peers := s.peers.map Peer.tick
    clu := s.clu.tick
    sns := s.sns.tick
    bau := s.bau.tick s.hpi.running
    trc := s.trc.tick
    lva := s.lva.map Claim.tick
    tsq := s.tsq.tick
    vsm := { s.vsm with visit := s.vsm.visit.map Visit.tick } }

/-! ## Floor time (R33, R37) -/

/-- The tick that comes next is a 100th tick of the free-running counter. -/
def slewDue (f : Ftu) : Bool := decide (f.tickCount = 99)

/-- What a tick adds to floor time. -/
def tickAdvance (f : Ftu) : Nat :=
  if slewDue f && decide (0 < f.slew) then 2 else if slewDue f && decide (f.slew < 0) then 0 else 1

/-- The pending slew after a tick. -/
def slewAfter (f : Ftu) : Int :=
  if slewDue f && decide (0 < f.slew) then f.slew - 1
  else if slewDue f && decide (f.slew < 0) then f.slew + 1
  else f.slew

/-- An advance to `t` passes through or onto a multiple of 1000. -/
def crosses (advance : Nat) (t : FloorTime) : Bool := decide (t.toNat % 1000 < advance)

/-- The FTU at one tick. -/
def Ftu.tick (f : Ftu) : Ftu :=
  let t := f.floorTime + ticksTime (tickAdvance f)
  { f with
    floorTime := t
    slew := slewAfter f
    tickCount := if slewDue f then 0 else f.tickCount + 1
    boundaryDue := f.boundaryDue || crosses (tickAdvance f) t }

/-- One tick of the reference clock. -/
def referenceTick (s : State) : State := (tickTimers s).modFtu Ftu.tick

def execFloorTick (s : State) : Host.Outcome State Fault Refusal := .next (referenceTick s)

/-- The 100th tick (R37); at any other count of the tick counter there is no slew tick to make. -/
def slewTick (s : State) : State := if slewDue s.ftu then referenceTick s else s

def execSlewTick (s : State) : Host.Outcome State Fault Refusal := .next (slewTick s)

/-! ## The evaluation (R35, R36, R38) -/

/-- The fresh offsets of the PRESENT peers. -/
def freshOffsets (s : State) : List Int :=
  (presentPeers s).filterMap fun e => if 0 < e.fresh then e.offset.map (·.toInt) else none

/-- The mean over the fresh offsets and the own 0, truncated toward zero. -/
def meanOffset (l : List Int) : Int := l.sum.tdiv ((l.length : Int) + 1)

/-- A mean whose absolute value exceeds 500 is stepped. -/
def isStep (mean : Int) : Bool := decide (500 < mean.natAbs)

/-- The alignment state and the streak after an evaluation with a fresh offset (R38). -/
def alignAfter (align : Align) (streak : Nat) (mean : Int) : Align × Nat :=
  if isStep mean then (.aligning, 0)
  else if mean.natAbs ≤ 2 then
    match align with
    | .alone => (.aligning, min 3 (streak + 1))
    | .aligning => (if 3 ≤ streak + 1 then .aligned else .aligning, min 3 (streak + 1))
    | .aligned => (.aligned, min 3 (streak + 1))
  else if mean.natAbs ≤ 10 then (if align = .alone then .aligning else align, 0)
  else (.aligning, 0)

/-- The stored values of an entry after a step of floor time (R35). -/
def Peer.stepped (step : FloorTime) (e : Peer) : Peer :=
  { e with rxStart := e.rxStart + step, offset := e.offset.map fun o => o - step }

/-- Step floor time, or set the pending slew (R36). -/
def moveTime (mean : Int) (s : State) : State :=
  if isStep mean then
    let step : FloorTime := BitVec.ofInt 32 mean
    (s.modFtu fun f => { f with floorTime := f.floorTime + step, slew := 0 }).modPeers fun l =>
      l.map fun e => if e.presence = .absent then e else e.stepped step
  else s.modFtu fun f => { f with slew := mean }

/-- Set the alignment state and streak; a change of state is told with the mean. -/
def setAlign (x : Align × Nat) (mean : Int) (s : State) : State :=
  let s₁ := s.modFtu fun f => { f with align := x.1, streak := x.2 }
  if x.1 = s.ftu.align then s₁
  else raise .alignmentChange (u8 s.ftu.align.code ++ u8 x.1.code ++ i32 mean) s₁

/-- Each evaluation reduces the freshness counts after it has used the offsets (R35). -/
def fade (s : State) : State := s.modPeers fun l => l.map fun e => { e with fresh := e.fresh - 1 }

/-- One evaluation of the FTU. -/
def evaluateFloorTime (s : State) : State :=
  match freshOffsets s with
  | [] => fade (setAlign (.alone, 0) 0 (s.modFtu fun f => { f with slew := 0 }))
  | o :: rest =>
    let mean := meanOffset (o :: rest)
    fade (setAlign (alignAfter s.ftu.align s.ftu.streak mean) mean (moveTime mean s))

/-- An ARMED station executes when its own floor time has reached the execute time (R99). -/
def executeReached (s : State) : State :=
  match s.trc.activity with
  | .armed id dir t => if reached s.ftu.floorTime t then settle (executeTransfer id dir s) else s
  | .none => s
  | .proposed _ _ => s
  | .following _ _ => s
  | .switching _ _ => s
  | .mismatch _ _ => s

/-- The evaluation that would be made now steps floor time. -/
def stepTaken (s : State) : Bool :=
  match freshOffsets s with
  | [] => false
  | o :: rest => isStep (meanOffset (o :: rest))

/-- The evaluation that a boundary crossing brings, then the periodic STATUS, then the LVA and the TRC: a
forward step past the execute time executes at once (R31, R36, R99). -/
def boundaryEvaluation (s : State) : State :=
  if s.ftu.boundaryDue then
    let s₁ := settle (queueStatus (evaluateFloorTime (s.modFtu fun f => { f with boundaryDue := false })))
    if stepTaken s then executeReached s₁ else s₁
  else s

def execBoundaryEvaluation (s : State) : Host.Outcome State Fault Refusal := .next (boundaryEvaluation s)

end Sys2Proof.Machine
end

