-- ==== Sys2Proof/Machine/Lines.lean ====
section
/-! DEFINITION. The input lines: raw changes, their qualification and what each qualified change brings;
the dead interval and the horn term (chapter 3, R86 to R89, R104, R106, R107, R154 to R158, R164). -/

namespace Sys2Proof.Machine

/-! ## Raw changes (R40, R41, R46, R48) -/

/-- A raw level on a line: a change starts or restarts the timer, a return to the qualified state stops
it. -/
def LineIn.change (term : Ticks) (level : Bool) (l : LineIn) : LineIn :=
  if level = l.raw then l
  else { l with raw := level, timer := if level = l.qual then none else some term }

/-- The timer of the feedback pair after a change of its raw mode from `before`. -/
def Feedback.retime (before : FbMode) (f : Feedback) : Feedback :=
  if rawFeedback f = f.qual then { f with timer := none }
  else if rawFeedback f = before then f
  else { f with timer := some stageQualify }

def Feedback.changeInv (level : Bool) (f : Feedback) : Feedback :=
  Feedback.retime (rawFeedback f) { f with rawInv := level }

def Feedback.changeByp (level : Bool) (f : Feedback) : Feedback :=
  Feedback.retime (rawFeedback f) { f with rawByp := level }

def Clu.stage (line : StageInput) (f : LineIn → LineIn) (c : Clu) : Clu :=
  match line with
  | .invFault => { c with invFault := f c.invFault }
  | .overload => { c with overload := f c.overload }
  | .bypOk => { c with bypOk := f c.bypOk }

def Clu.stageLine (line : StageInput) (c : Clu) : LineIn :=
  match line with
  | .invFault => c.invFault
  | .overload => c.overload
  | .bypOk => c.bypOk

def Clu.contact (k : Contact) (f : LineIn → LineIn) (c : Clu) : Clu :=
  match k with
  | .input => { c with input := f c.input }
  | .bypassIn => { c with bypassIn := f c.bypassIn }
  | .output => { c with output := f c.output }
  | .battery => { c with battery := f c.battery }
  | .maint => { c with maint := f c.maint }

def Clu.contactLine (k : Contact) (c : Clu) : LineIn :=
  match k with
  | .input => c.input
  | .bypassIn => c.bypassIn
  | .output => c.output
  | .battery => c.battery
  | .maint => c.maint

def qualifyTerm (s : State) : Ticks := ticksOfMs s.hpi.cab.qualMs

def lineRawChange (line : InputLine) (level : Bool) (s : State) : State :=
  s.modClu fun c =>
    match line with
    | .stage l => c.stage l (LineIn.change stageQualify level)
    | .fbInv => { c with fb := c.fb.changeInv level }
    | .fbByp => { c with fb := c.fb.changeByp level }
    | .contact k => c.contact k (LineIn.change (qualifyTerm s) level)
    | .alarmIn => { c with alarmIn := c.alarmIn.change (qualifyTerm s) level }

def execLineRawChange (line : InputLine) (level : Bool) (s : State) : Host.Outcome State Fault Refusal :=
  .next (lineRawChange line level s)

/-- At expiry the qualified state takes the raw level. -/
def LineIn.qualified (l : LineIn) : LineIn := { l with qual := l.raw, timer := none }

/-! ## Stage inputs (R42, R104, R106) -/

/-- INV-FAULT qualified active (R106). -/
def invFaultActive (s : State) : State :=
  match s.trc.activity with
  | .switching .inv _ => failSwitch s
  | .switching .byp _ => s
  | .switching .off _ => s
  | .mismatch .byp _ => s
  | .mismatch .off _ => s
  | .mismatch .inv _ => if s.trc.ownMode = .inv then inverterFault s else s
  | .none => if s.trc.ownMode = .inv then inverterFault s else s
  | .proposed _ _ => if s.trc.ownMode = .inv then inverterFault s else s
  | .following _ _ => if s.trc.ownMode = .inv then inverterFault s else s
  | .armed _ _ _ => if s.trc.ownMode = .inv then inverterFault s else s

def stopOverload (s : State) : State := s.modTrc fun t => { t with overloadTimer := none }

/-- The TRC takes the new state of a stage input. -/
def stageChange (line : StageInput) (active : Bool) (s : State) : State :=
  match line with
  | .invFault => if active then invFaultActive s else s
  | .overload =>
    if active then (if s.trc.ownMode = .inv then startOverload s else s) else stopOverload s
  | .bypOk => s

def stageInputQualified (line : StageInput) (s : State) : State :=
  if due (s.clu.stageLine line).timer then
    let s₁ := s.modClu fun c => c.stage line LineIn.qualified
    if s.hpi.running then settle (stageChange line (s.clu.stageLine line).raw s₁) else s₁
  else s

def execStageInputQualified (line : StageInput) (s : State) : Host.Outcome State Fault Refusal :=
  .next (stageInputQualified line s)

/-! ## Feedback (R41, R85, R87 to R89) -/

/-- The stage returns by itself to the mode command (R89). -/
def stageReturns (s : State) : State :=
  let m := s.clu.modeCmd
  if s.trc.ownMode = m then s
  else
    let s₁ := queueStatus (setOwnMode m s)
    if m = .inv then checkOverload s₁ else s₁

/-- An unsolicited feedback change, by the old and the new feedback mode (R89). -/
def unsolicited (before after : FbMode) (s : State) : State :=
  if before = .inv ∧ after = .byp then force .stageTransfer s
  else if before = .inv ∧ after = .off then inverterFault s
  else if after = s.clu.modeCmd.feedback then stageReturns s
  else enterMismatch s

/-- The TRC takes a qualified feedback change while RUNNING. -/
def feedbackChange (before after : FbMode) (s : State) : State :=
  match s.trc.activity with
  | .switching target origin => if after = target.feedback then endSwitch target origin s else s
  | .mismatch target origin => if after = target.feedback then endSwitch target origin s else s
  | .none => unsolicited before after s
  | .proposed _ _ => unsolicited before after s
  | .following _ _ => unsolicited before after s
  | .armed _ _ _ => unsolicited before after s

def feedbackQualified (s : State) : State :=
  if due s.clu.fb.timer then
    let before := s.clu.fb.qual
    let after := rawFeedback s.clu.fb
    let s₁ := s.modClu fun c => { c with fb := { c.fb with qual := after, timer := none } }
    if s.hpi.running then settle (feedbackChange before after s₁)
    else s₁.modTrc fun t => { t with ownMode := after.adopted }
  else s

def execFeedbackQualified (s : State) : Host.Outcome State Fault Refusal := .next (feedbackQualified s)

/-! ## The dead interval (R43) -/

def deadIntervalEnd (s : State) : State := s.modClu fun c => { c with dead := false }

def execDeadIntervalEnd (s : State) : Host.Outcome State Fault Refusal := .next (deadIntervalEnd s)

/-! ## Contacts (R47, R107, R154 to R158, R164) -/

/-- A visit is open that takes the cabinet off the bus with OUTPUT open (R164). -/
def outputVisited (s : State) : Bool :=
  match s.vsm.visit with
  | some v => decide (v.kind = .isolation) || decide (v.state = .maintOn)
  | none => false

/-- The interlock condition that a qualified contact change meets (R164). -/
def interlockCondition (k : Contact) (closed : Bool) (s : State) : Option Nat :=
  match k, closed with
  | .maint, true => if s.trc.ownMode = .inv then some 1 else none
  | .maint, false => if maintFlag s && !s.clu.output.qual then some 2 else none
  | .bypassIn, false => if s.trc.ownMode = .byp then some 3 else none
  | .battery, false => if ownSource s = .battery then some 4 else none
  | .output, false => if s.trc.ownMode ≠ .off ∧ ¬ outputVisited s then some 5 else none
  | .bypassIn, true => none
  | .battery, true => none
  | .output, true => none
  | .input, _ => none

def checkInterlock (k : Contact) (closed : Bool) (s : State) : State :=
  match interlockCondition k closed s with
  | some n => tellInterlock n s
  | none => s

/-- One of the three breakers that a restored cabinet needs closed. -/
def restoringContact : Contact → Bool
  | .input => true
  | .battery => true
  | .output => true
  | .bypassIn => false
  | .maint => false

/-- The open visit takes a qualified contact change by its state. -/
def visitContact (k : Contact) (closed : Bool) (s : State) : State :=
  match visitState s with
  | some .isolating => if k = .output ∧ ¬ closed then enterIsolated s else s
  | some .restoring =>
    if restoringContact k && !closed then modVisit (fun v => { v with retryTimer := none }) s else tryJoin s
  | some .maintWait => if k = .maint ∧ closed then enterMaintOn s else s
  | some .maintOn =>
    if k = .output ∧ ¬ closed then modVisit (fun v => { v with outputOpened := true }) s else s
  | some .opened => s
  | some .requested => s
  | some .isolated => s
  | none => s

/-- MAINT closed onto the own mode INV forces the floor (R107). -/
def maintContact (k : Contact) (closed : Bool) (s : State) : State :=
  if k = .maint ∧ closed ∧ s.trc.ownMode = .inv then force .interlock s else s

/-- The VSM, and then the TRC, take a qualified contact change while RUNNING. -/
def contactChange (k : Contact) (closed : Bool) (s : State) : State :=
  maintContact k closed (visitContact k closed (checkInterlock k closed s))

def contactQualified (k : Contact) (s : State) : State :=
  if due (s.clu.contactLine k).timer then
    let closed := (s.clu.contactLine k).raw
    let s₁ := raise .contactChange (u8 k.code ++ levelByte closed) (s.modClu fun c => c.contact k LineIn.qualified)
    if s.hpi.running then settle (contactChange k closed s₁) else s₁
  else s

def execContactQualified (k : Contact) (s : State) : Host.Outcome State Fault Refusal :=
  .next (contactQualified k s)

/-! ## ALARM-IN and the horn (R48, R49, R52) -/

/-- The alarm condition after the qualified input has changed. -/
def alarmChange (s : State) : State :=
  if s.clu.alarmIn.qual then
    match s.hpi.cab.alarmMode with
    | .level => tellAlarmInput s
    | .edge =>
      if s.clu.alarmLatch then s else tellAlarmInput (s.modClu fun c => { c with alarmLatch := true })
  else s

def alarmInputQualified (s : State) : State :=
  if due s.clu.alarmIn.timer then
    alarmChange (s.modClu fun c => { c with alarmIn := c.alarmIn.qualified })
  else s

def execAlarmInputQualified (s : State) : Host.Outcome State Fault Refusal := .next (alarmInputQualified s)

def hornTermExpiry (s : State) : State :=
  if due s.clu.hornTimer then s.modClu fun c => { c with horn := false, hornTimer := none } else s

def execHornTermExpiry (s : State) : Host.Outcome State Fault Refusal := .next (hornTermExpiry s)

end Sys2Proof.Machine
end

