-- ==== Sys2Proof/Machine/Sense.lean ====
section
/-! DEFINITION. The sense port: a valid frame and whom it reaches, a rejected frame, the silence timer, and
the operating minute (R56 to R59, R73, R134 to R136). -/

namespace Sys2Proof.Machine

/-! ## A frame taken by a running test (R134, R136) -/

/-- Steps 2 to 4 of R134 in RUNNING. -/
def RunRec.take (f : SenseFrame) (m : Nat) (r : RunRec) : RunRec :=
  { r with
    recent := (if r.recent.length < 4 then r.recent else r.recent.drop 1) ++ [(f.v, f.i)]
    minV := some (match r.minV with | some v => min v f.v | none => f.v)
    discharged := if f.i < 0 then min max32 (r.discharged + m * f.i.natAbs) else r.discharged }

/-- The floor test of a frame in a DISCHARGE step with a voltage floor (R136). -/
def floorTest (n : Nat) (st : TestStep) (f : SenseFrame) (s : State) : State :=
  if st.kind = .discharge ∧ 0 < st.floor then
    if f.v ≤ st.floor then
      let s₁ := s.modTsq fun t => { t with run := { t.run with floorCount := t.run.floorCount + 1 } }
      if 2 ≤ s₁.tsq.run.floorCount then endRun .floorReached (takeCapture n s₁) else s₁
    else s.modTsq fun t => { t with run := { t.run with floorCount := 0 } }
  else s

/-- A frame that is no repeat, taken in step `n`. -/
def frameInStep (n : Nat) (f : SenseFrame) (m : Nat) (s : State) : State :=
  if !f.mainsOk then endRun .mainsLost s
  else
    let s₁ := s.modTsq fun t => { t with run := t.run.take f m }
    match profileStep n s with
    | some st => floorTest n st f s₁
    | none => s₁

/-- The TSQ takes a valid frame by the run state (R134). -/
def testFrame (f : SenseFrame) (m : Nat) (s : State) : State :=
  if m = 0 then s
  else
    match s.tsq.state with
    | .running n => frameInStep n f m s
    | .paused _ => if f.mainsOk then s else endRun .mainsLost s
    | .idle => s
    | .claiming => s
    | .ended => s

/-! ## A valid frame (R56 to R58) -/

/-- The sense state becomes LIVE, with SENSE_RESTORED from STALE and LOST (R57). -/
def goLive (f : SenseFrame) (s : State) : State :=
  let s₁ := s.modSns fun n => { n with state := .live, silence := some 0 }
  match s.sns.state with
  | .stale => raise .senseRestored (u8 s.sns.state.code ++ [f.seq]) s₁
  | .lost => raise .senseRestored (u8 s.sns.state.code ++ [f.seq]) s₁
  | .waiting => s₁
  | .live => s₁

def holdFrame (f : SenseFrame) (s : State) : State :=
  s.modSns fun n => { n with last := some f, lastSeq := some f.seq }

/-- A valid frame, in the order of R58. The TRC, the LVA and the PVU read the flags of the last valid frame
where they stand; what follows a change of them is `settle`. -/
def takeFrameValid (f : SenseFrame) (s : State) : State :=
  let gap := gapOf s.sns.lastSeq f.seq
  let m := multiplierOf s.sns.lastSeq f.seq
  settle (testFrame f m (accountFrame f gap m (holdFrame f (goLive f s))))

def validSenseFrame (frame : List Byte) (s : State) : State :=
  match parseSenseFrame frame with
  | .valid f => takeFrameValid f s
  | .rejected => s
  | .feFault => s

def execValidSenseFrame (frame : List Byte) (s : State) : Host.Outcome State Fault Refusal :=
  .next (validSenseFrame frame s)

/-- A rejected frame, or one with FE_FAULT set, reaches no block (R54, R55). -/
def execSenseFrameRejected (_frame : List Byte) (s : State) : Host.Outcome State Fault Refusal := .next s

/-! ## The silence timer (R57, R58, R65) -/

/-- The silence timer has counted the given term. -/
def silentFor (term : Ticks) (s : State) : Bool :=
  match s.sns.silence with
  | some n => decide (term ≤ n)
  | none => false

/-- The detail of SENSE_STALE and SENSE_LOST: the last valid sequence. -/
def lastSeqBytes (s : State) : List Byte := s.sns.lastSeq.toList

def senseStaleTimeout (s : State) : State :=
  if s.sns.state = .live ∧ silentFor staleSilence s then
    let s₁ := raise .senseStale (lastSeqBytes s) (s.modSns fun n => { n with state := .stale })
    settle (abortRun .senseStale (s₁.modBau fun b => { b with floatCount := 0 }))
  else s

def execSenseStaleTimeout (s : State) : Host.Outcome State Fault Refusal := .next (senseStaleTimeout s)

def senseLostTimeout (s : State) : State :=
  if s.sns.state = .stale ∧ silentFor lostSilence s then
    settle (raise .senseLost (lastSeqBytes s) (s.modSns fun n => { n with state := .lost, silence := none }))
  else s

def execSenseLostTimeout (s : State) : Host.Outcome State Fault Refusal := .next (senseLostTimeout s)

/-! ## The operating minute (R71, R73) -/

def operatingMinuteDue (s : State) : Bool := s.hpi.running && decide (cyclesPerMinute ≤ s.bau.divider)

def minuteCompleted (s : State) : State :=
  if operatingMinuteDue s then
    settle (operatingMinute (s.modBau fun b => { b with divider := b.divider - cyclesPerMinute }))
  else s

def execOperatingMinute (s : State) : Host.Outcome State Fault Refusal := .next (minuteCompleted s)

end Sys2Proof.Machine
end

