-- ==== Sys2Proof/Machine/Messages.lean ====
section
/-! DEFINITION. Heard messages other than STATUS: the answers to a PROPOSE and what follows them, FORCE,
and the claims of other stations (R94, R96 to R98, R103, R117, R120, R127). -/

namespace Sys2Proof.Machine

/-! ## PROPOSE (R96, R97) -/

/-- A heard proposal: its id, direction, proposed-at and execute time. -/
structure HeardProposal where
  id         : PropId
  dir        : Direction
  proposedAt : FloorTime
  executeAt  : FloorTime
deriving DecidableEq, Repr

/-- The readiness checks of a station in NONE, in their order (R96). -/
def readinessRefusal (dir : Direction) (s : State) : Option Reason :=
  match dir with
  | .toBypass => if s.clu.bypOk.qual then none else some .bypassUnavailable
  | .toInverter =>
    if holdFlag s then some .hold
    else if !inverterReady s then some .notReady
    else if maintBars s then some .maintClosed
    else none

/-- Enter FOLLOWING, recording the proposal. -/
def follow (h : HeardProposal) (s : State) : State :=
  (setActivity (.following h.id h.dir) s).modTrc fun t =>
    { t with
      proposal := some
        { station := h.id.station, proposedAt := h.proposedAt, executeAt := h.executeAt, phase := none,
          consentSet := [], consents := [], window := none } }

/-- The answer of a station in NONE and in the source mode (R96). -/
def answerProposal (h : HeardProposal) (s : State) : State :=
  match readinessRefusal h.dir s with
  | some r => postCoord (.objectTransfer h.id r.byte) s
  | none => follow h (postCoord (.consent h.id) s)

def objectBusy (h : HeardProposal) (s : State) : State :=
  postCoord (.objectTransfer h.id Reason.busy.byte) s

/-- The heard proposal wins against the one held (R97). -/
def winsOver (h : HeardProposal) (r : ProposalRec) : Bool :=
  earlier h.proposedAt r.proposedAt
    || (decide (h.proposedAt = r.proposedAt) && decide (h.id.station < r.station))

/-- A proposer gives way to a winning proposal (R97). -/
def supersede (id : PropId) (r : ProposalRec) (s : State) : State :=
  let s₁ := dropProposal (some .superseded) [] s
  if r.phase = some .queued then s₁ else postCoord (.cancel id Reason.superseded.byte) s₁

/-- A heard PROPOSE, by the station's own state (R96, R97). -/
def takePropose (h : HeardProposal) (s : State) : State :=
  if isolatedFlag s || !ownInSource s h.dir then s
  else
    match s.trc.activity, s.trc.proposal with
    | .none, _ => answerProposal h s
    | .proposed id _, some r =>
      if winsOver h r then answerProposal h (supersede id r s) else objectBusy h s
    | .following id _, some r =>
      if h.id = id then s
      else if h.id.station = id.station ∨ winsOver h r then answerProposal h (dropProposal none [] s)
      else objectBusy h s
    | .proposed _ _, none => s
    | .following _ _, none => s
    | .armed _ _ _, _ => objectBusy h s
    | .switching _ _, _ => objectBusy h s
    | .mismatch _ _, _ => objectBusy h s

def proposeReceived (frame : List Byte) (s : State) : State :=
  match heard frame s with
  | some (p, .propose sq dir at_ exec) =>
    settle <|
      takePropose { id := { station := p, seq := sq }, dir := dir, proposedAt := at_, executeAt := exec }
        (endReception s)
  | _ => endReception s

def execProposeReceived (frame : List Byte) (s : State) : Host.Outcome State Fault Refusal :=
  .next (proposeReceived frame s)

/-! ## Answers to the own proposal (R94) -/

/-- A CONSENT naming the own proposal, from a member of its set. -/
def takeConsent (p : Station) (i : PropId) (s : State) : State :=
  match s.trc.activity, s.trc.proposal with
  | .proposed id _, some r =>
    if i = id ∧ r.phase = some .window ∧ r.consentSet.contains p ∧ !r.consents.contains p then
      checkConsents (modProposal (fun r => { r with consents := r.consents ++ [p] }) s)
    else s
  | _, _ => s

def consentReceived (frame : List Byte) (s : State) : State :=
  match heard frame s with
  | some (p, .consent i) => settle (takeConsent p i (endReception s))
  | _ => endReception s

def execConsentReceived (frame : List Byte) (s : State) : Host.Outcome State Fault Refusal :=
  .next (consentReceived frame s)

/-- An OBJECT naming the own proposal in phase window cancels it. The detail of TRANSFER_CANCELLED then ends with the
objector and its reason, with no presence byte, and other reasons add nothing: R94 and R183 do not say that the
two are items which a detail may lack (DESIGN CHOICE, log entry 16). -/
def takeTransferObject (p : Station) (i : PropId) (reason : Byte) (s : State) : State :=
  match s.trc.activity, s.trc.proposal with
  | .proposed id _, some r =>
    if i = id ∧ r.phase = some .window then cancelProposal id .objected (stationByte p ++ [reason]) s else s
  | _, _ => s

def transferObjectReceived (frame : List Byte) (s : State) : State :=
  match heard frame s with
  | some (p, .objectTransfer i reason) => settle (takeTransferObject p i reason (endReception s))
  | _ => endReception s

def execTransferObjectReceived (frame : List Byte) (s : State) : Host.Outcome State Fault Refusal :=
  .next (transferObjectReceived frame s)

/-! ## ORDER, CANCEL and FORCE (R98, R103) -/

/-- An ORDER naming the followed proposal arms the follower. -/
def takeOrder (i : PropId) (s : State) : State :=
  match s.trc.activity, s.trc.proposal with
  | .following id dir, some r => if i = id then arm id dir r.executeAt s else s
  | _, _ => s

def orderReceived (frame : List Byte) (s : State) : State :=
  match heard frame s with
  | some (_, .order i) => settle (takeOrder i (endReception s))
  | _ => endReception s

def execOrderReceived (frame : List Byte) (s : State) : Host.Outcome State Fault Refusal :=
  .next (orderReceived frame s)

/-- A CANCEL naming the followed proposal drops it. -/
def takeCancel (i : PropId) (s : State) : State :=
  match s.trc.activity with
  | .following id _ => if i = id then dropProposal none [] s else s
  | .none => s
  | .proposed _ _ => s
  | .armed _ _ _ => s
  | .switching _ _ => s
  | .mismatch _ _ => s

def cancelReceived (frame : List Byte) (s : State) : State :=
  match heard frame s with
  | some (_, .cancel i _) => settle (takeCancel i (endReception s))
  | _ => endReception s

def execCancelReceived (frame : List Byte) (s : State) : Host.Outcome State Fault Refusal :=
  .next (cancelReceived frame s)

/-- A FORCE heard from another station (R103). -/
def takeForce (p : Station) (cause : Byte) (s : State) : State :=
  let told :=
    if !isolatedFlag s && (decide (s.trc.ownMode = .inv) || decide (s.trc.activity ≠ .none)) then
      raise .transferForced ([cause] ++ stationByte p) s
    else s
  actOnForce p false told

def forceReceived (frame : List Byte) (s : State) : State :=
  match heard frame s with
  | some (p, .force cause) => settle (takeForce p cause (endReception s))
  | _ => endReception s

def execForceReceived (frame : List Byte) (s : State) : Host.Outcome State Fault Refusal :=
  .next (forceReceived frame s)

/-! ## Claims of other stations (R24, R117, R120, R127) -/

/-- Step 1 of R117: an own TEST claim in CLAIMING gives way to an older TEST CLAIM. -/
def yieldClaim (p : Station) (kind : ClaimKind) (time : FloorTime) (s : State) : State :=
  match s.lva with
  | some c =>
    if c.kind = .test ∧ kind = .test ∧ !c.granted ∧ olderClaim time p c.time s.own then
      denyClaim Reason.testBusy.byte p s
    else s
  | none => s

/-- The claim timer of a PENDING record: the claim window plus 200 ms (R24). -/
def pendingTerm (s : State) : Ticks := ticksOfMs (s.hpi.floor.claimWindow + 200)

/-- Steps 2 to 4 of R117: judge the claim on the own view. -/
def judgeClaim (p : Station) (kind : ClaimKind) (time : FloorTime) (s : State) : State :=
  match leaveCheck s p kind time with
  | some r => postCoord (.objectClaim p time r.byte) s
  | none =>
    setPeerClaim p (some { kind := kind, time := time, granted := false }) (some (pendingTerm s)) s

def takeClaim (p : Station) (kind : ClaimKind) (time : FloorTime) (s : State) : State :=
  if peerPresent p s then judgeClaim p kind time (yieldClaim p kind time s) else s

def claimReceived (frame : List Byte) (s : State) : State :=
  match heard frame s with
  | some (p, .claim kind time) => settle (takeClaim p kind time (endReception s))
  | _ => endReception s

def execClaimReceived (frame : List Byte) (s : State) : Host.Outcome State Fault Refusal :=
  .next (claimReceived frame s)

/-- An OBJECT naming the own claim denies it while it is CLAIMING (R120). -/
def takeClaimObject (p : Station) (claimant : Station) (time : FloorTime) (reason : Byte) (s : State) :
    State :=
  match s.lva with
  | some c => if claimant = s.own ∧ c.time = time ∧ !c.granted then denyClaim reason p s else s
  | none => s

def claimObjectReceived (frame : List Byte) (s : State) : State :=
  match heard frame s with
  | some (p, .objectClaim claimant time reason) =>
    settle (takeClaimObject p claimant time reason (endReception s))
  | _ => endReception s

def execClaimObjectReceived (frame : List Byte) (s : State) : Host.Outcome State Fault Refusal :=
  .next (claimObjectReceived frame s)

/-- A RELEASE removes the record whatever claim it holds (R127). -/
def takeRelease (p : Station) (s : State) : State := setPeerClaim p none none s

def releaseReceived (frame : List Byte) (s : State) : State :=
  match heard frame s with
  | some (p, .release _ _) => settle (takeRelease p (endReception s))
  | _ => endReception s

def execReleaseReceived (frame : List Byte) (s : State) : Host.Outcome State Fault Refusal :=
  .next (releaseReceived frame s)

end Sys2Proof.Machine
end

