-- ==== Sys2Proof/Machine/Timers.lean ====
section
/-! DEFINITION. The terms that end by the clock: the floor times of a planned transfer, and the timers of
the TRC, the LVA, the TSQ and the VSM. A row acts only where its term has ended (DESIGN CHOICE, log entry 4). -/

namespace Sys2Proof.Machine

/-! ## Floor times of a planned transfer (R92, R95, R98, R99) -/

/-- PROPOSE still queued at the execute time less the response window. -/
def proposeLate (s : State) : State :=
  match s.trc.activity, s.trc.proposal with
  | .proposed _ _, some r =>
    if r.phase = some .queued ∧ reached s.ftu.floorTime (r.executeAt - windowTime s) then
      settle (dropProposal (some .late) [] s)
    else s
  | _, _ => s

def execProposeLate (s : State) : Host.Outcome State Fault Refusal := .next (proposeLate s)

/-- No outcome of the ORDER at the execute time plus the response window. -/
def orderLate (s : State) : State :=
  match s.trc.activity, s.trc.proposal with
  | .proposed id _, some r =>
    if r.phase = some .ordering ∧ reached s.ftu.floorTime (r.executeAt + windowTime s) then
      settle (cancelProposal id .late [] s)
    else s
  | _, _ => s

def execOrderLate (s : State) : Host.Outcome State Fault Refusal := .next (orderLate s)

/-- A follower that heard neither ORDER nor CANCEL in time. -/
def orderMissed (s : State) : State :=
  match s.trc.activity, s.trc.proposal with
  | .following id _, some r =>
    if reached s.ftu.floorTime (r.executeAt + windowTime s) then
      settle (raise .orderMissed id.bytes (dropProposal none [] s))
    else s
  | _, _ => s

def execOrderMissed (s : State) : Host.Outcome State Fault Refusal := .next (orderMissed s)

def execTransferExecute (s : State) : Host.Outcome State Fault Refusal := .next (executeReached s)

/-! ## Timers of the TRC (R88, R94, R104, R105) -/

/-- The response window ends with a consent missing. -/
def responseWindowExpiry (s : State) : State :=
  match s.trc.activity, s.trc.proposal with
  | .proposed id _, some r =>
    if r.phase = some .window ∧ due r.window then settle (cancelProposal id .noConsent [] s) else s
  | _, _ => s

def execResponseWindowExpiry (s : State) : Host.Outcome State Fault Refusal :=
  .next (responseWindowExpiry s)

/-- SWITCHING becomes MISMATCH; the mode command stays. -/
def switchTimeout (s : State) : State :=
  match s.trc.activity with
  | .switching target origin =>
    if due s.trc.switchTimer then
      settle <|
        raise .mismatch (u8 target.code ++ u8 s.clu.fb.qual.code)
          ((setActivity (.mismatch target origin) s).modTrc fun t => { t with switchTimer := none })
    else s
  | .none => s
  | .proposed _ _ => s
  | .following _ _ => s
  | .armed _ _ _ => s
  | .mismatch _ _ => s

def execSwitchTimeout (s : State) : Host.Outcome State Fault Refusal := .next (switchTimeout s)

/-- The hold flag clears with the timer; no event. -/
def holdExpiry (s : State) : State :=
  if due s.trc.holdTimer then s.modTrc fun t => { t with holdTimer := none } else s

def execHoldExpiry (s : State) : Host.Outcome State Fault Refusal := .next (holdExpiry s)

def overloadTimeout (s : State) : State :=
  if due s.trc.overloadTimer then settle (force .overload (stopOverload s)) else s

def execOverloadTimeout (s : State) : Host.Outcome State Fault Refusal := .next (overloadTimeout s)

/-! ## Timers of the own claim (R115, R121) -/

def claimQueueTimeout (s : State) : State :=
  match s.lva with
  | some c =>
    if !c.granted ∧ !c.inWindow ∧ due c.queueTimer then settle (denyClaim Reason.late.byte s.own s) else s
  | none => s

def execClaimQueueTimeout (s : State) : Host.Outcome State Fault Refusal := .next (claimQueueTimeout s)

/-- The claimant checks its claim on its own view. -/
def checkOwnClaim (c : Claim) (s : State) : State :=
  match leaveCheck s s.own c.kind c.time with
  | none => grantClaim s
  | some r => denyClaim r.byte s.own s

def claimWindowExpiry (s : State) : State :=
  match s.lva with
  | some c =>
    if !c.granted ∧ c.inWindow ∧ due c.windowTimer then settle (checkOwnClaim c s) else s
  | none => s

def execClaimWindowExpiry (s : State) : Host.Outcome State Fault Refusal := .next (claimWindowExpiry s)

/-! ## Timers of a test run (R137) -/

/-- The captured V and I of a step, or a mark that no capture was taken (R183). -/
def captureItem (c : Option Capture) : List Byte := opt 4 (c.map fun c => u16 c.v ++ i16 c.i)

/-- PAUSED, at the end of a step of a single-step run. -/
def pauseRun (n : Nat) (s : State) : State :=
  (s.modTsq fun t =>
    { t with
      state := .paused n, run := { t.run with stepTimer := none, pauseTimer := some pauseTerm } }).modClu
    fun c => { c with testWd := false }

/-- The end of step `n` by its duration. -/
def stepDone (n : Nat) (s : State) : State :=
  let capture := stepCapture n s
  let s₁ := (takeCapture n s).modTsq fun t => { t with run := { t.run with completed := t.run.completed + 1 } }
  let s₂ := raise .testStep (u16 s.tsq.run.number ++ u8 n ++ captureItem capture) s₁
  if s.tsq.profile.length ≤ n then endRun .profileDone s₂
  else if s.tsq.run.single then pauseRun n s₂
  else enterStep (n + 1) s₂

def testStepTimerExpiry (s : State) : State :=
  match s.tsq.state with
  | .running n => if due s.tsq.run.stepTimer then settle (stepDone n s) else s
  | .idle => s
  | .claiming => s
  | .paused _ => s
  | .ended => s

def execTestStepTimerExpiry (s : State) : Host.Outcome State Fault Refusal := .next (testStepTimerExpiry s)

def pauseTimerExpiry (s : State) : State :=
  match s.tsq.state with
  | .paused _ => if due s.tsq.run.pauseTimer then settle (endRun .pauseTimeout s) else s
  | .idle => s
  | .claiming => s
  | .running _ => s
  | .ended => s

def execPauseTimerExpiry (s : State) : Host.Outcome State Fault Refusal := .next (pauseTimerExpiry s)

/-! ## Timers of a visit (R156, R157) -/

/-- The step timer of the open visit has ended. -/
def visitStepDue (s : State) : Bool := due ((s.vsm.visit.map (·.stepTimer)).getD none)

def visitStepTimeout (s : State) : State :=
  if visitStepDue s then
    match visitState s with
    | some .isolating => settle (leaveIsolating .abandoned [] s)
    | some .restoring => settle (closeVisit .stalled [] (releaseKind .service s))
    | some .opened => s
    | some .requested => s
    | some .isolated => s
    | some .maintWait => s
    | some .maintOn => s
    | none => s
  else s

def execVisitStepTimeout (s : State) : Host.Outcome State Fault Refusal := .next (visitStepTimeout s)

def joinRetryDue (s : State) : Bool := due ((s.vsm.visit.map (·.retryTimer)).getD none)

def joinRetryExpiry (s : State) : State :=
  if joinRetryDue s then settle (tryJoin (modVisit (fun v => { v with retryTimer := none }) s)) else s

def execJoinRetryExpiry (s : State) : Host.Outcome State Fault Refusal := .next (joinRetryExpiry s)

end Sys2Proof.Machine
end

