-- ==== Sys2Proof/Machine/Dispatch.lean ====
section
/-! DEFINITION. The meaning of every command: one arm per row of spec/opcode_table.json, one call each. -/

namespace Sys2Proof.Machine

def exec (i : Instr) (s : State) : Host.Outcome State Fault Refusal :=
  match i with
  | .hardReset stationStraps rateStraps => Sys2Proof.Machine.execHardReset stationStraps rateStraps s
  | .readWindow clocked => Sys2Proof.Machine.execReadWindow clocked s
  | .waitingSlotTake windows => Sys2Proof.Machine.execWaitingSlotTake windows s
  | .unknownCommand code window => Sys2Proof.Machine.execUnknownCommand code window s
  | .setFloor window => Sys2Proof.Machine.execSetFloor window s
  | .setCabinet window => Sys2Proof.Machine.execSetCabinet window s
  | .loadAgeingTable window => Sys2Proof.Machine.execLoadAgeingTable window s
  | .setProfile window => Sys2Proof.Machine.execSetProfile window s
  | .loadCarryRecord window => Sys2Proof.Machine.execLoadCarryRecord window s
  | .start window => Sys2Proof.Machine.execStart window s
  | .readStatus window => Sys2Proof.Machine.execReadStatus window s
  | .readFloor window => Sys2Proof.Machine.execReadFloor window s
  | .readPeer window => Sys2Proof.Machine.execReadPeer window s
  | .clearPeerMarkers window => Sys2Proof.Machine.execClearPeerMarkers window s
  | .readEvent window => Sys2Proof.Machine.execReadEvent window s
  | .readCarryRecord window => Sys2Proof.Machine.execReadCarryRecord window s
  | .readDues window => Sys2Proof.Machine.execReadDues window s
  | .readVisitLog window => Sys2Proof.Machine.execReadVisitLog window s
  | .readTestResult window => Sys2Proof.Machine.execReadTestResult window s
  | .silenceHorn window => Sys2Proof.Machine.execSilenceHorn window s
  | .restart window => Sys2Proof.Machine.execRestart window s
  | .transfer window => Sys2Proof.Machine.execTransfer window s
  | .forceBypass window => Sys2Proof.Machine.execForceBypass window s
  | .join window => Sys2Proof.Machine.execJoin window s
  | .runTest window => Sys2Proof.Machine.execRunTest window s
  | .continueTest window => Sys2Proof.Machine.execContinueTest window s
  | .abortTest window => Sys2Proof.Machine.execAbortTest window s
  | .openVisit window => Sys2Proof.Machine.execOpenVisit window s
  | .recordTask window => Sys2Proof.Machine.execRecordTask window s
  | .closeVisit window => Sys2Proof.Machine.execCloseVisit window s
  | .cancelVisit window => Sys2Proof.Machine.execCancelVisit window s
  | .clearAlarmInput window => Sys2Proof.Machine.execClearAlarmInput window s
  | .lineIdle => Sys2Proof.Machine.execLineIdle s
  | .slotAttempt slot => Sys2Proof.Machine.execSlotAttempt slot s
  | .attemptFailed mismatch => Sys2Proof.Machine.execAttemptFailed mismatch s
  | .attemptComplete => Sys2Proof.Machine.execAttemptComplete s
  | .messageDiscarded frame => Sys2Proof.Machine.execMessageDiscarded frame s
  | .ownMessageHeard frame => Sys2Proof.Machine.execOwnMessageHeard frame s
  | .duplicateStatus frame => Sys2Proof.Machine.execDuplicateStatus frame s
  | .muteTimerExpiry => Sys2Proof.Machine.execMuteTimerExpiry s
  | .statusReceived frame => Sys2Proof.Machine.execStatusReceived frame s
  | .presenceTimerExpiry station => Sys2Proof.Machine.execPresenceTimerExpiry station s
  | .staleTimerExpiry station => Sys2Proof.Machine.execStaleTimerExpiry station s
  | .claimTimerExpiry station => Sys2Proof.Machine.execClaimTimerExpiry station s
  | .proposeReceived frame => Sys2Proof.Machine.execProposeReceived frame s
  | .consentReceived frame => Sys2Proof.Machine.execConsentReceived frame s
  | .transferObjectReceived frame => Sys2Proof.Machine.execTransferObjectReceived frame s
  | .orderReceived frame => Sys2Proof.Machine.execOrderReceived frame s
  | .cancelReceived frame => Sys2Proof.Machine.execCancelReceived frame s
  | .forceReceived frame => Sys2Proof.Machine.execForceReceived frame s
  | .claimReceived frame => Sys2Proof.Machine.execClaimReceived frame s
  | .claimObjectReceived frame => Sys2Proof.Machine.execClaimObjectReceived frame s
  | .releaseReceived frame => Sys2Proof.Machine.execReleaseReceived frame s
  | .floorTick => Sys2Proof.Machine.execFloorTick s
  | .slewTick => Sys2Proof.Machine.execSlewTick s
  | .boundaryEvaluation => Sys2Proof.Machine.execBoundaryEvaluation s
  | .proposeLate => Sys2Proof.Machine.execProposeLate s
  | .orderLate => Sys2Proof.Machine.execOrderLate s
  | .orderMissed => Sys2Proof.Machine.execOrderMissed s
  | .transferExecute => Sys2Proof.Machine.execTransferExecute s
  | .responseWindowExpiry => Sys2Proof.Machine.execResponseWindowExpiry s
  | .switchTimeout => Sys2Proof.Machine.execSwitchTimeout s
  | .holdExpiry => Sys2Proof.Machine.execHoldExpiry s
  | .overloadTimeout => Sys2Proof.Machine.execOverloadTimeout s
  | .lineRawChange line level => Sys2Proof.Machine.execLineRawChange line level s
  | .stageInputQualified line => Sys2Proof.Machine.execStageInputQualified line s
  | .feedbackQualified => Sys2Proof.Machine.execFeedbackQualified s
  | .deadIntervalEnd => Sys2Proof.Machine.execDeadIntervalEnd s
  | .contactQualified contact => Sys2Proof.Machine.execContactQualified contact s
  | .alarmInputQualified => Sys2Proof.Machine.execAlarmInputQualified s
  | .hornTermExpiry => Sys2Proof.Machine.execHornTermExpiry s
  | .validSenseFrame frame => Sys2Proof.Machine.execValidSenseFrame frame s
  | .senseFrameRejected frame => Sys2Proof.Machine.execSenseFrameRejected frame s
  | .senseStaleTimeout => Sys2Proof.Machine.execSenseStaleTimeout s
  | .senseLostTimeout => Sys2Proof.Machine.execSenseLostTimeout s
  | .operatingMinute => Sys2Proof.Machine.execOperatingMinute s
  | .claimQueueTimeout => Sys2Proof.Machine.execClaimQueueTimeout s
  | .claimWindowExpiry => Sys2Proof.Machine.execClaimWindowExpiry s
  | .testStepTimerExpiry => Sys2Proof.Machine.execTestStepTimerExpiry s
  | .pauseTimerExpiry => Sys2Proof.Machine.execPauseTimerExpiry s
  | .visitStepTimeout => Sys2Proof.Machine.execVisitStepTimeout s
  | .joinRetryExpiry => Sys2Proof.Machine.execJoinRetryExpiry s
  | .startBitSensed => Sys2Proof.Machine.execStartBitSensed s

end Sys2Proof.Machine
end

