-- ==== Sys2Proof/Safety.lean ====
section
/-! DEFINITION. The terms in which the statements speak of a command: what stands as it was, which events
were raised, what the host is answered, and the law that every step keeps. -/

namespace Sys2Proof.Machine

/-! ## What stands as it was -/

inductive Block where
  | link | peers | pvu | ftu | clu | sns | bau | trc | lva | tsq | vsm | hpi | pending
deriving DecidableEq, Repr

def sameBlock (b : Block) (s t : State) : Prop :=
  match b with
  | .link => t.link = s.link
  | .peers => t.peers = s.peers
  | .pvu => t.pvu = s.pvu
  | .ftu => t.ftu = s.ftu
  | .clu => t.clu = s.clu
  | .sns => t.sns = s.sns
  | .bau => t.bau = s.bau
  | .trc => t.trc = s.trc
  | .lva => t.lva = s.lva
  | .tsq => t.tsq = s.tsq
  | .vsm => t.vsm = s.vsm
  | .hpi => t.hpi = s.hpi
  | .pending => t.pending = s.pending

/-- Every block that is not listed stands as it was. -/
def SameBut (changed : List Block) (s t : State) : Prop := ∀ b, b ∉ changed → sameBlock b s t

/-- The host port but for its event queue, its command buffer and its response. -/
def SettingsKept (s t : State) : Prop :=
  t.hpi.running = s.hpi.running ∧ t.hpi.configured = s.hpi.configured ∧ t.hpi.floor = s.hpi.floor
    ∧ t.hpi.cab = s.hpi.cab ∧ t.hpi.waiting = s.hpi.waiting ∧ t.hpi.shiftedOut = s.hpi.shiftedOut

/-- No command was taken: the buffers of the host port stand. -/
def PortKept (s t : State) : Prop :=
  SettingsKept s t ∧ t.hpi.command = s.hpi.command ∧ t.hpi.response = s.hpi.response

/-- The lines but for the horn, which every ALARM sounds. -/
def LinesKept (s t : State) : Prop :=
  t.clu = { s.clu with horn := t.clu.horn, hornTimer := t.clu.hornTimer }

/-- The transfer coordinator but for the last-known floor mode, which follows the station's view (R109). -/
def TrcIs (trc : Trc) (t : State) : Prop := t.trc = { trc with lastKnown := t.trc.lastKnown }

/-! ## Events (R176) -/

/-- An event as its rule names it: its kind, the natural class of the table of R176, and its detail. -/
structure EventSpec where
  kind   : EventKind
  cls    : EventClass
  detail : List Byte
deriving DecidableEq, Repr

def alarm (k : EventKind) (detail : List Byte) : EventSpec := ⟨k, .alarm, detail⟩
def notice (k : EventKind) (detail : List Byte) : EventSpec := ⟨k, .notice, detail⟩
def info (k : EventKind) (detail : List Byte) : EventSpec := ⟨k, .info, detail⟩

/-- The record of an event raised at `s`: the elevated kind has class ALARM. -/
def EventSpec.record (s : State) (e : EventSpec) : EventRec :=
  { kind := e.kind, cls := if s.hpi.floor.elevated = some e.kind then .alarm else e.cls,
    minute := s.bau.minutes, time := s.ftu.floorTime, detail := e.detail.take 8 }

/-- The horn sounds for the full term when one of the events has class ALARM, and stands otherwise. -/
def Sounded (l : List EventSpec) (s t : State) : Prop :=
  if l.any fun e => decide ((e.record s).cls = .alarm) then
    t.clu.horn = true
      ∧ t.clu.hornTimer = (if s.hpi.cab.hornTerm = 0 then none else some (s.hpi.cab.hornTerm * 10000))
  else t.clu.horn = s.clu.horn ∧ t.clu.hornTimer = s.clu.hornTimer

/-- The listed events and no others were raised, in their order: those that fit are appended to the queue of
32, a drop sets events-lost, and the horn is sounded for every ALARM. -/
def Raised (l : List EventSpec) (s t : State) : Prop :=
  t.hpi.events = (s.hpi.events ++ l.map (EventSpec.record s)).take 32
    ∧ t.hpi.eventsLost = (s.hpi.eventsLost || decide (32 < s.hpi.events.length + l.length))
    ∧ Sounded l s t

/-! ## Answers to the host (R169, R182) -/

/-- Two bytes, most significant first (R179). -/
def be16 (w : BitVec 16) : List Byte := [BitVec.ofNat 8 (w.toNat / 256), BitVec.ofNat 8 w.toNat]

/-- Four bytes, most significant first (R179). -/
def be32 (w : BitVec 32) : List Byte :=
  [BitVec.ofNat 8 (w.toNat / 16777216), BitVec.ofNat 8 (w.toNat / 65536), BitVec.ofNat 8 (w.toNat / 256),
    BitVec.ofNat 8 w.toNat]

def byteOf (n : Nat) : Byte := BitVec.ofNat 8 n

/-- A flag in a byte of its own; that a set one is 1, where R182 and R183 say non-zero, is log entry 30. -/
def flag (b : Bool) : Byte := if b then 1#8 else 0#8

/-- The state of a line, a contact or the horn (R179). -/
def level (b : Bool) : Byte := if b then 1#8 else 0#8

/-- A response of six header bytes and a body, with the device state and the flags of `t`. -/
def answer (status reason : Nat) (body : List Byte) (t : State) : List Byte :=
  [byteOf status, byteOf reason, if t.hpi.running then 2#8 else 1#8,
    byteOf ((if t.hpi.events = [] then 0 else 1) + (if t.hpi.eventsLost then 2 else 0)
      + (if t.clu.horn then 4 else 0)),
    byteOf (body.length / 256), byteOf body.length] ++ body

/-- The frame stands in the command buffer and its answer in the response buffer. -/
def Answered (code : Byte) (window : List Byte) (status reason : Nat) (body : List Byte) (t : State) : Prop :=
  t.hpi.command = some (code :: window) ∧ t.hpi.response = some (answer status reason body t)

/-- The part after a command that is answered and changes nothing. -/
def onlyAnswered (code : Byte) (window : List Byte) (status reason : Nat) (body : List Byte) (s : State) :
    State :=
  { s with
    hpi := { s.hpi with command := some (code :: window), response := some (answer status reason body s) } }

/-- A step of SET PROFILE as it is carried (R182). -/
def profileStepBytes (st : StepKind × BitVec 16 × BitVec 16 × Byte) : List Byte :=
  [match st.1 with | .rest => 1#8 | .discharge => 2#8] ++ be16 st.2.1 ++ be16 st.2.2.1 ++ [st.2.2.2]

/-- The argument lengths that a command allows (R182). -/
def lengthAllowedFor (code n : Nat) : Bool :=
  if code = 0x01 then n == 13
  else if code = 0x02 then n == 33
  else if code = 0x03 then n % 2 == 1 && n ≤ 33
  else if code = 0x04 then n % 6 == 0
  else if code = 0x05 then n == 29
  else if code = 0x12 ∨ code = 0x17 ∨ code = 0x20 ∨ code = 0x23 ∨ code = 0x27 then n == 1
  else if code = 0x13 then n == 2
  else if code = 0x26 then n == 3
  else n == 0

/-- The device states in which a command is accepted (R170): the configuration commands and START in
CONFIGURING, the commands of 10h to 1Ah in both, those of 20h to 2Ah in RUNNING. -/
def acceptedIn (code : Nat) (running : Bool) : Bool :=
  if code ≤ 0x06 then !running else if code ≤ 0x1A then true else running

/-- The reason of the first check that fails, in the order given. -/
def firstFailing (checks : List (Bool × Reason)) : Option Reason :=
  (checks.find? fun c => c.1).map Prod.snd

/-! ## The conditions that the host's requests meet, in the order of their rules -/

/-- The station is in the source mode of a direction (R90). -/
def inSource (dir : Direction) (s : State) : Bool :=
  match dir with
  | .toBypass => decide (s.trc.ownMode = .inv)
  | .toInverter =>
    decide (s.trc.ownMode = .byp) || (decide (s.trc.ownMode = .off) && decide (0 < ownReady s))

/-- The PRESENT peers, not isolated, that report the source mode of a direction (R90, R93). -/
def sourcePeers (dir : Direction) (s : State) : List Station :=
  (s.peers.filter fun e =>
    decide (e.presence = .present) && !e.report.isolated &&
      match dir with
      | .toBypass => decide (e.report.mode = .inv)
      | .toInverter =>
        decide (e.report.mode = .byp) || decide (e.report.mode = .off ∧ 0 < e.report.ready)).map (·.station)

/-- The conditions of TRANSFER (R91). -/
def transferChecks (dir : Direction) (s : State) : List (Bool × Reason) :=
  [(isolatedFlag s, .isolated), (!inSource dir s, .wrongMode), (decide (s.trc.activity ≠ .none), .busy),
   (decide (s.link.state = .mutedFailures ∨ s.link.state = .mutedDuplicate), .linkMuted),
   (decide (s.ftu.align = .aligning), .notAligned)]
  ++ match dir with
    | .toBypass => [(s.tsq.state.inProgress, .testRunning), (!s.clu.bypOk.qual, .bypassUnavailable)]
    | .toInverter =>
      [(s.trc.holdTimer.isSome, .hold),
       (s.clu.maint.qual || maintFlag s
          || s.peers.any (fun e => decide (e.presence = .present) && e.report.maint), .maintClosed),
       (!(invReadyFlag s && !s.clu.invFault.qual), .notReady),
       (decide (returnCapacity s < floorLoad s), .capacity)]

/-- The readiness checks of a station that hears a PROPOSE in its source mode (R96). -/
def readinessChecks (dir : Direction) (s : State) : List (Bool × Reason) :=
  match dir with
  | .toBypass => [(!s.clu.bypOk.qual, .bypassUnavailable)]
  | .toInverter =>
    [(s.trc.holdTimer.isSome, .hold), (!(invReadyFlag s && !s.clu.invFault.qual), .notReady),
     (s.clu.maint.qual || maintFlag s
        || s.peers.any (fun e => decide (e.presence = .present) && e.report.maint), .maintClosed)]

/-- The conditions of JOIN (R109). -/
def joinChecks (s : State) : List (Bool × Reason) :=
  [(isolatedFlag s, .isolated), (decide (s.trc.ownMode ≠ .off), .wrongMode),
   (decide (s.trc.activity ≠ .none), .busy), (!(invReadyFlag s && !s.clu.invFault.qual), .notReady),
   (!s.clu.output.qual, .outputOpen), (s.clu.maint.qual, .maintClosed), (s.trc.holdTimer.isSome, .hold)]

/-- The conditions of a claim request but the first, an own claim held (R113). -/
def claimChecks (s : State) : List (Bool × Reason) :=
  [(decide (s.link.state = .mutedFailures ∨ s.link.state = .mutedDuplicate), .linkMuted),
   (decide (s.ftu.align = .aligning), .notAligned), (decide (s.trc.ownMode ≠ .inv), .wrongMode),
   (decide (s.trc.activity ≠ .none), .busy), (decide (ownSource s = .battery), .onBattery)]

/-- The command lines under a new mode command: a direct change between INV and BYP while SUPV is active goes
through the dead interval (R43). -/
def commanded (m : Mode) (c : Clu) : Clu :=
  { c with
    modeCmd := m
    dead := c.dead || (c.supv && decide (m ≠ .off) && decide (c.modeCmd ≠ .off) && decide (m ≠ c.modeCmd)) }

/-- The number that a visit opened now takes: a newest record numbered 65535 is passed over (R165). -/
def nextVisitNumber (s : State) : Nat :=
  match s.vsm.log.getLast? with
  | some r => if r.number = 65535 then s.bau.carry.nextVisit else max s.bau.carry.nextVisit (r.number + 1)
  | none => s.bau.carry.nextVisit

/-- The visit log that the opening of a visit leaves: one whose newest number is 65535 is emptied (R165). -/
def logAtOpening (s : State) : List LogRec :=
  match s.vsm.log.getLast? with
  | some r => if r.number = 65535 then [] else s.vsm.log
  | none => s.vsm.log

/-- A visit as OPEN VISIT fills its record (R150). -/
def openedVisit (kind : VisitKind) (technician : BitVec 16) (state : VisitState) (claimed : Bool)
    (stepTimer : Option Ticks) (s : State) : Visit :=
  { number := nextVisitNumber s, kind := kind, technician := technician.toNat, openedMinute := s.bau.minutes,
    state := state, tasks := [], claimed := claimed, stepTimer := stepTimer, joinRequested := false,
    retryTimer := none, joinRefused := false, outputOpened := false }

/-- The VSM and the account after a visit is opened: the record stands, its number is taken. -/
def VisitOpened (v : Visit) (s t : State) : Prop :=
  t.vsm = { s.vsm with visit := some v, log := logAtOpening s }
    ∧ t.bau = { s.bau with carry := { s.bau.carry with
        nextVisit := if nextVisitNumber s = 65535 then 1 else nextVisitNumber s + 1 } }

/-- VISIT_STATE for a state entered, with no cause: number, state, no cause given (R150, R183). -/
def visitTold (v : Visit) (state : VisitState) : EventSpec :=
  info .visitState (be16 (BitVec.ofNat 16 v.number) ++ [byteOf state.code, 0#8, 0#8])

/-- VISIT_STATE for a closure. -/
def closureTold (v : Visit) (outcome : VisitOutcome) (causes : List Byte) : EventSpec :=
  info .visitState (be16 (BitVec.ofNat 16 v.number) ++ [byteOf outcome.code] ++ causes)

/-- The log record of a visit closed now (R165). -/
def logOf (v : Visit) (outcome : VisitOutcome) (dues : List DueKind) (s : State) : LogRec :=
  { number := v.number, kind := v.kind, technician := v.technician, openedMinute := v.openedMinute,
    closedMinute := s.bau.minutes, outcome := outcome, tasks := v.tasks, dues := dues }

/-- The visit log after a record is appended: the oldest of 16 is removed first (R165). -/
def logged (r : LogRec) (log : List LogRec) : List LogRec :=
  (if log.length < 16 then log else log.drop 1) ++ [r]

/-! ## The battery account -/

/-- Health from a life used and H_test (R76, R79). -/
def healthOf (u hTest : Nat) (s : State) : Nat :=
  min (1000 - min 1000 (1000 * u / (s.hpi.cab.life * 8415360))) hTest

/-- Q_full for a health (R63). -/
def fullCharge (h : Nat) (s : State) : Nat := s.hpi.cab.cRated.getD 0 * 144000 * h / 1000

/-- Runtime from a charge and an output power (R81). -/
def runtimeFor (q p : Nat) (s : State) : Nat :=
  if q = 0 then 0 else if p = 0 then 65535 else min 65535 (q * s.hpi.cab.vNom.getD 0 / (p * 240000))

/-- The weight of the band of a filtered temperature (R72). -/
def weightOf (tf : Int) (s : State) : Nat :=
  s.bau.ageing.getD (if tf < 150 then 0 else if 850 ≤ tf then 15 else 1 + ((tf - 150) / 50).toNat) 0

/-- The dues that an evaluation raises, in the order of R147 and R148, with their details: a condition that
stands, armed where it has an arm flag, and no entry of the kind. -/
def duesRaised (s : State) : List (DueKind × EventSpec) :=
  let told := fun (k : DueKind) (more : List Byte) => (k, notice .dueRaised ([byteOf k.code] ++ more))
  let health := be16 (BitVec.ofNat 16 s.bau.h) ++ [match s.bau.carry.verdict with
    | .none => 0#8 | .good => 1#8 | .weak => 2#8]
  ([(decide (s.bau.h < s.hpi.cab.replaceTh) && s.vsm.armReplace, told .batteryReplace health),
    (decide (s.bau.h < s.hpi.cab.inspectTh ∨ s.bau.carry.verdict = .weak) && s.vsm.armInspect,
      told .batteryInspect health),
    (decide (s.hpi.cab.testInt * 1440 < s.bau.carry.minTest),
      told .testOverdue (be32 (BitVec.ofNat 32 s.bau.carry.minTest))),
    (decide (s.hpi.cab.periodInt * 1440 < s.bau.carry.minVisit),
      told .periodic (be32 (BitVec.ofNat 32 s.bau.carry.minVisit)))].filter fun x =>
        x.1 && !s.vsm.dues.any fun d => decide (d.kind = x.2.1)).map (·.2)

/-- The VSM after an evaluation: the dues raised, and each arm flag set exactly where its condition does not
stand (R147). -/
def duesEvaluated (s : State) : Vsm :=
  { s.vsm with
    dues := s.vsm.dues ++ (duesRaised s).map fun x => ⟨x.1, s.bau.minutes⟩
    armReplace := !decide (s.bau.h < s.hpi.cab.replaceTh)
    armInspect := !decide (s.bau.h < s.hpi.cab.inspectTh ∨ s.bau.carry.verdict = .weak) }

/-- The gap of a frame with the given sequence; 0 where R56 gives none. -/
def frameGap (seq : Byte) (s : State) : Nat :=
  match s.sns.lastSeq with
  | none => 0
  | some l => if seq = l then 0 else (seq - l - 1#8).toNat

/-- The multiplier of a frame, 0 for a repeat (R56). -/
def frameMultiplier (seq : Byte) (s : State) : Nat :=
  match s.sns.lastSeq with
  | none => 1
  | some l => if seq = l then 0 else if frameGap seq s ≤ 3 then frameGap seq s + 1 else 1

/-- The discharge that a frame leaves to be counted, and the step of the remainder (R66). -/
def dischargeWith (f : SenseFrame) (s : State) : Nat :=
  if f.i < 0 then s.bau.carry.d + frameMultiplier f.seq s * f.i.natAbs else s.bau.carry.d
def dischargeStep (s : State) : Nat := s.hpi.cab.cRated.getD 0 * 1440

/-- The account after T_f is set or filtered by the highest temperature of a frame (R60, R61). -/
def warmed (f : SenseFrame) (s : State) : Bau :=
  match ([f.t1, f.t2, f.t3, f.t4].filterMap id).max? with
  | none => s.bau
  | some x =>
    { s.bau with
      tfInit := true
      tf := if s.bau.tfInit then
        ((s.hpi.cab.k : Int) * x + (32 - (s.hpi.cab.k : Int)) * s.bau.tf + 16).fdiv 32 else x }

/-- The account after a counted frame: the charge counted and clamped (R62), the float count and its resync (R65),
the discharge remainder with a cycle penalty for each step (R66), health after such a step (R75, R79) and the
runtime (R81). -/
def frameCounted (f : SenseFrame) (s : State) : Bau :=
  let m := frameMultiplier f.seq s
  let atFloat := s.hpi.cab.floatV ≠ 0 ∧ s.hpi.cab.floatV ≤ f.v ∧ f.i.natAbs ≤ s.hpi.cab.floatI
  let count := if atFloat then (if 4 ≤ frameGap f.seq s then 1 else s.bau.floatCount + m) else 0
  let full := fullCharge s.bau.h s
  let q := if 7200 ≤ count then full else (max 0 (min (full : Int) (s.bau.q + m * f.i))).toNat
  let d := dischargeWith f s
  let warm := warmed f s
  let synced := s.bau.carry.synced || decide (7200 ≤ count)
  let floatCount := if 7200 ≤ count then 0 else count
  if 0 ≤ f.i ∨ d < dischargeStep s then
    { warm with
      q := q, floatCount := floatCount, runtime := runtimeFor q f.p s
      carry := { s.bau.carry with d := d, synced := synced } }
  else
    let u := min 4294967295 (s.bau.carry.u + d / dischargeStep s * s.hpi.cab.cyclePenalty)
    let h := healthOf u s.bau.carry.hTest s
    let q₁ := if h = s.bau.h then q else min q (fullCharge h s)
    { warm with
      q := q₁, floatCount := floatCount, runtime := runtimeFor q₁ f.p s
      hAge := 1000 - min 1000 (1000 * u / (s.hpi.cab.life * 8415360)), h := h
      weak := if h = s.bau.h then s.bau.weak
        else decide (h < s.hpi.cab.weakTh) || decide (s.bau.carry.verdict = .weak)
      carry := { s.bau.carry with u := u, d := d % dischargeStep s, synced := synced } }

/-- The dues that a counted frame raises: they are evaluated where it changes health (R75, R147). -/
def frameDues (f : SenseFrame) (s : State) : List EventSpec :=
  if (frameCounted f s).h = s.bau.h then [] else (duesRaised { s with bau := frameCounted f s }).map (·.2)

def frameVsm (f : SenseFrame) (s : State) : Vsm :=
  if (frameCounted f s).h = s.bau.h then s.vsm else duesEvaluated { s with bau := frameCounted f s }

/-! ## The COMPLETED closure of a visit (R149, R163) -/

/-- The dues that a COMPLETED closure clears, in due list order: each whose clearing task stands in the task
list, PERIODIC in an ISOLATION visit only (R146, R149). -/
def duesClosed (v : Visit) (s : State) : List DueKind :=
  (s.vsm.dues.map (·.kind)).filter fun k => decide (
    (k = .batteryReplace ∧ .batteryReplaced ∈ v.tasks)
    ∨ (k = .batteryInspect ∧ (.batteryInspected ∈ v.tasks ∨ .batteryReplaced ∈ v.tasks))
    ∨ (k = .faultFollowup ∧ .faultCleared ∈ v.tasks)
    ∨ (k = .periodic ∧ .periodicDone ∈ v.tasks ∧ v.kind = .isolation))

/-- The account after a COMPLETED closure: PERIODIC_DONE in an ISOLATION visit takes the periodic count to 0
(R163), BATTERY_REPLACED renews the string (R82). -/
def bauClosed (v : Visit) (s : State) : Bau :=
  let minVisit := if v.kind = .isolation ∧ .periodicDone ∈ v.tasks then 0 else s.bau.carry.minVisit
  let q := fullCharge 1000 s * 500 / 1000
  if .batteryReplaced ∈ v.tasks then
    { s.bau with
      carry := { s.bau.carry with
        u := 0, d := 0, baseline := none, hTest := 1000, verdict := .none, synced := false, minVisit := minVisit }
      floatCount := 0, hAge := 1000, h := 1000, weak := decide (1000 < s.hpi.cab.weakTh), q := q
      runtime := runtimeFor q (ownLoad s) s }
  else { s.bau with carry := { s.bau.carry with minVisit := minVisit } }

/-- The VSM before the log record of a COMPLETED closure, and the events of the closure: the dues are cleared
in their order; a renewed string sets both arm flags and has the dues evaluated; VISIT_STATE comes last. -/
def vsmClosed (v : Visit) (s : State) : Vsm × List EventSpec :=
  let cleared := { s.vsm with visit := none, dues := s.vsm.dues.filter fun d => decide (d.kind ∉ duesClosed v s) }
  let told := (duesClosed v s).map fun k =>
    notice .dueCleared (byteOf k.code :: be16 (BitVec.ofNat 16 v.number))
  if .batteryReplaced ∈ v.tasks then
    let armed := { s with bau := bauClosed v s, vsm := { cleared with armReplace := true, armInspect := true } }
    (duesEvaluated armed, told ++ (duesRaised armed).map (·.2) ++ [closureTold v .completed [0#8, 0#8]])
  else (cleared, told ++ [closureTold v .completed [0#8, 0#8]])

/-- A visit has closed COMPLETED: its dues, its account and its record in the log (R163, R165). -/
def Completed (v : Visit) (s t : State) : Prop :=
  t.bau = bauClosed v s
    ∧ (let record := logOf v .completed (duesClosed v s) s
       t.vsm = { (vsmClosed v s).1 with log := logged record s.vsm.log })

/-! ## Records and bodies, spelled out by R70, R84, R85, R112, R130, R150, R165, R178, R179, R182 and R183 -/

/-- A field of the given width, most significant byte first (R179). -/
def field (width n : Nat) : List Byte := (List.range width).reverse.map fun k => byteOf (n / 256 ^ k)

/-- A signed field of two bytes, two's complement. -/
def signed (i : Int) : List Byte := field 2 (BitVec.ofInt 16 i).toNat

/-- A field that a record may lack: a presence byte, and zeros over its width where it is absent (R179). That the
presence byte of one it has is 1 is log entry 30. -/
def optional (width : Nat) (x : Option (List Byte)) : List Byte :=
  match x with
  | some bytes => 1#8 :: bytes
  | none => List.replicate (width + 1) 0#8

/-- A list: its count, its entries, and zeros up to its full bound. -/
def listed (width bound : Nat) (l : List (List Byte)) : List Byte :=
  byteOf l.length :: (l.flatten ++ List.replicate (width * (bound - l.length)) 0#8)

/-- The remaining time of a timer in milliseconds; which way a part of one is rounded is log entry 7. -/
def remainingMs (t : Option Ticks) : List Byte :=
  field 4 (match t with
    | none => 0
    | some n => n / 10 + (if n % 10 ≠ 0 ∧ Config.roundsUpMs n = true then 1 else 0))

/-- The lamp LAMP-PERMIT by the table of R159. -/
def permitShown (s : State) : Bool :=
  match s.vsm.visit with
  | none => false
  | some v => decide (
      (v.state = .isolating ∧ s.trc.ownMode = .off ∧ s.trc.activity = .none ∧ s.clu.output.qual = true)
      ∨ (v.state = .isolated ∧ s.clu.battery.qual = true)
      ∨ (v.state = .restoring ∧ v.joinRequested = false
          ∧ (s.clu.input.qual = false ∨ s.clu.battery.qual = false ∨ s.clu.output.qual = false))
      ∨ (v.state = .maintWait ∧ s.trc.ownMode = .byp ∧ s.clu.maint.qual = false)
      ∨ (v.state = .maintOn ∧ (s.clu.output.qual = false ∨ v.outputOpened = false ∨ s.clu.maint.qual = true)))

def modeCode : Mode → Byte
  | .off => 0#8 | .inv => 1#8 | .byp => 2#8
def feedbackCode : FbMode → Byte
  | .off => 0#8 | .inv => 1#8 | .byp => 2#8 | .invalid => 3#8
def activityCode : ActKind → Byte
  | .none => 0#8 | .proposed => 1#8 | .following => 2#8 | .armed => 3#8 | .switching => 4#8 | .mismatch => 5#8
def alignCode : Align → Byte
  | .alone => 0#8 | .aligning => 1#8 | .aligned => 2#8
def verdictCode : Verdict → Byte
  | .none => 0#8 | .good => 1#8 | .weak => 2#8
def kindOfClaim : ClaimKind → Byte
  | .test => 1#8 | .service => 2#8
def kindOfVisit : VisitKind → Byte
  | .inspection => 1#8 | .isolation => 2#8 | .floorMaintenance => 3#8
def kindOfDue : DueKind → Byte
  | .batteryReplace => 1#8 | .batteryInspect => 2#8 | .testOverdue => 3#8 | .faultFollowup => 4#8
  | .periodic => 5#8
def taskCode : Task → Byte
  | .batteryReplaced => 1#8 | .batteryInspected => 2#8 | .faultCleared => 3#8 | .periodicDone => 4#8
  | .fanReplaced => 5#8 | .capacitorReplaced => 6#8 | .other => 7#8

def idField (id : PropId) : List Byte := [byteOf id.station.val, id.seq]

/-- A claim as a peer or the own values show it: kind, claim time, and 1 for CLAIMING, 2 for GRANTED. That a PENDING
record reads 1 too is log entry 19. -/
def claimField (c : ShownClaim) : List Byte :=
  kindOfClaim c.kind :: (be32 c.time ++ [if c.granted then 2#8 else 1#8])

/-- HPI: device state, flags, event count, and every setting in the order of R174 and R175. -/
def hpiSpelled (s : State) : List Byte :=
  let f := s.hpi.floor
  let c := s.hpi.cab
  [if s.hpi.running then 2#8 else 1#8, flag s.hpi.configured, byteOf s.hpi.events.length, flag s.hpi.eventsLost]
    ++ [byteOf f.margin, byteOf f.minInv] ++ field 2 f.respWindow ++ field 2 f.lead ++ field 2 f.hold
    ++ field 2 f.claimWindow ++ [byteOf f.linkDelay, byteOf f.overloadTol]
    ++ [match f.elevated with | none => 0#8 | some k => byteOf k.code]
    ++ optional 2 (c.rated.map (field 2)) ++ optional 2 (c.cRated.map (field 2))
    ++ optional 2 (c.vNom.map (field 2)) ++ [byteOf c.life] ++ field 2 c.cyclePenalty ++ [byteOf c.k]
    ++ signed c.assumed ++ field 2 c.floatV ++ field 2 c.floatI ++ field 2 c.weakTh ++ field 2 c.inspectTh
    ++ field 2 c.replaceTh ++ field 2 c.weakCap ++ field 2 c.testInt ++ field 2 c.periodInt
    ++ [byteOf c.qualMs, match c.alarmMode with | .level => 1#8 | .edge => 2#8] ++ field 2 c.hornTerm
    ++ [byteOf c.stepTimeout]

/-- FLC, then CLU: straps, link state and mute cause; stage inputs, feedback, command lines, SUPV, TEST-WD,
contacts, alarm condition, latch and input, horn and both lamps. -/
def linesSpelled (s : State) : List Byte :=
  let c := s.clu
  let shown := fun m : Mode => level (c.supv && !c.dead && decide (c.modeCmd = m))
  [byteOf s.link.station.val,
    match s.link.rate with | .k125 => 0#8 | .k250 => 1#8 | .k500 => 2#8 | .k1000 => 3#8,
    match s.link.state with
      | .listen => 0#8 | .active => 1#8 | .mutedFailures => 2#8 | .mutedDuplicate => 2#8,
    match s.link.state with
      | .listen => 0#8 | .active => 0#8 | .mutedFailures => 1#8 | .mutedDuplicate => 2#8,
    level c.invFault.qual, level c.overload.qual, level c.bypOk.qual, feedbackCode c.fb.qual, modeCode c.modeCmd,
    shown .inv, shown .byp, level c.supv, level c.testWd, level c.input.qual, level c.bypassIn.qual,
    level c.output.qual, level c.battery.qual, level c.maint.qual,
    flag (match s.hpi.cab.alarmMode with | .level => c.alarmIn.qual | .edge => c.alarmLatch),
    flag c.alarmLatch, level c.alarmIn.qual, level c.horn, level s.vsm.visit.isSome, level (permitShown s)]

/-- A sense frame in the order of R54, an absent temperature as an absent field. -/
def frameSpelled (f : SenseFrame) : List Byte :=
  f.seq :: (field 2 f.v ++ signed f.i ++ field 2 f.p ++ optional 2 (f.t1.map signed)
    ++ optional 2 (f.t2.map signed) ++ optional 2 (f.t3.map signed) ++ optional 2 (f.t4.map signed)
    ++ [flag f.mainsOk, flag f.invReady])

/-- SNS and BAU: the values of R70, then those of R84. -/
def batterySpelled (s : State) : List Byte :=
  let b := s.bau
  let full := if s.hpi.running then fullCharge b.h s else 0
  [match s.sns.state with | .waiting => 0#8 | .live => 1#8 | .stale => 2#8 | .lost => 3#8]
    ++ optional 21 (s.sns.last.map frameSpelled) ++ signed b.tf ++ [flag b.tfInit] ++ field 4 b.q
    ++ field 4 full ++ field 2 (if full = 0 then 0 else 1000 * b.q / full) ++ field 4 b.carry.d
    ++ field 2 b.floatCount ++ [flag b.carry.synced]
    ++ field 4 b.minutes ++ field 4 b.carry.u ++ field 4 (s.hpi.cab.life * 8415360) ++ field 2 b.hAge
    ++ field 2 b.carry.hTest ++ field 2 b.h ++ [flag b.weak] ++ field 2 s.hpi.cab.weakTh
    ++ field 2 b.runtime
    ++ [byteOf (if b.tf < 150 then 0 else if 850 ≤ b.tf then 15 else 1 + ((b.tf - 150) / 50).toNat),
        byteOf (weightOf b.tf s)]
    ++ b.ageing.map byteOf

def originCode : Origin → Byte
  | .planned => 1#8 | .forced => 2#8 | .dropout => 3#8 | .join => 4#8 | .isolate => 5#8 | .stage => 6#8

/-- The activity record: kind, id, direction, execute time, target and origin, each where the kind has it. -/
def activitySpelled (a : Activity) : List Byte :=
  let dirCode := fun d : Direction => match d with | .toBypass => 1#8 | .toInverter => 2#8
  let no := fun n : Nat => List.replicate n 0#8
  match a with
  | .none => 0#8 :: no 14
  | .proposed id d => [1#8, 1#8] ++ idField id ++ [1#8, dirCode d] ++ no 9
  | .following id d => [2#8, 1#8] ++ idField id ++ [1#8, dirCode d] ++ no 9
  | .armed id d t => [3#8, 1#8] ++ idField id ++ [1#8, dirCode d] ++ [1#8] ++ be32 t ++ no 4
  | .switching m o => 4#8 :: (no 10 ++ [1#8, modeCode m, 1#8, originCode o])
  | .mismatch m o => 5#8 :: (no 10 ++ [1#8, modeCode m, 1#8, originCode o])

def stationsSpelled (l : List Station) : List Byte := listed 1 15 (l.map fun p => [byteOf p.val])

/-- The proposal record: PROPOSED has a phase and two sets, FOLLOWING and ARMED have the proposing station. -/
def proposalSpelled (r : ProposalRec) : List Byte :=
  match r.phase with
  | none => [1#8, byteOf r.station.val] ++ be32 r.proposedAt ++ be32 r.executeAt ++ List.replicate 36 0#8
  | some p =>
    [0#8, 0#8] ++ be32 r.proposedAt ++ be32 r.executeAt
      ++ [1#8, match p with | .queued => 1#8 | .window => 2#8 | .ordering => 3#8]
      ++ [1#8] ++ stationsSpelled r.consentSet ++ [1#8] ++ stationsSpelled r.consents

/-- TRC: the items of R85, the split counts in the order of the other stations' numbers. -/
def trcSpelled (s : State) : List Byte :=
  modeCode s.trc.ownMode :: (activitySpelled s.trc.activity
    ++ optional 46 (s.trc.proposal.map proposalSpelled) ++ remainingMs s.trc.holdTimer
    ++ remainingMs s.trc.switchTimer ++ remainingMs s.trc.overloadTimer ++ [s.trc.proposalSeq]
    ++ ((List.finRange 16).filter fun p => decide (p ≠ s.link.station)).map
      (fun p => byteOf (s.trc.splits.get p))
    ++ optional 1 (s.trc.lastKnown.map fun m => [modeCode m]))

/-- LVA: the own claim record of R112. -/
def lvaSpelled (s : State) : List Byte :=
  match s.lva with
  | none => List.replicate 17 0#8
  | some c =>
    [if c.granted then 2#8 else 1#8, kindOfClaim c.kind, Config.requesterCode c.kind] ++ be32 c.time
      ++ [if c.granted then 0#8 else if c.inWindow then 2#8 else 1#8] ++ remainingMs c.windowTimer
      ++ remainingMs c.queueTimer ++ [flag c.fixed]

/-- TSQ: the profile, the run state and the in-progress fields of R130. -/
def tsqSpelled (s : State) : List Byte :=
  let r := s.tsq.run
  let stepKind := fun k : StepKind => match k with | .rest => 1#8 | .discharge => 2#8
  listed 6 8 (s.tsq.profile.map fun st =>
      [stepKind st.kind] ++ field 2 st.duration ++ field 2 st.floor ++ [flag st.capture])
    ++ (match s.tsq.state with
      | .idle => [0#8, 0#8, 0#8] | .claiming => [1#8, 0#8, 0#8] | .running n => [2#8, 1#8, byteOf n]
      | .paused n => [3#8, 1#8, byteOf n] | .ended => [4#8, 0#8, 0#8])
    ++ field 2 r.number ++ [flag r.single, byteOf r.completed]
    ++ listed 5 8 (r.captures.map fun c => byteOf c.step :: (field 2 c.v ++ signed c.i))
    ++ listed 4 4 (r.recent.map fun x => field 2 x.1 ++ signed x.2) ++ [byteOf r.floorCount]
    ++ field 4 r.discharged ++ optional 2 (r.minV.map (field 2)) ++ remainingMs r.stepTimer
    ++ remainingMs r.pauseTimer

def tasksSpelled (l : List Task) : List Byte := listed 1 8 (l.map fun t => [taskCode t])

/-- VSM: the open visit record of R150. -/
def vsmSpelled (s : State) : List Byte :=
  optional 30 (s.vsm.visit.map fun v =>
    field 2 v.number ++ [kindOfVisit v.kind] ++ field 2 v.technician ++ field 4 v.openedMinute
      ++ [match v.state with
          | .opened => 1#8 | .requested => 2#8 | .isolating => 3#8 | .isolated => 4#8 | .restoring => 5#8
          | .maintWait => 6#8 | .maintOn => 7#8]
      ++ tasksSpelled v.tasks ++ [flag v.claimed] ++ remainingMs v.stepTimer ++ [flag v.joinRequested]
      ++ remainingMs v.retryTimer ++ [flag v.outputOpened])

/-- The own values in the order of R28. -/
def ownSpelled (s : State) : List Byte :=
  [modeCode s.trc.ownMode, activityCode s.trc.activity.kind]
    ++ optional 2 (s.trc.activity.propId.map idField)
    ++ [flag s.trc.holdTimer.isSome, flag (isolatedFlag s), flag (maintFlag s)]
    ++ optional 6 (s.lva.map fun c =>
      kindOfClaim c.kind :: (be32 c.time ++ [if c.granted then 2#8 else 1#8]))
    ++ [match ownSource s with | .mains => 0#8 | .battery => 1#8, flag (decide (s.sns.state = .lost)),
        flag s.bau.weak]
    ++ field 2 s.bau.h ++ field 2 s.bau.runtime ++ field 2 (ownLoad s) ++ field 2 (ownCarrying s)
    ++ field 2 (ownReady s) ++ [alignCode s.ftu.align]

/-- READ FLOOR: the five figures of R29, the own values, alignment, floor time and slew (R30). -/
def floorSpelled (s : State) : List Byte :=
  byteOf (inverterCount s) :: (field 4 (floorLoad s) ++ field 4 (carryingCapacity s) ++ field 4 (readyCapacity s)
    ++ field 4 (backedCapacity s) ++ ownSpelled s ++ [alignCode s.ftu.align] ++ be32 s.ftu.floorTime
    ++ signed s.ftu.slew)

/-- READ PEER: the entry in the order of R19; an ABSENT one holds nothing (R182). -/
def peerSpelled (e : Peer) : List Byte :=
  let r := e.report
  if e.presence = .absent then List.replicate 42 0#8
  else
    [match e.presence with | .absent => 0#8 | .joining => 1#8 | .present => 2#8 | .stale => 3#8, e.seq]
      ++ be32 e.rxStart ++ optional 4 (e.offset.map be32) ++ [byteOf e.fresh, modeCode r.mode, flag r.isolated,
        flag r.maint, flag r.hold, match r.source with | .mains => 0#8 | .battery => 1#8, flag r.weak,
        flag r.senseLost, alignCode r.align, activityCode r.act]
      ++ optional 2 (r.propId.map idField) ++ optional 6 (e.claim.map claimField)
      ++ field 2 r.carrying ++ field 2 r.ready ++ field 2 r.load ++ field 2 r.health ++ field 2 r.runtime
      ++ [byteOf ((if e.markers.presence then 1 else 0) + (if e.markers.mode then 2 else 0)
          + (if e.markers.claim then 4 else 0) + (if e.markers.health then 8 else 0))]

/-- The carry-over record of R183. -/
def carrySpelled (c : Carry) : List Byte :=
  field 4 c.u ++ field 4 c.d ++ optional 2 (c.baseline.map (field 2)) ++ field 2 c.hTest
    ++ [verdictCode c.verdict] ++ field 2 c.soc ++ [flag c.synced] ++ field 4 c.minTest ++ field 4 c.minVisit
    ++ field 2 c.nextVisit ++ field 2 c.nextRun

/-- READ DUES: the entries with their clearing tasks, then the two arm flags (R146, R165). -/
def duesSpelled (s : State) : List Byte :=
  listed 8 5 (s.vsm.dues.map fun d =>
      [kindOfDue d.kind] ++ field 4 d.minute
        ++ (match d.kind with
          | .batteryReplace => [1#8, 1#8, 0#8] | .batteryInspect => [2#8, 2#8, 1#8]
          | .testOverdue => [0#8, 0#8, 0#8] | .faultFollowup => [1#8, 3#8, 0#8] | .periodic => [1#8, 4#8, 0#8]))
    ++ [flag s.vsm.armReplace, flag s.vsm.armInspect]

/-- The visit log record of R183. -/
def logSpelled (r : LogRec) : List Byte :=
  field 2 r.number ++ [kindOfVisit r.kind] ++ field 2 r.technician ++ field 4 r.openedMinute
    ++ field 4 r.closedMinute
    ++ [match r.outcome with
        | .completed => 1#8 | .cancelled => 2#8 | .abandoned => 3#8 | .stalled => 4#8 | .interrupted => 5#8]
    ++ tasksSpelled r.tasks ++ listed 1 5 (r.dues.map fun k => [kindOfDue k])

/-- The result record of R183. -/
def resultSpelled (r : TestResult) : List Byte :=
  field 2 r.number
    ++ [match r.cause with
        | .profileDone => 1#8 | .floorReached => 2#8 | .claimDenied => 3#8 | .aborted => 4#8
        | .mainsLost => 5#8 | .transfer => 6#8 | .forced => 7#8 | .marginLost => 8#8 | .senseStale => 9#8
        | .pauseTimeout => 10#8 | .restart => 11#8, flag r.single, byteOf r.completed]
    ++ listed 5 8 (r.captures.map fun c => byteOf c.step :: (field 2 c.v ++ signed c.i))
    ++ optional 2 (r.resistance.map (field 2)) ++ field 4 r.discharged ++ optional 2 (r.minV.map (field 2))
    ++ [verdictCode r.verdict]

/-! ## Conditions on a state that the statements share -/

/-- RUNNING with the link ACTIVE and no attempt in progress. -/
abbrev OnLine (s : State) : Prop := s.hpi.running = true ∧ s.link.state = .active ∧ s.link.attempt = none

/-- A re-evaluation of the own claim keeps it: there is none, it is not granted, its fixed flag is set, or it passes
on the view of `s` (R122, R124). -/
abbrev ClaimKept (s : State) : Prop :=
  ∀ c ∈ s.lva, c.granted = false ∨ c.fixed = true ∨ keepCheck s s.link.station c.time = none

/-- The run in progress holds its TEST claim, which passes a re-evaluation on the view of `s` (R122, R132). -/
abbrev TestClaimHeld (c : Claim) (s : State) : Prop :=
  s.lva = some c ∧ c.kind = .test ∧ c.granted = true ∧ keepCheck s s.link.station c.time = none

/-- A run under way holds the granted TEST claim `c`, which a re-evaluation on the view of `s` finds failing (R122). -/
abbrev TestClaimFails (c : Claim) (r : Reason) (s : State) : Prop :=
  s.lva = some c ∧ c.kind = .test ∧ c.granted = true ∧ c.fixed = false ∧ s.tsq.state.underway = true
    ∧ keepCheck s s.link.station c.time = some r

/-- The floor time `t` still lies ahead, by the signed modular difference (R1). -/
abbrev Ahead (t : FloorTime) (s : State) : Prop := (s.ftu.floorTime - t).toInt < 0

/-- A heard proposal wins against the one held (R97). -/
abbrev wins (p : Station) (proposedAt : FloorTime) (r : ProposalRec) : Prop :=
  (proposedAt - r.proposedAt).toInt < 0 ∨ proposedAt = r.proposedAt ∧ p < r.station

/-- The record of a proposal that a follower keeps (R96). -/
def heardProposal (p : Station) (proposedAt executeAt : FloorTime) : ProposalRec :=
  ⟨p, proposedAt, executeAt, none, [], [], none⟩

/-- A queued message whose outcome is still open, with no failed attempt. -/
def queued (m : Msg) : TxEntry := { msg := m, attempts := 0, withdrawn := none }

/-- The link after a readback mismatch (R7, R9, R11): the frame on the line is received from its first bit, and
the last transmitter is another station. A line that stayed idle throughout carries no frame; that the flag then
stands is a DESIGN CHOICE, log entry 21. -/
def mismatched (x : Mismatch) (a : Attempt) (l : Link) : Link :=
  if x = .sensedRecessive true then { l with attempt := none, lineIdle := true }
  else { l with attempt := none, lastTransmitter := false, lineIdle := false, rx := some a.txStart }

/-- The carrying capacity of the PRESENT peers in INV (R106). -/
def carriedByOthers (s : State) : Nat :=
  ((s.peers.filter fun e => decide (e.presence = .present ∧ e.report.mode = .inv)).map
    fun e => e.report.carrying).sum

/-- The TRC after a switch is entered from INV with no activity (R87). -/
def switchEntered (target : Sys2Proof.Mode) (origin : Origin) (hold : Option Ticks) (s : State) : Trc :=
  { s.trc with
    activity := .switching target origin, proposal := none, executing := none, switchTimer := some 400
    holdTimer := hold, overloadTimer := none, splits := Vector.replicate 16 0 }

/-- FAULT_FOLLOWUP after a dropout or a forced transfer with a fault cause: raised where the due list holds
none (R148). The code of a dropout is log entry 10. -/
def followupTold (cause : Byte) (s : State) : List EventSpec :=
  if s.vsm.dues.any fun d => decide (d.kind = .faultFollowup) then [] else [notice .dueRaised [cause]]

/-- The VSM with FAULT_FOLLOWUP on the due list: it keeps the minute of the first report (R148). -/
def followedUp (s : State) : Vsm :=
  if s.vsm.dues.any fun d => decide (d.kind = .faultFollowup) then s.vsm
  else { s.vsm with dues := s.vsm.dues ++ [⟨.faultFollowup, s.bau.minutes⟩] }

/-- The two figures of DROPOUT, four bytes each (log entry 18). -/
def dropoutFigures (s : State) : List Byte :=
  be32 (BitVec.ofNat 32 (carriedByOthers s)) ++ be32 (BitVec.ofNat 32 (floorLoad s))

/-- The INTERLOCK that a qualified contact change raises, by the table of R164. -/
def interlockTold (k : Contact) (closed : Bool) (s : State) : List EventSpec :=
  let mode := modeCode s.trc.ownMode
  let taken := s.vsm.visit.any fun v => decide (v.kind = .isolation ∨ v.state = .maintOn)
  if k = .maint ∧ closed = true ∧ s.trc.ownMode = .inv then [alarm .interlock [1#8, mode]]
  else if k = .maint ∧ closed = false ∧ maintFlag s = true ∧ s.clu.output.qual = false then
    [alarm .interlock [2#8, mode]]
  else if k = .bypassIn ∧ closed = false ∧ s.trc.ownMode = .byp then [alarm .interlock [3#8, mode]]
  else if k = .battery ∧ closed = false ∧ ownSource s = .battery then [alarm .interlock [4#8, mode]]
  else if k = .output ∧ closed = false ∧ s.trc.ownMode ≠ .off ∧ taken = false then
    [notice .interlock [5#8, mode]]
  else []

/-- The mode that JOIN switches to (R109). -/
def floorModeFor (s : State) : Sys2Proof.Mode :=
  if s.ftu.align = .alone ∨ (∃ e ∈ s.peers, e.presence = .present ∧ e.report.mode = .inv)
      ∨ s.trc.lastKnown = some .inv
  then .inv else .byp

/-- The TRC after a JOIN is taken (R87, R109). -/
def joining (target : Sys2Proof.Mode) (s : State) : Trc :=
  { s.trc with
    activity := .switching target .join, proposal := none, executing := none, switchTimer := some 400
    overloadTimer := if target = .inv then s.trc.overloadTimer else none, splits := Vector.replicate 16 0 }

/-- The link after the release of a claim that was made known: its RELEASE is queued (R126). -/
def released (c : Option Claim) (status : Option TxEntry) (s : State) : Link :=
  { s.link with
    coord := s.link.coord ++ (match c with | some c => [queued (.release c.kind c.time)] | none => [])
    status := status }

/-- The visit that the end of a switch completes: one in RESTORING whose JOIN the switch carries out (R156). -/
def joinedVisit (origin : Origin) (s : State) : Option Visit :=
  if origin = .join then s.vsm.visit.filter fun v => decide (v.state = .restoring) && v.joinRequested else none

/-- What the end of a switch or a mismatch raises by the block that its origin names (R87): TRANSFER_DONE for a
planned transfer (R99), the closure of the visit that asked for JOIN (R156), and nothing for any other. -/
def endTold (target : Sys2Proof.Mode) (origin : Origin) (id : PropId) (dir : Direction) (s : State) :
    List EventSpec :=
  if origin = .planned then
    [notice .transferDone [byteOf id.station.val, id.seq, byteOf dir.code, byteOf target.code]]
  else match joinedVisit origin s with
    | some v => (vsmClosed v s).2
    | none => []

/-- The visit that asked for JOIN is COMPLETED with its SERVICE claim released (R126, R156); without one the visit,
the account and the claim stand. -/
def EndReported (origin : Origin) (s t : State) : Prop :=
  match joinedVisit origin s with
  | some v => Completed v s t ∧ t.lva = none
  | none => t.vsm = s.vsm ∧ t.bau = s.bau ∧ t.lva = s.lva

/-- The COORD queue after the end of a switch: the RELEASE of the claim of a completed visit stands behind it. -/
def coordAtEnd (origin : Origin) (s : State) : List TxEntry :=
  match joinedVisit origin s with
  | some _ => (released s.lva none s).coord
  | none => s.link.coord

/-- The causes with which a switch that makes the own mode INV has the floor forced: OVERLOAD where it is active and
the tolerance is 0 (R104), then INTERLOCK where MAINT is closed (R107). That OVERLOAD is looked at first is log
entry 15. -/
def causesAtInv (s : State) : List ForceCause :=
  (if s.clu.overload.qual = true ∧ s.hpi.floor.overloadTol = 0 then [.overload] else [])
    ++ if s.clu.maint.qual then [.interlock] else []

/-- What a force of those causes raises at a station on INV: INTERLOCK before the one with that cause (R164, log entry
15), TRANSFER_FORCED, and CANNOT_FOLLOW where BYP-OK is inactive (R102, R103). -/
def forceTold (cause : ForceCause) (s : State) : List EventSpec :=
  (if cause = .interlock then [alarm .interlock [1#8, 1#8]] else [])
    ++ [alarm .transferForced [byteOf cause.code, byteOf s.link.station.val]]
    ++ if s.clu.bypOk.qual then [] else [alarm .cannotFollow [byteOf s.link.station.val]]

/-- The record of a run that ends now with no verdict (R141). -/
def resultOf (cause : EndCause) (s : State) : TestResult :=
  { number := s.tsq.run.number, cause := cause, single := s.tsq.run.single, completed := s.tsq.run.completed
    captures := s.tsq.run.captures, resistance := testResistance s.tsq.profile s.tsq.run.captures
    discharged := s.tsq.run.discharged, minV := s.tsq.run.minV, verdict := .none }

/-- TEST_ENDED of a run that ends now with no verdict (R140). -/
def runTold (cause : EndCause) (s : State) : EventSpec :=
  notice .testEnded (be16 (BitVec.ofNat 16 s.tsq.run.number)
    ++ [byteOf cause.code, byteOf s.tsq.run.completed, 0#8])

/-- The own PROPOSE and ORDER of a proposal, which its end takes from the queue (R100). -/
def ofProposal (id : PropId) (e : TxEntry) : Bool :=
  match e.msg with
  | .propose seq _ _ _ => decide (seq = id.seq)
  | .order i => decide (i = id)
  | _ => false

/-- The link after the COORD messages that `which` picks are withdrawn with no attempt in progress (R13, R15). -/
def coordWithout (which : TxEntry → Bool) (l : Link) : Link :=
  let kept := l.coord.filter fun e => !which e
  { l with coord := kept, congestionReported := l.congestionReported && decide (kept.length = 8) }

/-- The link after the planned activity is dropped: a proposer withdraws its PROPOSE and its ORDER, a follower its
CONSENT (R100). With no planned activity nothing is withdrawn. -/
def planDropped (s : State) : Link :=
  let own := fun (id : PropId) => coordWithout (ofProposal id) s.link
  let followed := fun (id : PropId) => coordWithout (fun e => decide (e.msg = .consent id)) s.link
  match s.trc.activity with
  | .proposed id _ => own id
  | .following id _ => followed id
  | .armed id _ _ => if id.station = s.link.station then own id else followed id
  | .none => s.link
  | .switching _ _ => s.link
  | .mismatch _ _ => s.link

/-- TRANSFER_CANCELLED of a planned activity dropped with a reason: a proposer raises it, a follower does not (R100). -/
def planTold (reason : Reason) (s : State) : List EventSpec :=
  let told := fun (id : PropId) =>
    [notice .transferCancelled [byteOf id.station.val, id.seq, byteOf reason.code]]
  match s.trc.activity with
  | .proposed id _ => told id
  | .armed id _ _ => if id.station = s.link.station then told id else []
  | .following _ _ => []
  | .none => []
  | .switching _ _ => []
  | .mismatch _ _ => []

/-- The own TEST claim, which a run in progress holds (R132). -/
def runClaim (s : State) : Option Claim := s.lva.filter fun c => decide (c.kind = .test)

/-- An own TEST claim is held exactly while a run is in progress. -/
abbrev RunHoldsClaim (s : State) : Prop := s.tsq.state.inProgress = (runClaim s).isSome

/-- The link after the claim of a run is released: the RELEASE of one that was made known is queued, the CLAIM of one
still queued is withdrawn (R126). -/
def runReleased (s : State) (l : Link) : Link :=
  match runClaim s with
  | none => l
  | some c =>
    if c.granted || c.inWindow then { l with coord := l.coord ++ [queued (.release .test c.time)] }
    else coordWithout (fun e => decide (e.msg = .claim .test c.time)) l

/-- A run in progress has ended with a cause and no verdict, and its claim is gone (R138, R140, R141); without a run
both stand. -/
def RunOver (cause : EndCause) (s t : State) : Prop :=
  t.tsq = (if s.tsq.state.inProgress then
      { s.tsq with state := .ended, run := RunRec.blank, result := some (resultOf cause s) } else s.tsq)
    ∧ t.lva = (if s.tsq.state.inProgress then none else s.lva)

/-- TEST_ENDED of a run in progress. -/
def runOverTold (cause : EndCause) (s : State) : List EventSpec :=
  if s.tsq.state.inProgress then [runTold cause s] else []

/-- TEST-WD falls with the end of a run (R140). -/
def wdOver (s : State) (c : Clu) : Clu := { c with testWd := c.testWd && !s.tsq.state.inProgress }

/-- The frame in which a station sends a message: start byte, header, payload and CRC (R4, R5, R180). -/
def frameOf (p : Station) (m : Msg) : List Byte := encodeFloorFrame p m

/-- The message has been heard from another station: it began at a start bit after an idle line (R3), it is
accepted, and the link is not in LISTEN. -/
abbrev Hears (p : Station) (m : Msg) (frame : List Byte) (s : State) : Prop :=
  s.link.rx ≠ none ∧ parseFloorFrame frame = .accepted p m ∧ p ≠ s.link.station ∧ s.link.state ≠ .listen

/-- The STATUS slot holds a fresh STATUS of the own values, queued at `t` or where they stood as at `t`. -/
def StatusQueued (t : State) : Prop :=
  ∃ m, t.link.status = some (queued (.status m)) ∧ m.seq = t.pvu.nextSeq ∧ m.prevStart = t.pvu.lastSent
    ∧ m.report.mode = t.trc.ownMode ∧ m.report.isolated = isolatedFlag t ∧ m.claim = ownShown t

/-- The cause with which a run ends when its claim is lost for the given reason (R125, R138). -/
def lossCause (r : Reason) : EndCause := if r = .onBattery then .mainsLost else .marginLost

/-- CLAIM_LOST of a claim, then TEST_ENDED of the run that held it (R125, R140). -/
def lossTold (c : Claim) (r : Reason) (s : State) : List EventSpec :=
  [notice .claimLost [kindOfClaim c.kind, byteOf r.code], runTold (lossCause r) s]

/-- The claim of a run is lost: the run has ended, TEST-WD has fallen, the record is empty and its RELEASE stands
behind the messages of `l` (R122, R125, R126, R140). -/
def RunLost (c : Claim) (r : Reason) (l : Link) (s t : State) : Prop :=
  RunOver (lossCause r) s t
    ∧ t.link = { l with coord := l.coord ++ [queued (.release .test c.time)], status := t.link.status }
    ∧ StatusQueued t
    ∧ t.clu = { s.clu with testWd := false, horn := t.clu.horn, hornTimer := t.clu.hornTimer }

/-- The row, taken at `r`, executes the planned transfer `id` at a station that stands as in `s`, with its link at `l`
(R99). A run in progress first ends with TRANSFER, its claim released (R126, R138). TO_BYPASS switches to BYP;
TO_INVERTER switches to INV, to OFF where the inverter is not ready, and not at all in hold, which cancels the transfer
at this station. -/
def ExecutesFrom (r : State) (row : Instr) (id : PropId) (dir : Direction) (l : Link) (s : State) : Prop :=
  let ends := fun (t : State) =>
    RunOver .transfer s t ∧ t.link = { runReleased s l with status := t.link.status } ∧
      (s.tsq.state.inProgress = true → StatusQueued t) ∧
      (s.tsq.state.inProgress = false → t.link.status = l.status) ∧ PortKept s t ∧
      SameBut [.tsq, .lva, .link, .trc, .clu, .hpi] s t
  (dir = .toInverter → s.trc.holdTimer ≠ none →
    ∃ t, exec row r = .next t ∧ ends t ∧
      TrcIs { s.trc with activity := .none, proposal := none } t ∧
      t.clu = { wdOver s s.clu with horn := t.clu.horn, hornTimer := t.clu.hornTimer } ∧
      Raised (runOverTold .transfer s ++
        [notice .transferCancelled [byteOf id.station.val, id.seq, byteOf Reason.hold.code]]) s t) ∧
  (∀ target : Sys2Proof.Mode, (dir = .toInverter → s.trc.holdTimer = none) →
    target = (match dir with
      | .toBypass => .byp
      | .toInverter => if invReadyFlag s && !s.clu.invFault.qual then .inv else .off) →
    s.clu.fb.qual ≠ target.feedback →
    ∃ t, exec row r = .next t ∧ ends t ∧
      TrcIs { s.trc with
        activity := .switching target .planned, proposal := none, executing := some (id, dir)
        switchTimer := some 400, overloadTimer := if target = .inv then s.trc.overloadTimer else none } t ∧
      t.clu = { commanded target (wdOver s s.clu) with horn := t.clu.horn, hornTimer := t.clu.hornTimer } ∧
      Raised (runOverTold .transfer s) s t)

/-- The row executes the planned transfer `id` at the station as it finds it (R99). -/
def Executes (row : Instr) (id : PropId) (dir : Direction) (l : Link) (s : State) : Prop :=
  ExecutesFrom s row id dir l s

/-- The values of a message fit the fields that carry them (R180). -/
def MsgFits (m : Msg) : Prop :=
  match m with
  | .status m =>
    m.report.carrying < 65536 ∧ m.report.ready < 65536 ∧ m.report.load < 65536 ∧ m.report.health < 65536
      ∧ m.report.runtime < 65536
  | .objectOther subject rest => subject ≠ 1#8 ∧ subject ≠ 2#8 ∧ (rest.length = 3 ∨ rest.length = 6)
  | .propose _ _ _ _ => True
  | .consent _ => True
  | .objectTransfer _ _ => True
  | .objectClaim _ _ _ => True
  | .order _ => True
  | .cancel _ _ => True
  | .force _ => True
  | .claim _ _ => True
  | .release _ _ => True

/-! ## The law that every step keeps -/

/-- The bounds of the queues and lists, and what the device state decides at every moment: SUPV is active
exactly while RUNNING (R44), the congestion-reported flag stands only on a full COORD queue (R13), the link is
in LISTEN exactly while CONFIGURING (R16), no attempt is made in LISTEN, the peer table has one entry for each
other station (R19), no frame waits where no command is being taken (R167), RESTARTED is never the elevated
kind (R174), and the life used fits its 32 bits (R67). -/
structure Inv (s : State) : Prop where
  events  : s.hpi.events.length ≤ 32
  urgent  : s.link.urgent.length ≤ 2
  coord   : s.link.coord.length ≤ 8
  congest : s.link.congestionReported = true → s.link.coord.length = 8
  log     : s.vsm.log.length ≤ 16
  dues    : (s.vsm.dues.map (·.kind)).Nodup
  supv    : s.clu.supv = s.hpi.running
  listen  : s.link.state = .listen ↔ s.hpi.running = false
  attempt : s.link.state = .listen → s.link.attempt = none
  peers   : s.peers.map (·.station) = (List.finRange 16).filter fun p => decide (p ≠ s.link.station)
  waiting : s.hpi.waiting = none
  elevated : s.hpi.floor.elevated ≠ some .restarted
  life    : s.bau.carry.u ≤ 4294967295

end Sys2Proof.Machine
end

