-- ==== Sys2Proof/Certificates/Slice0/Obligations.lean ====
section
/-! DEFINITION. The statements for the provers: what the commands of the part do, rule by rule. Words such as
`SameBut`, `Raised` and `Answered` are those of Sys2Proof/Safety.lean. -/

open Sys2Proof Sys2Proof.Machine

/-! ## The machine -/

/-- A step takes the command at the front of the queue and is its meaning on the state with the queue's rest.
On an empty queue the part idles: that clause is the model's choice (log entry 1). -/
def Obligations.StepTakesFrontCommand : Prop :=
  (∀ (c : Instr) (rest : List Instr) (s : State), s.pending = c :: rest →
    step s = exec c { s with pending := rest }) ∧
  (∀ s : State, s.pending = [] → step s = .next s)

/-- What a hard reset leaves, item by item, by the tables of the chapters: the floor link (section 1.9), the peer
view and floor time (R39), the lines (section 3.8), the sense port (R59), the carry-over record (R67), Q, the float
count and T_f with its initialised flag (R61, R65), the figures of health (R83), the transfer coordinator with its
split counts (R85), the own claim (R112), the test runs (R145), the visits and dues (R146, R150, R165, R166) and the
host port (R171), with the defaults of the floor settings (R174), of the cabinet settings (R175), of the ageing table
(R72) and of the profile (R129). Q is 0, as it reads in CONFIGURING (R70). The straps, the
input levels with what is sampled from them and the own mode that follows them are not among the clauses: in the reset
state they are the model's choice (log entry 2), and HARD_RESET states them from the levels it finds. -/
def Obligations.ResetStateHoldsHardResetValues : Prop :=
  (let floor : FloorCfg :=
     { margin := 20, minInv := 2, respWindow := 100, lead := 300, hold := 10, claimWindow := 500, linkDelay := 0,
       overloadTol := 10, elevated := none }
   let cab : CabCfg :=
     { rated := none, cRated := none, vNom := none, life := 10, cyclePenalty := 4000, k := 8, assumed := 250,
       floatV := 0, floatI := 20, weakTh := 500, inspectTh := 600, replaceTh := 300, weakCap := 400, testInt := 90,
       periodInt := 180, qualMs := 20, alarmMode := .level, hornTerm := 120, stepTimeout := 15 }
   State.reset.hpi.floor = floor ∧ State.reset.hpi.cab = cab)
    ∧ State.reset.bau.ageing = [8, 11, 16, 23, 32, 45, 64, 91, 128, 181, 255, 255, 255, 255, 255, 255] ∧
    State.reset.hpi.running = false ∧ State.reset.hpi.configured = false ∧ State.reset.hpi.events = []
    ∧ State.reset.hpi.eventsLost = false ∧ State.reset.hpi.response = none
    ∧ State.reset.link.state = .listen ∧ State.reset.link.urgent = [] ∧ State.reset.link.coord = []
    ∧ State.reset.link.status = none ∧ State.reset.link.heldStatus = none
    ∧ State.reset.link.attempt = none ∧ State.reset.link.rx = none ∧ State.reset.link.lastTransmitter = false
    ∧ State.reset.link.duplicateSeen = false ∧ State.reset.link.congestionReported = false
    ∧ State.reset.link.muteTimer = none
    ∧ (∀ e ∈ State.reset.peers, e.presence = .absent ∧ e.markers = Markers.clear ∧ e.offset = none ∧ e.fresh = 0
        ∧ e.claim = none ∧ e.presTimer = none ∧ e.staleTimer = none ∧ e.claimTimer = none)
    ∧ State.reset.peers.length = 15 ∧ State.reset.pvu.nextSeq = 0#8 ∧ State.reset.pvu.lastSent = none
    ∧ State.reset.ftu.floorTime = 0#32 ∧ State.reset.ftu.slew = 0 ∧ State.reset.ftu.align = .alone
    ∧ State.reset.ftu.streak = 0 ∧ State.reset.ftu.tickCount = 0
    ∧ State.reset.clu.modeCmd = .off ∧ State.reset.clu.supv = false ∧ State.reset.clu.testWd = false
    ∧ cmdInv State.reset = false ∧ cmdByp State.reset = false
    ∧ lampSvc State.reset = false ∧ permit State.reset = false ∧ readyPin State.reset = false
    ∧ State.reset.clu.horn = false ∧ State.reset.clu.hornTimer = none ∧ State.reset.clu.alarmLatch = false
    ∧ State.reset.sns.state = .waiting ∧ State.reset.sns.last = none ∧ State.reset.sns.lastSeq = none
    ∧ State.reset.sns.silence = none
    ∧ State.reset.bau.carry.u = 0 ∧ State.reset.bau.carry.d = 0 ∧ State.reset.bau.carry.baseline = none
    ∧ State.reset.bau.carry.verdict = .none ∧ State.reset.bau.carry.soc = 500
    ∧ State.reset.bau.carry.synced = false ∧ State.reset.bau.carry.minTest = 0
    ∧ State.reset.bau.carry.minVisit = 0 ∧ State.reset.bau.carry.nextVisit = 1
    ∧ State.reset.bau.q = 0 ∧ State.reset.bau.floatCount = 0
    ∧ State.reset.bau.tf = 250 ∧ State.reset.bau.tfInit = false
    ∧ State.reset.bau.carry.nextRun = 1 ∧ State.reset.bau.h = 1000 ∧ State.reset.bau.hAge = 1000
    ∧ State.reset.bau.carry.hTest = 1000 ∧ State.reset.bau.weak = false ∧ State.reset.bau.runtime = 0
    ∧ State.reset.bau.minutes = 0 ∧ State.reset.bau.divider = 0
    ∧ State.reset.trc.activity = .none ∧ State.reset.trc.proposal = none
    ∧ State.reset.trc.proposalSeq = 0#8 ∧ State.reset.trc.switchTimer = none
    ∧ State.reset.trc.holdTimer = none ∧ State.reset.trc.overloadTimer = none
    ∧ (∀ p : Station, State.reset.trc.splits[p.val] = 0)
    ∧ State.reset.trc.lastKnown = none ∧ State.reset.lva = none
    ∧ State.reset.tsq.profile = [⟨.rest, 60, 0, true⟩, ⟨.discharge, 300, 0, true⟩]
    ∧ State.reset.tsq.state = .idle ∧ State.reset.tsq.result = none
    ∧ State.reset.tsq.run = ⟨0, false, 0, [], [], 0, 0, none, none, none⟩
    ∧ State.reset.vsm.dues = [] ∧ State.reset.vsm.armReplace = true ∧ State.reset.vsm.armInspect = true
    ∧ State.reset.vsm.visit = none ∧ State.reset.vsm.log = []

/-- HARD_RESET from any state: every block takes its hard-reset values, the straps give station and line rate
(R2), every input is qualified at its sampled level (R40, R41, R46, R48), the own mode follows the feedback
with INVALID read as OFF (R85), and an ALARM-IN found active raises the first event (R48). That the line
levels and the queue of waiting commands stand outside the part is log entry 2. -/
def Obligations.HardResetLatchesAndSamples : Prop :=
  ∀ (straps : BitVec 4) (rate : BitVec 2) (s : State), ∃ t, exec (.hardReset straps rate) s = .next t ∧
    t.link = { State.reset.link with
      station := straps.toFin
      rate := match rate.toNat with | 0 => .k125 | 1 => .k250 | 2 => .k500 | _ => .k1000 } ∧
    t.peers.map (·.station) = (List.finRange 16).filter (fun p => decide (p ≠ straps.toFin)) ∧
    (∀ e ∈ t.peers, e = Peer.blank e.station) ∧
    t.pvu = State.reset.pvu ∧ t.ftu = State.reset.ftu ∧ t.sns = State.reset.sns ∧
    t.bau = State.reset.bau ∧ t.lva = none ∧ t.tsq = State.reset.tsq ∧ t.vsm = State.reset.vsm ∧
    t.trc = { State.reset.trc with
      ownMode := match s.clu.fb.rawInv, s.clu.fb.rawByp with
        | true, false => .inv | false, true => .byp | _, _ => .off } ∧
    t.clu.modeCmd = .off ∧ t.clu.supv = false ∧ t.clu.dead = false ∧ t.clu.testWd = false ∧
    t.clu.horn = false ∧ t.clu.hornTimer = none ∧ t.clu.alarmLatch = false ∧
    (∀ k : Contact, (t.clu.contactLine k) = ⟨(s.clu.contactLine k).raw, (s.clu.contactLine k).raw, none⟩) ∧
    (∀ k : StageInput, (t.clu.stageLine k) = ⟨(s.clu.stageLine k).raw, (s.clu.stageLine k).raw, none⟩) ∧
    t.clu.alarmIn = ⟨s.clu.alarmIn.raw, s.clu.alarmIn.raw, none⟩ ∧
    t.clu.fb.timer = none ∧ t.clu.fb.qual = (match s.clu.fb.rawInv, s.clu.fb.rawByp with
        | false, false => .off | true, false => .inv | false, true => .byp | true, true => .invalid) ∧
    t.hpi = { State.reset.hpi with
      events := if s.clu.alarmIn.raw then [⟨.alarmInput, .notice, 0, 0#32, [1#8, 1#8]⟩] else [] } ∧
    t.pending = s.pending

/-! ## The law of every step -/

/-- Every step keeps the law `Inv`: the bounds of R13, R146, R165 and R176, the law of R44 on SUPV, that of R16 on
LISTEN, the fifteen entries of R19, the 32 bits of the life used (R67), and an elevated kind that is not RESTARTED
(R174). Its clause that no frame waits between two rows is the model's way with the waiting slot of R167, log entry
17. -/
def Obligations.EveryStepKeepsInv : Prop :=
  ∀ s t : State, Inv s → step s = .next t → Inv t

/-- The law `Inv` holds after hard reset: among its clauses that no frame waits (R167, log entry 17), that the elevated
kind is not RESTARTED (R174) and that the life used fits its 32 bits (R67). -/
def Obligations.ResetStateHasInv : Prop :=
  Inv State.reset

/-! ## The floor message -/

/-- A receiver reads back every message that a station can send, sender and content, from the frame the
station drives: start byte, header, payload and CRC (R4, R5, R180). -/
def Obligations.FloorMessageReadsBack : Prop :=
  ∀ (p : Station) (m : Msg), MsgFits m → parseFloorFrame (frameOf p m) = .accepted p m

/-! ## Checks that every host command passes -/

/-- The three checks of R170, in their order, for every window that does not begin with the read code: a code
that names no command, an argument length that disagrees with the window or is not allowed, a device state in
which the command is not accepted. In each case nothing but the two buffers of the port changes, and the answer is
laid out by R169 and R182. That a window with no length byte fails the length check is log entry 17. -/
def Obligations.HostChecksRefuseInOrder : Prop :=
  ∀ (code : Byte) (window : List Byte) (s : State), code ≠ 0xFF#8 →
    (namesCommand code = false →
      exec (.unknownCommand code window) s = .next (onlyAnswered code window 6 0 [] s)) ∧
    (∀ i : Instr, decodeWindow (code :: window) = some i →
      (namesCommand code = false → i = .unknownCommand code window) ∧
      (namesCommand code = true →
        (window = [] → exec i s = .next (onlyAnswered code window 5 0 [] s)) ∧
        ∀ (n : Byte) (args : List Byte), window = n :: args →
          (n.toNat ≠ args.length ∨ lengthAllowedFor code.toNat args.length = false →
            exec i s = .next (onlyAnswered code window 5 0 [] s)) ∧
          (n.toNat = args.length → lengthAllowedFor code.toNat args.length = true →
            acceptedIn code.toNat s.hpi.running = false →
            exec i s = .next (onlyAnswered code window 2 0 [] s))))

/-! ## Configuration (R68, R74, R129, R174, R175) -/

/-- SET FLOOR in CONFIGURING: every setting is replaced by its value clamped to its range, the answer is
CLAMPED where one was outside it and OK otherwise; an elevated kind that is no event kind, or RESTARTED, is
answered BAD_ARGUMENT. Nothing else changes. -/
def Obligations.SetFloorStoresClampedSettings : Prop :=
  ∀ (margin minInv delay tolerance elevated : Byte) (response lead hold claim : BitVec 16) (s : State),
    s.hpi.running = false →
    let window := byteOf 13 :: ([margin, minInv] ++ be16 response ++ be16 lead ++ be16 hold ++ be16 claim
      ++ [delay, tolerance, elevated])
    ((∀ k : Option EventKind, k ≠ some .restarted → elevated = byteOf ((k.map EventKind.code).getD 0) →
      exec (.setFloor window) s = .next
        { s with hpi := { s.hpi with
            floor :=
              { margin := min 100 margin.toNat, minInv := max 1 (min 16 minInv.toNat)
                respWindow := max 20 (min 500 response.toNat), lead := max 100 (min 2000 lead.toNat)
                hold := max 1 (min 600 hold.toNat), claimWindow := max 100 (min 2000 claim.toNat)
                linkDelay := min 15 delay.toNat, overloadTol := min 60 tolerance.toNat, elevated := k }
            command := some (0x01#8 :: window)
            response := some (answer
              (if margin.toNat ≤ 100 ∧ 1 ≤ minInv.toNat ∧ minInv.toNat ≤ 16 ∧ 20 ≤ response.toNat
                  ∧ response.toNat ≤ 500 ∧ 100 ≤ lead.toNat ∧ lead.toNat ≤ 2000 ∧ 1 ≤ hold.toNat
                  ∧ hold.toNat ≤ 600 ∧ 100 ≤ claim.toNat ∧ claim.toNat ≤ 2000 ∧ delay.toNat ≤ 15
                  ∧ tolerance.toNat ≤ 60
               then 0 else 1) 0 [] s) } }) ∧
     ((∀ k : Option EventKind, k ≠ some .restarted → elevated ≠ byteOf ((k.map EventKind.code).getD 0)) →
      exec (.setFloor window) s = .next (onlyAnswered 0x01 window 5 0 [] s)))

/-- SET CABINET in CONFIGURING: the settings, their clamps and the cabinet-configured flag (R175); T_f takes
the assumed temperature while it is not initialised (R61); H_age, H and the weak flag are recomputed as a
preview (R76, R79, R80, R83); a change of alarm mode clears the latch or retakes the condition (R50). A rated
output, C_rated or V_nom of 0 and an alarm mode outside its codes are answered BAD_ARGUMENT. That EDGE to LEVEL
keeps the latch is log entry 20, and that ALARM_INPUT then tells the new mode is log entry 17. -/
def Obligations.SetCabinetStoresAndPreviews : Prop :=
  ∀ (rated cRated vNom penalty assumed floatV floatI weakTh inspectTh replaceTh weakCap testInt periodInt
      hornTerm : BitVec 16) (life k qual mode timeout : Byte) (s : State),
    s.hpi.running = false →
    let window := byteOf 33 :: (be16 rated ++ be16 cRated ++ be16 vNom ++ [life] ++ be16 penalty ++ [k]
      ++ be16 assumed ++ be16 floatV ++ be16 floatI ++ be16 weakTh ++ be16 inspectTh ++ be16 replaceTh
      ++ be16 weakCap ++ be16 testInt ++ be16 periodInt ++ [qual, mode] ++ be16 hornTerm ++ [timeout])
    ((rated = 0 ∨ cRated = 0 ∨ vNom = 0 ∨ (mode ≠ 1#8 ∧ mode ≠ 2#8)) →
      exec (.setCabinet window) s = .next (onlyAnswered 0x02 window 5 0 [] s)) ∧
    (rated ≠ 0 → cRated ≠ 0 → vNom ≠ 0 → (mode = 1#8 ∨ mode = 2#8) →
      ∃ t, exec (.setCabinet window) s = .next t ∧
        t.hpi.cab =
          { rated := some rated.toNat, cRated := some (min 5000 cRated.toNat)
            vNom := some (min 1000 vNom.toNat), life := max 1 (min 30 life.toNat)
            cyclePenalty := penalty.toNat, k := max 1 (min 32 k.toNat)
            assumed := max (-400) (min 850 assumed.toInt), floatV := floatV.toNat
            floatI := min 1000 floatI.toNat, weakTh := min 1000 weakTh.toNat
            inspectTh := min 1000 inspectTh.toNat, replaceTh := min 1000 replaceTh.toNat
            weakCap := min 1000 weakCap.toNat, testInt := max 1 (min 730 testInt.toNat)
            periodInt := max 1 (min 730 periodInt.toNat), qualMs := max 5 (min 200 qual.toNat)
            alarmMode := if mode = 1#8 then .level else .edge, hornTerm := min 600 hornTerm.toNat
            stepTimeout := max 1 (min 60 timeout.toNat) } ∧
        t.hpi.configured = true ∧ t.hpi.running = false ∧ t.hpi.floor = s.hpi.floor ∧
        t.hpi.waiting = s.hpi.waiting ∧ t.hpi.shiftedOut = s.hpi.shiftedOut ∧
        Answered 0x02 window
          (if cRated.toNat ≤ 5000 ∧ vNom.toNat ≤ 1000 ∧ 1 ≤ life.toNat ∧ life.toNat ≤ 30 ∧ 1 ≤ k.toNat
              ∧ k.toNat ≤ 32 ∧ -400 ≤ assumed.toInt ∧ assumed.toInt ≤ 850 ∧ floatI.toNat ≤ 1000
              ∧ weakTh.toNat ≤ 1000 ∧ inspectTh.toNat ≤ 1000 ∧ replaceTh.toNat ≤ 1000
              ∧ weakCap.toNat ≤ 1000 ∧ 1 ≤ testInt.toNat ∧ testInt.toNat ≤ 730 ∧ 1 ≤ periodInt.toNat
              ∧ periodInt.toNat ≤ 730 ∧ 5 ≤ qual.toNat ∧ qual.toNat ≤ 200 ∧ hornTerm.toNat ≤ 600
              ∧ 1 ≤ timeout.toNat ∧ timeout.toNat ≤ 60
           then 0 else 1) 0 [] t ∧
        (let hAge := 1000 - min 1000 (1000 * s.bau.carry.u / (max 1 (min 30 life.toNat) * 8415360))
         t.bau = { s.bau with
           tf := if s.bau.tfInit then s.bau.tf else max (-400) (min 850 assumed.toInt)
           hAge := hAge, h := min hAge s.bau.carry.hTest
           weak := decide (min hAge s.bau.carry.hTest < min 1000 weakTh.toNat)
             || decide (s.bau.carry.verdict = .weak) }) ∧
        (s.hpi.cab.alarmMode = .level → mode = 2#8 →
          t.clu = { s.clu with alarmLatch := false } ∧ t.hpi.events = s.hpi.events) ∧
        ((s.hpi.cab.alarmMode = .level ↔ mode = 1#8) → t.clu = s.clu ∧ t.hpi.events = s.hpi.events) ∧
        (s.hpi.cab.alarmMode = .edge → mode = 1#8 →
          LinesKept s t ∧
          t.hpi.events = if s.clu.alarmIn.qual && !s.clu.alarmLatch then
              (s.hpi.events ++ [(notice .alarmInput [1#8, 1#8]).record s]).take
                (max 32 s.hpi.events.length)
            else s.hpi.events) ∧
        SameBut [.hpi, .bau, .clu] s t)

/-- LOAD AGEING TABLE in CONFIGURING: value j goes to index start + j, a value above 255 as 255, a value
beyond index 15 nowhere; the other weights stand. CLAMPED tells of either, and a start index above 15 is
BAD_ARGUMENT (R74).

SET PROFILE in CONFIGURING: a list of 1 to 8 steps replaces the profile, each duration clamped to 1 to
3600; a list of none or more than 8 is answered BAD_ARGUMENT (R129). -/
def Obligations.AgeingTableAndProfileReplaced : Prop :=
  (∀ (start : Byte) (values : List (BitVec 16)) (s : State),
    s.hpi.running = false → values.length ≤ 16 → s.bau.ageing.length = 16 →
    let window := byteOf (1 + 2 * values.length) :: start :: values.flatMap be16
    (15 < start.toNat → exec (.loadAgeingTable window) s = .next (onlyAnswered 0x03 window 5 0 [] s)) ∧
    (start.toNat ≤ 15 → ∃ t, exec (.loadAgeingTable window) s = .next t ∧
      t.bau = { s.bau with ageing := t.bau.ageing } ∧ t.bau.ageing.length = 16 ∧
      (∀ j : Nat, j < 16 → t.bau.ageing[j]? =
        if start.toNat ≤ j then
          match values[j - start.toNat]? with
          | some v => some (min 255 v.toNat)
          | none => s.bau.ageing[j]?
        else s.bau.ageing[j]?) ∧
      t.hpi = { s.hpi with
        command := some (0x03#8 :: window)
        response := some (answer
          (if 16 < start.toNat + values.length
              ∨ ∃ v ∈ values.take (16 - start.toNat), 255 < v.toNat
           then 1 else 0) 0 [] s) } ∧
      SameBut [.hpi, .bau] s t)) ∧
  (∀ (steps : List (StepKind × BitVec 16 × BitVec 16 × Byte)) (s : State),
    s.hpi.running = false → steps.length ≤ 42 →
    let window := byteOf (6 * steps.length) :: steps.flatMap profileStepBytes
    ((steps = [] ∨ 8 < steps.length) →
      exec (.setProfile window) s = .next (onlyAnswered 0x04 window 5 0 [] s)) ∧
    (steps ≠ [] → steps.length ≤ 8 →
      exec (.setProfile window) s = .next
        { s with
          tsq := { s.tsq with
            profile := steps.map fun st =>
              { kind := st.1, duration := max 1 (min 3600 st.2.1.toNat), floor := st.2.2.1.toNat
                capture := decide (st.2.2.2 ≠ 0#8) } }
          hpi := { s.hpi with
            command := some (0x04#8 :: window)
            response := some (answer
              (if ∀ st ∈ steps, 1 ≤ st.2.1.toNat ∧ st.2.1.toNat ≤ 3600 then 0 else 1) 0 [] s) } }))

/-- LOAD CARRY RECORD in CONFIGURING: every field is replaced, H_test and SoC clamped to 1000, a baseline of
0 and next numbers of 0 to 1 (R68); H_age, H and the weak flag are recomputed as a preview (R83). A last
verdict outside its codes is answered BAD_ARGUMENT. -/
def Obligations.LoadCarryRecordReplacesRecord : Prop :=
  ∀ (u d minTest minVisit : BitVec 32) (hasBaseline verdict synced : Byte)
      (baseline hTest soc nextVisit nextRun : BitVec 16) (s : State),
    s.hpi.running = false →
    let window := byteOf 29 :: (be32 u ++ be32 d ++ [hasBaseline] ++ be16 baseline ++ be16 hTest ++ [verdict]
      ++ be16 soc ++ [synced] ++ be32 minTest ++ be32 minVisit ++ be16 nextVisit ++ be16 nextRun)
    (3 ≤ verdict.toNat → exec (.loadCarryRecord window) s = .next (onlyAnswered 0x05 window 5 0 [] s)) ∧
    (∀ v : Verdict, verdict = byteOf v.code → ∃ t, exec (.loadCarryRecord window) s = .next t ∧
      t.bau.carry =
        { u := u.toNat, d := d.toNat
          baseline := if hasBaseline = 0#8 then none else some (max 1 baseline.toNat)
          hTest := min 1000 hTest.toNat, verdict := v, soc := min 1000 soc.toNat
          synced := decide (synced ≠ 0#8), minTest := minTest.toNat, minVisit := minVisit.toNat
          nextVisit := max 1 nextVisit.toNat, nextRun := max 1 nextRun.toNat } ∧
      (let hAge := 1000 - min 1000 (1000 * u.toNat / (s.hpi.cab.life * 8415360))
       t.bau = { s.bau with
         carry := t.bau.carry, hAge := hAge, h := min hAge (min 1000 hTest.toNat)
         weak := decide (min hAge (min 1000 hTest.toNat) < s.hpi.cab.weakTh) || decide (v = .weak) }) ∧
      t.hpi = { s.hpi with
        command := some (0x05#8 :: window)
        response := some (answer
          (if (hasBaseline ≠ 0#8 → 1 ≤ baseline.toNat) ∧ hTest.toNat ≤ 1000 ∧ soc.toNat ≤ 1000
              ∧ 1 ≤ nextVisit.toNat ∧ 1 ≤ nextRun.toNat
           then 0 else 1) 0 [] s) } ∧
      SameBut [.hpi, .bau] s t)

/-! ## START and RESTART (R86, R172, R173) -/

/-- START from CONFIGURING with the cabinet configured, a feedback mode that is not INVALID, and no OVERLOAD,
closed MAINT or INV-FAULT standing against an adopted INV: the account is taken up from the carry-over record
(R69), the link leaves LISTEN (R16), the stage's mode is adopted with SUPV active and the command lines equal
to it (R44, R86), the first STATUS is queued (R31) and the answer is OK. With the cabinet-configured flag
clear the answer is WRONG_STATE with reason NOT_CONFIGURED and nothing else changes (R172).

START with feedback INVALID: own mode and mode command OFF, activity MISMATCH(OFF, STAGE), and MISMATCH
raised with the feedback as its detail (R86).

START that adopts INV with one condition standing against it (R86): OVERLOAD active starts the overload timer
(R104), MAINT closed raises INTERLOCK and forces the floor (R107, R164), INV-FAULT active drops the station out
where the others carry the load and forces the floor where they do not (R106). The cause byte of FAULT_FOLLOWUP
after a dropout is log entry 10, the two figures of DROPOUT are log entry 18; that INTERLOCK comes before
TRANSFER_FORCED, which R164 leaves in either order, and that the DUE_RAISED of a force comes last, is log entry 15. -/
def Obligations.StartAdoptsStageAndRecord : Prop :=
  (∀ s : State, Inv s → s.hpi.running = false → s.lva = none →
    (s.hpi.configured = false → exec (.start [0#8]) s = .next (onlyAnswered 0x06 [0#8] 2 18 [] s)) ∧
    (∀ m : Sys2Proof.Mode, s.hpi.configured = true → s.clu.fb.qual = m.feedback →
      ¬ (m = .inv ∧ (s.clu.overload.qual ∨ s.clu.maint.qual ∨ s.clu.invFault.qual)) →
      ∃ t, exec (.start [0#8]) s = .next t ∧
        t.hpi.running = true ∧ t.hpi.configured = true ∧ t.hpi.floor = s.hpi.floor ∧ t.hpi.cab = s.hpi.cab ∧
        Answered 0x06 [0#8] 0 0 [] t ∧
        t.link.state = (if s.link.duplicateSeen then .mutedDuplicate else .active) ∧
        StatusQueued t ∧ t.link.coord = s.link.coord ∧ t.link.urgent = s.link.urgent ∧
        t.trc.ownMode = m ∧ t.trc.activity = .none ∧
        t.clu = { s.clu with
          modeCmd := m, supv := true, horn := t.clu.horn, hornTimer := t.clu.hornTimer } ∧
        (let cRated := s.hpi.cab.cRated.getD 0
         let hAge := 1000 - min 1000 (1000 * s.bau.carry.u / (s.hpi.cab.life * 8415360))
         let h := min hAge s.bau.carry.hTest
         let q := cRated * 144000 * h / 1000 * s.bau.carry.soc / 1000
         t.bau = { s.bau with
           carry := { s.bau.carry with d := min s.bau.carry.d (cRated * 1440 - 1) }
           hAge := hAge, h := h, q := q, floatCount := 0, tfInit := false, tf := s.hpi.cab.assumed
           weak := decide (h < s.hpi.cab.weakTh) || decide (s.bau.carry.verdict = .weak)
           runtime :=
             if q = 0 then 0 else if ownLoad s = 0 then 65535
             else min 65535 (q * s.hpi.cab.vNom.getD 0 / (ownLoad s * 240000)) }) ∧
        t.vsm.visit = s.vsm.visit ∧ t.vsm.log = s.vsm.log ∧
        SameBut [.link, .clu, .bau, .trc, .vsm, .hpi] s t)) ∧
  (∀ s : State, Inv s → s.hpi.running = false → s.lva = none → s.hpi.configured = true →
    s.clu.fb.qual = .invalid → s.link.duplicateSeen = false → s.hpi.events = [] →
    ∃ t, exec (.start [0#8]) s = .next t ∧ t.hpi.running = true ∧ t.trc.ownMode = .off ∧
      t.trc.activity = .mismatch .off .stage ∧ t.clu.modeCmd = .off ∧ t.clu.supv = true ∧
      t.hpi.events.head?.map (fun r => (r.kind, r.detail)) = some (.mismatch, [3#8])) ∧
  (∀ s : State, Inv s → s.hpi.running = false → s.lva = none → s.hpi.configured = true →
    s.clu.fb.qual = .inv → s.link.duplicateSeen = false → s.vsm.visit = none → s.tsq.state.inProgress = false →
    s.link.urgent.length < 2 →
    (let adopted := { s with trc := { s.trc with ownMode := .inv, activity := .none } }
     let others := carriedByOthers s
     let started := fun (told : List EventSpec) (mode : Sys2Proof.Mode) (t : State) =>
       t.hpi.running = true ∧ Answered 0x06 [0#8] 0 0 [] t ∧ t.link.state = .active ∧ StatusQueued t ∧
         t.trc.ownMode = .inv ∧
         t.clu = { s.clu with
           modeCmd := mode, supv := true, dead := s.clu.dead || decide (mode = .byp), horn := t.clu.horn
           hornTimer := t.clu.hornTimer } ∧
         Raised (told ++ (duesRaised { s with bau := t.bau }).map (·.2)) s t ∧
         SameBut [.link, .clu, .bau, .trc, .vsm, .hpi] s t
     let forced := fun (cause : Byte) (t : State) =>
       TrcIs (switchEntered .byp .forced (some (10000 * s.hpi.floor.hold)) adopted) t ∧
         t.link.urgent = s.link.urgent ++ [queued (.force cause)]
     (s.clu.overload.qual = true → s.clu.maint.qual = false → s.clu.invFault.qual = false →
       0 < s.hpi.floor.overloadTol →
       ∃ t, exec (.start [0#8]) s = .next t ∧ started [] .inv t ∧
         TrcIs { adopted.trc with overloadTimer := some (10000 * s.hpi.floor.overloadTol) } t) ∧
     (s.clu.overload.qual = true → s.clu.maint.qual = false → s.clu.invFault.qual = false →
       s.hpi.floor.overloadTol = 0 → s.clu.bypOk.qual = true →
       ∃ t, exec (.start [0#8]) s = .next t ∧ forced 2#8 t ∧
         started [alarm .transferForced [2#8, byteOf s.link.station.val]] .byp t) ∧
     (s.clu.overload.qual = false → s.clu.maint.qual = true → s.clu.invFault.qual = false →
       s.clu.bypOk.qual = true →
       ∃ t, exec (.start [0#8]) s = .next t ∧ forced 5#8 t ∧
         started [alarm .interlock [1#8, 1#8], alarm .transferForced [5#8, byteOf s.link.station.val]] .byp t) ∧
     (s.clu.overload.qual = false → s.clu.maint.qual = false → s.clu.invFault.qual = true →
       (floorLoad adopted ≤ others →
         ∃ t, exec (.start [0#8]) s = .next t ∧
           TrcIs (switchEntered .off .dropout s.trc.holdTimer adopted) t ∧ t.link.urgent = s.link.urgent ∧
           started (alarm .dropout (dropoutFigures adopted) :: followupTold Config.dropoutCauseCode s) .off t) ∧
       (others < floorLoad adopted → s.clu.bypOk.qual = true →
         ∃ t, exec (.start [0#8]) s = .next t ∧ forced 6#8 t ∧
           started (alarm .transferForced [6#8, byteOf s.link.station.val] :: followupTold 6#8 s) .byp t))))

/-- RESTART from either device state: the part returns to CONFIGURING, the outputs fall together, a run in
progress and an open visit end without an event, the link with its queues and its receive buffer, the peer table,
floor time, the claim and the activity are cleared, the event queue is emptied and seeded, and the configuration,
the records and the input lines are kept (R16, R39, R85, R112, R145, R166, R173). That the line stays idle or busy
as it was, and that a run's fields are blank after its end, is log entry 20. The horn ends SILENT (R52), but where the
seeded ALARM_INPUT is the elevated kind: that it then sounds the horn is the model's choice, log entry 31. SET FLOOR
refuses RESTARTED as the elevated kind (R174), and every step keeps that. -/
def Obligations.RestartClearsAndKeeps : Prop :=
  ∀ s : State, s.hpi.floor.elevated ≠ some .restarted → ∃ t, exec (.restart [0#8]) s = .next t ∧
    t.hpi = { s.hpi with
      running := false, eventsLost := false, command := t.hpi.command, response := t.hpi.response
      events := t.hpi.events } ∧
    Answered 0x1A [0#8] 0 0 [] t ∧
    t.hpi.events =
      (⟨.restarted, .info, s.bau.minutes, 0#32, []⟩ : EventRec) ::
        (if s.hpi.cab.alarmMode = .level ∧ s.clu.alarmIn.qual then
          [⟨.alarmInput, if s.hpi.floor.elevated = some .alarmInput then .alarm else .notice, s.bau.minutes, 0#32,
            [1#8, 1#8]⟩] else []) ∧
    t.clu = { s.clu with
      modeCmd := .off, dead := false, supv := false, testWd := false, alarmLatch := false
      horn := t.clu.horn, hornTimer := t.clu.hornTimer } ∧
    (if s.hpi.floor.elevated = some .alarmInput ∧ s.hpi.cab.alarmMode = .level ∧ s.clu.alarmIn.qual = true then
      t.clu.horn = true
        ∧ t.clu.hornTimer = (if s.hpi.cab.hornTerm = 0 then none else some (s.hpi.cab.hornTerm * 10000))
     else t.clu.horn = false ∧ t.clu.hornTimer = none) ∧
    t.link = { Link.blank s.link.station s.link.rate with lineIdle := s.link.lineIdle } ∧
    t.peers = ((List.finRange 16).filter fun p => decide (p ≠ s.link.station)).map Peer.blank ∧
    t.pvu = ⟨0#8, none⟩ ∧ t.ftu = State.reset.ftu ∧ t.sns = s.sns ∧ t.lva = none ∧
    (∀ m : Sys2Proof.Mode, t.trc = { State.reset.trc with ownMode := m } ↔
      (m = match s.clu.fb.qual with | .inv => .inv | .byp => .byp | _ => .off)) ∧
    t.tsq.profile = s.tsq.profile ∧
    (s.tsq.state = .idle ∨ s.tsq.state = .ended → t.tsq = s.tsq) ∧
    (s.tsq.state.inProgress = true →
      t.tsq.state = .ended ∧ t.tsq.run = RunRec.blank ∧
      t.tsq.result.map (fun r => (r.number, r.cause, r.completed, r.captures, r.verdict)) =
        some (s.tsq.run.number, .restart, s.tsq.run.completed, s.tsq.run.captures, .none)) ∧
    t.vsm.dues = s.vsm.dues ∧ t.vsm.armReplace = s.vsm.armReplace ∧ t.vsm.armInspect = s.vsm.armInspect ∧
    t.vsm.visit = none ∧ (s.vsm.visit = none → t.vsm.log = s.vsm.log) ∧
    (∀ v, s.vsm.visit = some v →
      t.vsm.log = (if s.vsm.log.length < 16 then s.vsm.log else s.vsm.log.drop 1)
        ++ [⟨v.number, v.kind, v.technician, v.openedMinute, s.bau.minutes, .interrupted, v.tasks, []⟩]) ∧
    t.bau = { s.bau with
      carry := { s.bau.carry with soc := t.bau.carry.soc }, q := 0, floatCount := 0, runtime := 0
      tfInit := false, tf := s.hpi.cab.assumed, hAge := t.bau.hAge, h := t.bau.h, weak := t.bau.weak } ∧
    t.bau.carry.soc = (if s.hpi.running then soc s else s.bau.carry.soc) ∧
    t.pending = s.pending

/-! ## Commands that read (R27, R30, R52, R70, R144, R165, R177, R178) -/

/-- The six commands that read state change nothing but the buffers of the port, in both device states, and
answer OK with their body, spelled out field by field: READ STATUS (R70, R84, R178), READ FLOOR (R30), READ CARRY
RECORD (the SoC of the moment while RUNNING), READ DUES and READ VISIT LOG (by an index from the newest;
BAD_ARGUMENT above 15; R165), READ PEER (an ABSENT entry reads as zeros; BAD_ARGUMENT for a number that has no
entry; R27, R30, R182). LAMP-SVC is on while a visit is open and LAMP-PERMIT follows the table of R159. Where the
chapters give a field no order, code or rounding, the body follows log entries 7, 19 and 26, and the lamp log entry 27;
that a set flag and a presence byte are 1 is log entry 30.

READ TEST RESULT answers with the result record, or with no body, and turns ENDED to IDLE (R144, R183).

A read window shifts out the waiting response, or one with the status EMPTY, and leaves the response
buffer empty however many bytes were clocked (R168).

The own values of R28 and the five figures of R29, spelled over the state: a figure counts the own station and
every peer whose entry is PRESENT, whatever its claim record; backed capacity leaves out each that holds a claim. -/
def Obligations.ReadsAnswerFromState : Prop :=
  (∀ s : State,
    exec (.readStatus [0#8]) s = .next (onlyAnswered 0x10 [0#8] 0 0
      (hpiSpelled s ++ linesSpelled s ++ batterySpelled s ++ trcSpelled s ++ lvaSpelled s ++ tsqSpelled s
        ++ vsmSpelled s) s) ∧
    (lampSvc s = s.vsm.visit.isSome ∧ permit s = permitShown s) ∧
    exec (.readFloor [0#8]) s = .next (onlyAnswered 0x11 [0#8] 0 0 (floorSpelled s) s) ∧
    exec (.readCarryRecord [0#8]) s = .next (onlyAnswered 0x15 [0#8] 0 0
      (carrySpelled { s.bau.carry with soc := if s.hpi.running then soc s else s.bau.carry.soc }) s) ∧
    exec (.readDues [0#8]) s = .next (onlyAnswered 0x16 [0#8] 0 0 (duesSpelled s) s) ∧
    (∀ (p : Byte) (e : Peer), s.peers.find? (fun e => decide (e.station.val = p.toNat)) = some e →
      exec (.readPeer [1#8, p]) s = .next (onlyAnswered 0x12 [1#8, p] 0 0 (peerSpelled e) s)) ∧
    (∀ p : Byte, s.peers.find? (fun e => decide (e.station.val = p.toNat)) = none →
      exec (.readPeer [1#8, p]) s = .next (onlyAnswered 0x12 [1#8, p] 5 0 [] s)) ∧
    (∀ n : Byte, exec (.readVisitLog [1#8, n]) s = .next (
      if 15 < n.toNat then onlyAnswered 0x17 [1#8, n] 5 0 [] s
      else match s.vsm.log.reverse[n.toNat]? with
        | some r => onlyAnswered 0x17 [1#8, n] 0 0 (logSpelled r) s
        | none => onlyAnswered 0x17 [1#8, n] 0 0 [] s))) ∧
  (∀ s : State,
    exec (.readTestResult [0#8]) s = .next
      { onlyAnswered 0x18 [0#8] 0 0 (match s.tsq.result with | some r => resultSpelled r | none => []) s with
        tsq := if s.tsq.state = .ended then { s.tsq with state := .idle } else s.tsq }) ∧
  (∀ (clocked : Nat) (s : State),
    exec (.readWindow clocked) s = .next
      { s with hpi := { s.hpi with
          response := none
          shiftedOut := (match s.hpi.response with
            | some bytes => bytes
            | none => answer 7 0 [] s).take clocked } }) ∧
  (∀ s : State,
    (let isolated := match s.vsm.visit with
       | some v => decide (v.state = .isolating ∨ v.state = .isolated ∨ v.state = .restoring)
       | none => false
     let inMaint := match s.vsm.visit with
       | some v => decide (v.state = .maintOn)
       | none => false
     let ready := match s.sns.last with
       | some f => f.invReady
       | none => false
     let source : Source := match s.sns.last with
       | some f => if f.mainsOk = true then .mains else .battery
       | none => .battery
     let load := match s.sns.last with
       | some f => f.p
       | none => 0
     let onBus := isolated = false ∧ s.clu.output.qual = true
     let rated := match s.hpi.cab.rated with
       | some x => x
       | none => 0
     let id : Option PropId := match s.trc.activity with
       | .proposed id _ => some id
       | .following id _ => some id
       | .armed id _ _ => some id
       | .none => none
       | .switching _ _ => none
       | .mismatch _ _ => none
     let act : ActKind := match s.trc.activity with
       | .proposed _ _ => .proposed
       | .following _ _ => .following
       | .armed _ _ _ => .armed
       | .none => .none
       | .switching _ _ => .switching
       | .mismatch _ _ => .mismatch
     let own : Report :=
       { mode := s.trc.ownMode, isolated := isolated, maint := inMaint, hold := decide (s.trc.holdTimer ≠ none)
         source := source, weak := s.bau.weak, senseLost := decide (s.sns.state = .lost), align := s.ftu.align
         act := act, propId := id, carrying := if onBus then rated else 0
         ready := if onBus ∧ ready = true then rated else 0, load := load, health := s.bau.h
         runtime := s.bau.runtime }
     let counted : List (Report × Bool) := (own, decide (s.lva ≠ none)) ::
       (s.peers.filter fun e => decide (e.presence = .present)).map fun e => (e.report, decide (e.claim ≠ none))
     let inverters := counted.filter fun c => decide (c.1.mode = .inv)
     ownReport s = own ∧ isolatedFlag s = isolated ∧ maintFlag s = inMaint ∧ invReadyFlag s = ready ∧
       ownSource s = source ∧ ownLoad s = load ∧ ownCarrying s = own.carrying ∧ ownReady s = own.ready ∧
       inverterCount s = inverters.length ∧
       floorLoad s = ((counted.filter fun c =>
         decide ((c.1.mode = .inv ∨ c.1.mode = .byp) ∧ c.1.isolated = false)).map fun c => c.1.load).sum ∧
       carryingCapacity s = (inverters.map fun c => c.1.carrying).sum ∧
       readyCapacity s = ((counted.filter fun c => decide (c.1.isolated = false)).map fun c => c.1.ready).sum ∧
       backedCapacity s = ((inverters.filter fun c =>
         decide (c.1.weak = false ∧ c.1.senseLost = false ∧ c.1.source = .mains ∧ c.2 = false)).map
           fun c => c.1.carrying).sum))

/-- CLEAR PEER MARKERS clears the named markers of the named entry and nothing else: bits 0 to 3 name
PRESENCE, MODE, CLAIM and HEALTH, bits 4 to 7 nothing. A station without an entry, the own number or one
above 15, is answered BAD_ARGUMENT (R27, R182).

SILENCE HORN leaves the horn SILENT with its timer stopped, in either device state, and changes nothing
else (R52). CLEAR ALARM INPUT, taken in RUNNING, clears the latch in edge mode (R49); in level mode the
condition goes on following the input. -/
def Obligations.HostClearsMarkersHornAndLatch : Prop :=
  (∀ (p which : Byte) (s : State), Inv s →
    ((s.link.station.val = p.toNat ∨ 15 < p.toNat) →
      exec (.clearPeerMarkers [2#8, p, which]) s =
        .next (onlyAnswered 0x13 [2#8, p, which] 5 0 [] s)) ∧
    (s.link.station.val ≠ p.toNat → p.toNat ≤ 15 →
      exec (.clearPeerMarkers [2#8, p, which]) s = .next
        { onlyAnswered 0x13 [2#8, p, which] 0 0 [] s with
          peers := s.peers.map fun e =>
            if e.station.val = p.toNat then
              { e with markers :=
                  { presence := e.markers.presence && !which.getLsbD 0
                    mode := e.markers.mode && !which.getLsbD 1
                    claim := e.markers.claim && !which.getLsbD 2
                    health := e.markers.health && !which.getLsbD 3 } }
            else e })) ∧
  (∀ s : State,
    exec (.silenceHorn [0#8]) s = .next
      (onlyAnswered 0x19 [0#8] 0 0 [] { s with clu := { s.clu with horn := false, hornTimer := none } }) ∧
    (s.hpi.running = true → s.hpi.cab.alarmMode = .edge →
      exec (.clearAlarmInput [0#8]) s = .next
        (onlyAnswered 0x2A [0#8] 0 0 [] { s with clu := { s.clu with alarmLatch := false } })) ∧
    (s.hpi.running = true → s.hpi.cab.alarmMode = .level →
      ∃ t, exec (.clearAlarmInput [0#8]) s = .next t ∧ Answered 0x2A [0#8] 0 0 [] t ∧
        alarmCondition t = s.clu.alarmIn.qual ∧ SameBut [.hpi] s t))

/-- READ EVENT takes the oldest record of the highest class that the queue holds; the others keep their order.
The events-lost flag is cleared when the queue becomes empty, and the header shows the flag as it stood (log
entry 17). On an empty queue the answer is OK with no body and nothing changes (R169, R177, R183). -/
def Obligations.ReadEventTakesOldestOfHighestClass : Prop :=
  ∀ s : State,
    (s.hpi.events = [] → exec (.readEvent [0#8]) s = .next (onlyAnswered 0x14 [0#8] 0 0 [] s)) ∧
    (∀ (before after : List EventRec) (r : EventRec), s.hpi.events = before ++ r :: after →
      (∀ x ∈ before, x.cls ≠ r.cls) →
      (r.cls = .notice → ∀ x ∈ s.hpi.events, x.cls ≠ .alarm) →
      (r.cls = .info → ∀ x ∈ s.hpi.events, x.cls = .info) →
      exec (.readEvent [0#8]) s = .next
        { s with hpi := { s.hpi with
            events := before ++ after
            eventsLost := if before ++ after = [] then false else s.hpi.eventsLost
            command := some [0x14#8, 0#8]
            response := some
              ([0#8, 0#8, if s.hpi.running then 2#8 else 1#8,
                byteOf ((if before ++ after = [] then 0 else 1) + (if s.hpi.eventsLost then 2 else 0)
                  + (if s.clu.horn then 4 else 0)),
                byteOf ((11 + max 8 r.detail.length) / 256), byteOf (11 + max 8 r.detail.length)]
               ++ ([byteOf r.kind.code, match r.cls with | .alarm => 1#8 | .notice => 2#8 | .info => 3#8]
                 ++ be32 (BitVec.ofNat 32 r.minute) ++ be32 r.time ++ [byteOf r.detail.length] ++ r.detail
                 ++ zeros (8 - r.detail.length))) } })

/-- The command in progress, then the frame of the waiting slot (R167). The slot takes the first command frame that
closed meanwhile; windows that are empty or begin with the read code hold none. With a frame waiting the command
in progress has its effect while the frame stands in the slot; its response is discarded unread, READY is not
raised for it, and the frame is taken next, in its turn with the windows that close during it. With none waiting
the command is taken and answered as ever. That one row carries the command and the windows that close during it,
so that the slot is empty between rows, is log entry 17. -/
def Obligations.WaitingFrameIsTaken : Prop :=
  ∀ (frame : List Byte) (closed : List (List (List Byte))) (s : State), s.hpi.waiting = none →
    let noFrame := fun w : List Byte => w = [] ∨ w.head? = some 0xFF#8
    (∃ t, exec (.waitingSlotTake ⟨frame, closed⟩) s = .next t) ∧
    (noFrame frame → exec (.waitingSlotTake ⟨frame, closed⟩) s = .next s) ∧
    (∀ i : Instr, ¬ noFrame frame → decodeWindow frame = some i →
      ((∀ windows ∈ closed.head?, ∀ w ∈ windows, noFrame w) →
        exec (.waitingSlotTake ⟨frame, closed⟩) s = exec i s) ∧
      (∀ (before after : List (List Byte)) (next : List Byte) (more : List (List (List Byte))),
        closed = (before ++ next :: after) :: more → (∀ w ∈ before, noFrame w) → ¬ noFrame next →
        ∃ t, exec i { s with hpi := { s.hpi with waiting := some next } } = .next t ∧
          exec (.waitingSlotTake ⟨frame, closed⟩) s = exec (.waitingSlotTake ⟨next, more⟩)
            { t with hpi := { t.hpi with waiting := none, response := none } }))

/-! ## Transfers and JOIN asked by the host (R91, R92, R101 to R105, R109) -/

/-- TRANSFER is refused with the reason of the first condition of R91 that fails, and nothing else changes; a
direction outside its codes is BAD_ARGUMENT.

TRANSFER whose conditions all pass, on an ALIGNED floor: the proposal is PROPOSED in phase queued with its
execute time one lead ahead, and PROPOSE is queued (R92). Nothing else changes but the answer OK.

TRANSFER whose conditions all pass, on a station that is ALONE with no run in progress: the station
switches at once, no message is sent (R92, R99).

The capacity of condition 11 of TRANSFER TO_INVERTER is the own ready capacity and that of every PRESENT peer, not
isolated, in the source mode (R90, R91). -/
def Obligations.TransferIsCheckedAndBegun : Prop :=
  (∀ (d : Byte) (s : State), s.hpi.running = true →
    (d ≠ 1#8 → d ≠ 2#8 → exec (.transfer [1#8, d]) s = .next (onlyAnswered 0x20 [1#8, d] 5 0 [] s)) ∧
    (∀ (dir : Direction) (r : Reason), d = byteOf dir.code → firstFailing (transferChecks dir s) = some r →
      exec (.transfer [1#8, d]) s = .next (onlyAnswered 0x20 [1#8, d] 4 r.code [] s))) ∧
  (∀ (dir : Direction) (s : State), Inv s → OnLine s → ClaimKept s → s.link.coord.length < 8 →
    firstFailing (transferChecks dir s) = none → s.ftu.align = .aligned →
    ∃ t, exec (.transfer [1#8, byteOf dir.code]) s = .next t ∧
      (let seq := s.trc.proposalSeq + 1#8
       let now := s.ftu.floorTime
       let lead := max s.hpi.floor.lead (s.hpi.floor.respWindow + 50)
       let execAt := now + BitVec.ofNat 32 (10 * lead)
       TrcIs { s.trc with
         proposalSeq := seq, activity := .proposed ⟨s.link.station, seq⟩ dir
         splits := Vector.replicate 16 0
         proposal := some ⟨s.link.station, now, execAt, some .queued, [], [], none⟩ } t ∧
       t.link = { s.link with coord := s.link.coord ++ [queued (.propose seq dir now execAt)] }) ∧
      Answered 0x20 [1#8, byteOf dir.code] 0 0 [] t ∧ SettingsKept s t ∧ Raised [] s t ∧
      SameBut [.link, .trc, .hpi] s t) ∧
  (∀ (dir : Direction) (target : Sys2Proof.Mode) (s : State), Inv s → OnLine s → ClaimKept s →
    s.tsq.state.inProgress = false → firstFailing (transferChecks dir s) = none → s.ftu.align = .alone →
    target = (match dir with | .toBypass => .byp | .toInverter => .inv) → s.clu.fb.qual ≠ target.feedback →
    ∃ t, exec (.transfer [1#8, byteOf dir.code]) s = .next t ∧
      TrcIs { s.trc with
        proposalSeq := s.trc.proposalSeq + 1#8, activity := .switching target .planned, proposal := none
        executing := some (⟨s.link.station, s.trc.proposalSeq + 1#8⟩, dir), switchTimer := some 400
        overloadTimer := if target = .inv then s.trc.overloadTimer else none
        splits := Vector.replicate 16 0 } t ∧
      t.clu = commanded target s.clu ∧
      Answered 0x20 [1#8, byteOf dir.code] 0 0 [] t ∧ SettingsKept s t ∧ Raised [] s t ∧
      SameBut [.clu, .trc, .hpi] s t) ∧
  (∀ s : State,
    returnCapacity s = ownReady s + ((s.peers.filter fun e =>
      decide (e.presence = .present ∧ e.report.isolated = false
        ∧ (e.report.mode = .byp ∨ e.report.mode = .off ∧ 0 < e.report.ready))).map fun e => e.report.ready).sum)

/-- FORCE BYPASS: its two refusals (R101); from INV with no activity the station raises TRANSFER_FORCED,
queues FORCE, switches to BYP with origin FORCED and starts the hold (R102, R103, R105); from BYP or OFF with
no activity it announces the FORCE and restarts the hold, and its own mode stays. -/
def Obligations.ForceBypassForcesFloor : Prop :=
  ∀ s : State, OnLine s →
    (isolatedFlag s = true →
      exec (.forceBypass [0#8]) s = .next (onlyAnswered 0x21 [0#8] 4 1 [] s)) ∧
    (isolatedFlag s = false → s.clu.bypOk.qual = false → (s.trc.ownMode = .inv ∨ s.trc.activity ≠ .none) →
      exec (.forceBypass [0#8]) s = .next (onlyAnswered 0x21 [0#8] 4 7 [] s)) ∧
    (Inv s → isolatedFlag s = false → s.lva = none → s.tsq.state.inProgress = false →
      s.link.urgent.length < 2 → s.trc.activity = .none →
      (s.trc.ownMode = .inv → s.clu.bypOk.qual = true ∧ s.clu.fb.qual ≠ .byp) →
      ∃ t, exec (.forceBypass [0#8]) s = .next t ∧
        Raised [alarm .transferForced [1#8, byteOf s.link.station.val]] s t ∧
        t.link = { s.link with urgent := s.link.urgent ++ [queued (.force 1#8)] } ∧
        Answered 0x21 [0#8] 0 0 [] t ∧ SettingsKept s t ∧ SameBut [.link, .trc, .clu, .hpi] s t ∧
        (s.trc.ownMode ≠ .inv →
          TrcIs { s.trc with holdTimer := some (10000 * s.hpi.floor.hold) } t ∧ LinesKept s t)) ∧
    (Inv s → isolatedFlag s = false → s.lva = none → s.tsq.state.inProgress = false →
      s.link.urgent.length < 2 → s.trc.activity = .none → s.trc.ownMode = .inv → s.clu.bypOk.qual = true →
      s.clu.fb.qual ≠ .byp →
      ∃ t, exec (.forceBypass [0#8]) s = .next t ∧
        TrcIs { s.trc with
          activity := .switching .byp .forced, proposal := none, executing := none, switchTimer := some 400
          holdTimer := some (10000 * s.hpi.floor.hold), overloadTimer := none
          splits := Vector.replicate 16 0 } t ∧
        t.clu = { commanded .byp s.clu with horn := t.clu.horn, hornTimer := t.clu.hornTimer })

/-- JOIN is refused with the reason of the first condition of R109 that fails. When all pass, the station
switches with origin JOIN: to INV while ALONE, or when a PRESENT peer reports INV or the last-known floor mode
is INV, and to BYP otherwise. -/
def Obligations.JoinSwitchesToFloorMode : Prop :=
  ∀ s : State, OnLine s →
    (∀ r : Reason, firstFailing (joinChecks s) = some r →
      exec (.join [0#8]) s = .next (onlyAnswered 0x22 [0#8] 4 r.code [] s)) ∧
    (∀ target : Sys2Proof.Mode, Inv s → firstFailing (joinChecks s) = none → ClaimKept s →
      target = (if s.ftu.align = .alone
          ∨ (∃ e ∈ s.peers, e.presence = .present ∧ e.report.mode = .inv) ∨ s.trc.lastKnown = some .inv
        then .inv else .byp) → s.clu.fb.qual ≠ target.feedback →
      ∃ t, exec (.join [0#8]) s = .next t ∧
        TrcIs { s.trc with
          activity := .switching target .join, proposal := none, executing := none, switchTimer := some 400
          overloadTimer := if target = .inv then s.trc.overloadTimer else none
          splits := Vector.replicate 16 0 } t ∧
        t.clu = commanded target s.clu ∧ Answered 0x22 [0#8] 0 0 [] t ∧ SettingsKept s t ∧
        Raised [] s t ∧ SameBut [.clu, .trc, .hpi] s t)

/-! ## Battery tests asked by the host (R131, R133, R137, R139, R140) -/

/-- RUN TEST: the answers of R131 in their order; when its request passes on an ALIGNED floor the run is
numbered and CLAIMING, the TEST claim is CLAIMING in phase queued with its CLAIM queued and its queue timer
running, and the STATUS that shows it is queued (R115, R131). -/
def Obligations.RunTestBeginsClaiming : Prop :=
  ∀ (single : Byte) (s : State), OnLine s →
    let refuse := fun status reason => exec (.runTest [1#8, single]) s
      = .next (onlyAnswered 0x23 [1#8, single] status reason [] s)
    (s.tsq.state = .ended → refuse 4 13) ∧
    (s.tsq.state.inProgress = true → refuse 3 0) ∧
    (s.tsq.state = .idle →
      ((∃ v, s.vsm.visit = some v ∧ v.kind ≠ .inspection) ∨ s.lva ≠ none → refuse 3 0) ∧
      ((∀ v, s.vsm.visit = some v → v.kind = .inspection) → s.lva = none →
        (∀ r : Reason, firstFailing (claimChecks s) = some r → refuse 4 r.code) ∧
        (Inv s → firstFailing (claimChecks s) = none → s.ftu.align = .aligned → s.link.coord.length < 8 →
          ∃ t, exec (.runTest [1#8, single]) s = .next t ∧
            t.tsq = { s.tsq with
              state := .claiming
              run := ⟨s.bau.carry.nextRun, decide (single ≠ 0#8), 0, [], [], 0, 0, none, none, none⟩ } ∧
            t.bau = { s.bau with carry := { s.bau.carry with
              nextRun := if s.bau.carry.nextRun = 65535 then 1 else s.bau.carry.nextRun + 1 } } ∧
            t.lva = some ⟨.test, s.ftu.floorTime, false, false, none, some (10 * s.hpi.floor.claimWindow),
              false⟩ ∧
            t.link = { s.link with
              coord := s.link.coord ++ [queued (.claim .test s.ftu.floorTime)], status := t.link.status } ∧
            StatusQueued t ∧ TrcIs s.trc t ∧ Answered 0x23 [1#8, single] 0 0 [] t ∧ SettingsKept s t ∧
            Raised [] s t ∧ SameBut [.link, .tsq, .bau, .lva, .trc, .hpi] s t)))

/-- CONTINUE TEST in PAUSED(n) enters step n + 1: its timer runs its duration, the recent frames and the floor
count are empty, and TEST-WD is active exactly in a DISCHARGE step (R133, R137). In any other run state it is
answered WRONG_STATE and changes nothing.

ABORT TEST ends a run whose claim is GRANTED: TEST-WD falls, the claim is released with its RELEASE
queued, the result record is filled with no verdict, ENDED is entered and TEST_ENDED raised (R139 to R141). A run
still CLAIMING ends likewise, its queued CLAIM withdrawn or its announced one released (R126). The
battery account is not touched. With no run in progress it is answered WRONG_STATE. That the in-progress fields are
blank after the end is log entry 20. -/
def Obligations.ContinueAndAbortMoveRun : Prop :=
  (∀ s : State, s.hpi.running = true →
    ((∀ n, s.tsq.state ≠ .paused n) →
      exec (.continueTest [0#8]) s = .next (onlyAnswered 0x24 [0#8] 2 0 [] s)) ∧
    (∀ (n : Nat) (st : TestStep), s.tsq.state = .paused n → s.tsq.profile[n]? = some st →
      exec (.continueTest [0#8]) s = .next
        (onlyAnswered 0x24 [0#8] 0 0 []
          { s with
            clu := { s.clu with testWd := decide (st.kind = .discharge) }
            tsq := { s.tsq with
              state := .running (n + 1)
              run := { s.tsq.run with
                recent := [], floorCount := 0, stepTimer := some (10000 * st.duration)
                pauseTimer := none } } }))) ∧
  (∀ s : State, OnLine s → Inv s →
    (s.tsq.state.inProgress = false →
      exec (.abortTest [0#8]) s = .next (onlyAnswered 0x25 [0#8] 2 0 [] s)) ∧
    (∀ c : Claim, s.tsq.state.inProgress = true → s.lva = some c → c.kind = .test → c.granted = true →
      s.link.coord.length < 8 →
      ∃ t, exec (.abortTest [0#8]) s = .next t ∧
        t.clu = { s.clu with testWd := false, horn := t.clu.horn, hornTimer := t.clu.hornTimer } ∧
        t.lva = none ∧
        t.link = { s.link with
          coord := s.link.coord ++ [queued (.release .test c.time)], status := t.link.status } ∧
        StatusQueued t ∧
        t.tsq = { s.tsq with
          state := .ended, run := RunRec.blank
          result := some
            { number := s.tsq.run.number, cause := .aborted, single := s.tsq.run.single
              completed := s.tsq.run.completed, captures := s.tsq.run.captures
              resistance := testResistance s.tsq.profile s.tsq.run.captures
              discharged := s.tsq.run.discharged, minV := s.tsq.run.minV, verdict := .none } } ∧
        Raised [notice .testEnded
          (be16 (BitVec.ofNat 16 s.tsq.run.number) ++ [4#8, byteOf s.tsq.run.completed, 0#8])] s t ∧
        Answered 0x25 [0#8] 0 0 [] t ∧ SettingsKept s t ∧ TrcIs s.trc t ∧
        SameBut [.clu, .lva, .link, .tsq, .trc, .hpi] s t) ∧
    (∀ c : Claim, s.tsq.state = .claiming → s.lva = some c → c.kind = .test → c.granted = false →
      s.link.coord.length < 8 →
      ∃ t, exec (.abortTest [0#8]) s = .next t ∧
        t.clu = { s.clu with testWd := false, horn := t.clu.horn, hornTimer := t.clu.hornTimer } ∧
        t.lva = none ∧
        t.link = { s.link with
          coord := if c.inWindow then s.link.coord ++ [queued (.release .test c.time)]
            else s.link.coord.filter fun e => decide (e.msg ≠ .claim .test c.time)
          status := t.link.status } ∧
        StatusQueued t ∧
        t.tsq = { s.tsq with state := .ended, run := RunRec.blank, result := some (resultOf .aborted s) } ∧
        Raised [runTold .aborted s] s t ∧ Answered 0x25 [0#8] 0 0 [] t ∧ SettingsKept s t ∧ TrcIs s.trc t ∧
        SameBut [.clu, .lva, .link, .tsq, .trc, .hpi] s t))

/-! ## Visits (R150 to R165) -/

/-- OPEN VISIT is refused with the first condition of R151 that fails, the claim request's own conditions
those of R113. A refused command changes nothing. -/
def Obligations.OpenVisitRefusedInOrder : Prop :=
  ∀ (k : Byte) (technician : BitVec 16) (s : State), s.hpi.running = true →
    let window := 3#8 :: k :: be16 technician
    let refuse := fun status reason =>
      exec (.openVisit window) s = .next (onlyAnswered 0x26 window status reason [] s)
    ((∀ kind : VisitKind, k ≠ byteOf kind.code) → refuse 5 0) ∧
    (∀ kind : VisitKind, k = byteOf kind.code →
      (s.vsm.visit ≠ none → refuse 3 0) ∧
      (s.vsm.visit = none →
        (kind = .isolation → s.trc.ownMode = .byp → refuse 4 Reason.wrongMode.code) ∧
        (kind = .isolation → s.trc.ownMode = .off → s.trc.activity ≠ .none → refuse 4 Reason.busy.code) ∧
        (kind = .isolation → s.trc.ownMode = .inv → s.lva ≠ none → refuse 4 Reason.claimHeld.code) ∧
        (∀ r : Reason, kind = .isolation → s.trc.ownMode = .inv → s.lva = none →
          firstFailing (claimChecks s) = some r → refuse 4 r.code) ∧
        (kind = .floorMaintenance → s.trc.ownMode ≠ .byp → refuse 4 Reason.wrongMode.code)))

/-- OPEN VISIT that passes takes its number, fills the record and enters the first state (R151, R165): INSPECTION
enters OPEN, FLOOR_MAINTENANCE on a station in BYP enters MAINT_WAIT and with MAINT closed passes on to
MAINT_ON. VISIT_STATE tells of each state; the cause bytes of its detail follow log entry 11. The output-opened
flag is clear at the entry to MAINT_ON (R158), and an OUTPUT that is open already leaves it so: that is log
entry 20.

OPEN VISIT for an ISOLATION (R151, R154, R155). From INV on an ALIGNED floor the SERVICE claim is CLAIMING
with its CLAIM queued and the visit waits in REQUESTED; from OFF the visit enters ISOLATING, OFF is commanded,
and with OUTPUT already open it passes on to ISOLATED with the step timer stopped. -/
def Obligations.OpenVisitEntersFirstState : Prop :=
  (∀ (technician : BitVec 16) (s : State), Inv s → s.hpi.running = true → ClaimKept s → s.vsm.visit = none →
    (∃ t, exec (.openVisit (3#8 :: 1#8 :: be16 technician)) s = .next t ∧
      (let v := openedVisit .inspection technician .opened false none s
       VisitOpened v s t ∧ Raised [visitTold v .opened] s t) ∧
      Answered 0x26 (3#8 :: 1#8 :: be16 technician) 0 0 [] t ∧ SettingsKept s t ∧ LinesKept s t ∧
      TrcIs s.trc t ∧ SameBut [.vsm, .bau, .clu, .trc, .hpi] s t) ∧
    (s.trc.ownMode = .byp →
      ∃ t, exec (.openVisit (3#8 :: 3#8 :: be16 technician)) s = .next t ∧
        (let first := openedVisit .floorMaintenance technician .maintWait false none s
         let v := if s.clu.maint.qual then { first with state := .maintOn } else first
         VisitOpened v s t ∧
         Raised ([visitTold v .maintWait] ++ if s.clu.maint.qual then [visitTold v .maintOn] else []) s t) ∧
        Answered 0x26 (3#8 :: 3#8 :: be16 technician) 0 0 [] t ∧ SettingsKept s t ∧ LinesKept s t ∧
        TrcIs s.trc t ∧ SameBut [.vsm, .bau, .clu, .trc, .hpi] s t)) ∧
  (∀ (technician : BitVec 16) (s : State), Inv s → OnLine s → s.lva = none → s.vsm.visit = none →
    let window := 3#8 :: 2#8 :: be16 technician
    (s.trc.ownMode = .inv → firstFailing (claimChecks s) = none → s.ftu.align = .aligned →
      s.link.coord.length < 8 →
      ∃ t, exec (.openVisit window) s = .next t ∧
        (let v := openedVisit .isolation technician .requested true none s
         VisitOpened v s t ∧ Raised [visitTold v .requested] s t) ∧
        t.lva = some ⟨.service, s.ftu.floorTime, false, false, none, some (10 * s.hpi.floor.claimWindow),
          false⟩ ∧
        t.link = { s.link with
          coord := s.link.coord ++ [queued (.claim .service s.ftu.floorTime)], status := t.link.status } ∧
        StatusQueued t ∧ Answered 0x26 window 0 0 [] t ∧ SettingsKept s t ∧ LinesKept s t ∧ TrcIs s.trc t ∧
        SameBut [.vsm, .bau, .lva, .link, .clu, .trc, .hpi] s t) ∧
    (s.trc.ownMode = .off → s.trc.activity = .none → s.clu.fb.qual = .off →
      ∃ t, exec (.openVisit window) s = .next t ∧
        (let waiting := openedVisit .isolation technician .isolating false
           (some (600000 * s.hpi.cab.stepTimeout)) s
         let v := if s.clu.output.qual then waiting else { waiting with state := .isolated, stepTimer := none }
         VisitOpened v s t ∧
         Raised ([visitTold v .isolating] ++ if s.clu.output.qual then [] else [visitTold v .isolated]) s t) ∧
        TrcIs { s.trc with
          proposal := none, executing := none, switchTimer := none, overloadTimer := none
          splits := Vector.replicate 16 0 } t ∧
        t.clu = { s.clu with modeCmd := .off, horn := t.clu.horn, hornTimer := t.clu.hornTimer } ∧
        t.link = { s.link with status := t.link.status } ∧ StatusQueued t ∧
        Answered 0x26 window 0 0 [] t ∧ SettingsKept s t ∧
        SameBut [.vsm, .bau, .link, .clu, .trc, .hpi] s t))

/-- RECORD TASK makes its checks in the order of R162 and then appends the code to the task list; a code held
keeps its first place, and nothing else changes. -/
def Obligations.RecordTaskAppendsOnce : Prop :=
  ∀ (code : Byte) (s : State),
    let reply := fun status reason t =>
      exec (.recordTask [1#8, code]) s = .next (onlyAnswered 0x27 [1#8, code] status reason [] t)
    (s.hpi.running = false → reply 2 0 s) ∧
    (s.hpi.running = true →
      ((∀ k : Task, code ≠ byteOf k.code) → reply 5 0 s) ∧
      (∀ k : Task, code = byteOf k.code →
        (s.vsm.visit = none → reply 2 0 s) ∧
        (∀ v : Visit, s.vsm.visit = some v →
          (k = .batteryReplaced → v.state ≠ .isolated → reply 4 Reason.notIsolated.code s) ∧
          (k = .batteryReplaced → v.state = .isolated → s.clu.battery.qual = true →
            reply 4 Reason.breakers.code s) ∧
          ((k = .batteryReplaced → v.state = .isolated ∧ s.clu.battery.qual = false) →
            let v₁ := { v with tasks := if k ∈ v.tasks then v.tasks else v.tasks ++ [k] }
            reply 0 0 { s with vsm := { s.vsm with visit := some v₁ } }))))

/-- With no visit open CLOSE VISIT and CANCEL VISIT are answered WRONG_STATE and change nothing (R160, R161).

CLOSE VISIT answers by the state of the visit (R160). A visit in OPEN or in MAINT_ON, and one that clears
no due and renews no string, closes COMPLETED: its record goes to the log and VISIT_STATE tells of it (R163).
From ISOLATED the visit enters RESTORING with its step timer started (R156). With a breaker still open it waits; with
all three closed it asks for JOIN at once: refused, the retry timer starts and the first refusal of the visit is told,
taken, the station switches to the mode of the floor (R109, R110).

CANCEL VISIT answers by the state of the visit (R161). In OPEN and in MAINT_WAIT the visit closes
CANCELLED; in REQUESTED its SERVICE claim, still queued, is released first, which takes its CLAIM from the
queue; in ISOLATING a JOIN is asked for, and one refused puts its reason in the detail. The cause bytes of the
detail follow log entry 11.

A COMPLETED closure clears the dues of its tasks (R149, R163): CLOSE VISIT in OPEN and in MAINT_ON (R160), and the
end of the JOIN switch of a visit in RESTORING, which releases the SERVICE claim first (R156). An ISOLATION with
PERIODIC_DONE takes the periodic count to 0, and BATTERY_REPLACED renews the account (R82). The two zero cause bytes
of VISIT_STATE are log entry 11.

A visit that leaves ISOLATING with its JOIN taken, by CANCEL VISIT (R161) or by its step timer (R157): the station
switches with origin JOIN, the SERVICE claim is released, and the visit closes with the answer OK in its detail, by
the cause bytes of log entry 11. -/
def Obligations.CloseAndCancelActByState : Prop :=
  (∀ (v : Visit) (s : State), Inv s → s.hpi.running = true → s.vsm.visit = some v →
    let window := [0#8]
    let refuse := fun status reason =>
      exec (.closeVisit window) s = .next (onlyAnswered 0x28 window status reason [] s)
    ((v.state = .requested ∨ v.state = .isolating ∨ v.state = .maintWait) → refuse 2 0) ∧
    (v.state = .restoring → refuse 3 0) ∧
    (v.state = .maintOn → (s.clu.maint.qual = true ∨ s.clu.output.qual = false) →
      refuse 4 Reason.breakers.code) ∧
    ((v.state = .opened ∨ v.state = .maintOn ∧ s.clu.maint.qual = false ∧ s.clu.output.qual = true) →
      ClaimKept s → s.vsm.dues = [] → v.kind ≠ .isolation → Task.batteryReplaced ∉ v.tasks →
      ∃ t, exec (.closeVisit window) s = .next t ∧
        t.vsm = { s.vsm with visit := none, log := logged (logOf v .completed [] s) s.vsm.log } ∧
        Raised [closureTold v .completed [0#8, 0#8]] s t ∧ Answered 0x28 window 0 0 [] t ∧
        SettingsKept s t ∧ LinesKept s t ∧ TrcIs s.trc t ∧ SameBut [.vsm, .clu, .trc, .hpi] s t) ∧
    (v.state = .isolated → ClaimKept s →
      (s.clu.input.qual && s.clu.battery.qual && s.clu.output.qual) = false →
      ∃ t, exec (.closeVisit window) s = .next t ∧
        (let v₁ := { v with
           state := .restoring, joinRequested := false
           stepTimer := some (600000 * s.hpi.cab.stepTimeout) }
         t.vsm = { s.vsm with visit := some v₁ }) ∧
        Raised [visitTold v .restoring] s t ∧ Answered 0x28 window 0 0 [] t ∧
        SettingsKept s t ∧ LinesKept s t ∧ TrcIs s.trc t ∧ SameBut [.vsm, .clu, .trc, .hpi] s t) ∧
    (v.state = .isolated → ClaimKept s →
      (s.clu.input.qual && s.clu.battery.qual && s.clu.output.qual) = true →
      (let v₁ := { v with state := .restoring, stepTimer := some (600000 * s.hpi.cab.stepTimeout) }
       (∀ r : Reason, firstFailing ((joinChecks s).drop 1) = some r →
         ∃ t, exec (.closeVisit window) s = .next t ∧
           (let v₂ := { v₁ with joinRequested := false, retryTimer := some 10000, joinRefused := true }
            t.vsm = { s.vsm with visit := some v₂ }) ∧
           Raised (visitTold v .restoring :: (if v.joinRefused then [] else
             [info .visitState (be16 (BitVec.ofNat 16 v.number)
               ++ [byteOf VisitState.restoring.code, 1#8, byteOf r.code])])) s t ∧
           Answered 0x28 window 0 0 [] t ∧ SettingsKept s t ∧ LinesKept s t ∧ TrcIs s.trc t ∧
           SameBut [.vsm, .clu, .trc, .hpi] s t) ∧
       (firstFailing ((joinChecks s).drop 1) = none → s.clu.fb.qual ≠ (floorModeFor s).feedback →
         ∃ t, exec (.closeVisit window) s = .next t ∧
           (let v₂ := { v₁ with joinRequested := true, retryTimer := none }
            t.vsm = { s.vsm with visit := some v₂ }) ∧
           Raised [visitTold v .restoring] s t ∧ Answered 0x28 window 0 0 [] t ∧ SettingsKept s t ∧
           TrcIs (joining (floorModeFor s) s) t ∧
           t.clu = { commanded (floorModeFor s) s.clu with horn := t.clu.horn, hornTimer := t.clu.hornTimer } ∧
           SameBut [.vsm, .clu, .trc, .hpi] s t)))) ∧
  (∀ (v : Visit) (s : State), Inv s → OnLine s → s.vsm.visit = some v →
    let window := [0#8]
    let closed := fun (causes : List Byte) (t : State) =>
      t.vsm = { s.vsm with visit := none, log := logged (logOf v .cancelled [] s) s.vsm.log } ∧
        Raised [closureTold v .cancelled causes] s t ∧ Answered 0x29 window 0 0 [] t ∧
        SettingsKept s t ∧ LinesKept s t ∧ TrcIs s.trc t
    ((v.state = .isolated ∨ v.state = .restoring ∨ v.state = .maintOn) →
      exec (.cancelVisit window) s = .next (onlyAnswered 0x29 window 2 0 [] s)) ∧
    ((v.state = .opened ∨ v.state = .maintWait) → ClaimKept s →
      ∃ t, exec (.cancelVisit window) s = .next t ∧ closed [0#8, 0#8] t ∧ SameBut [.vsm, .clu, .trc, .hpi] s t) ∧
    (∀ c : Claim, v.state = .requested → s.lva = some c → c.kind = .service → c.granted = false →
      c.inWindow = false → s.link.congestionReported = false →
      ∃ t, exec (.cancelVisit window) s = .next t ∧ closed [0#8, 0#8] t ∧
        t.lva = none ∧ StatusQueued t ∧
        t.link = { s.link with
          coord := s.link.coord.filter fun e => decide (e.msg ≠ .claim .service c.time)
          status := t.link.status } ∧ SameBut [.vsm, .lva, .link, .clu, .trc, .hpi] s t) ∧
    (∀ r : Reason, v.state = .isolating → firstFailing ((joinChecks s).drop 1) = some r →
      (∀ c : Claim, s.lva = some c → c.kind = .service ∧ c.granted = true) → s.link.coord.length < 8 →
      ∃ t, exec (.cancelVisit window) s = .next t ∧ closed [1#8, byteOf r.code] t ∧
        StatusQueued t ∧ t.lva = none ∧
        t.link = { s.link with
          coord := s.link.coord ++ (match s.lva with
            | some c => [queued (.release .service c.time)]
            | none => [])
          status := t.link.status } ∧ SameBut [.vsm, .lva, .link, .clu, .trc, .hpi] s t)) ∧
  (∀ (v : Visit) (s : State), Inv s → OnLine s → s.vsm.visit = some v →
    ((v.state = .opened ∨ v.state = .maintOn ∧ s.clu.maint.qual = false ∧ s.clu.output.qual = true) →
      ClaimKept s →
      ∃ t, exec (.closeVisit [0#8]) s = .next t ∧ Completed v s t ∧ Raised (vsmClosed v s).2 s t ∧
        Answered 0x28 [0#8] 0 0 [] t ∧ SettingsKept s t ∧ LinesKept s t ∧ TrcIs s.trc t ∧
        SameBut [.vsm, .bau, .clu, .trc, .hpi] s t) ∧
    (∀ target : Sys2Proof.Mode, s.trc.activity = .switching target .join → v.state = .restoring →
      v.joinRequested = true → s.clu.fb.timer = some 0 → rawFeedback s.clu.fb = target.feedback →
      (target = .inv → s.clu.overload.qual = false ∧ s.clu.maint.qual = false) →
      (∀ c : Claim, s.lva = some c → c.kind = .service ∧ c.granted = true) → s.link.coord.length < 8 →
      ∃ t, exec .feedbackQualified s = .next t ∧ Completed v s t ∧ Raised (vsmClosed v s).2 s t ∧
        t.lva = none ∧ t.link = released s.lva t.link.status s ∧ StatusQueued t ∧
        TrcIs { s.trc with
          ownMode := target, activity := .none, switchTimer := none
          overloadTimer := if s.trc.ownMode = .inv ∧ target ≠ .inv then none else s.trc.overloadTimer
          splits := if s.trc.ownMode = .inv ∧ target ≠ .inv then Vector.replicate 16 0 else s.trc.splits } t ∧
        t.clu = { s.clu with
          fb := { s.clu.fb with qual := target.feedback, timer := none }
          horn := t.clu.horn, hornTimer := t.clu.hornTimer } ∧
        PortKept s t ∧ SameBut [.vsm, .bau, .lva, .link, .clu, .trc, .hpi] s t)) ∧
  (∀ (v : Visit) (s : State), Inv s → OnLine s → s.vsm.visit = some v → v.state = .isolating →
    firstFailing ((joinChecks s).drop 1) = none →
    (∀ c : Claim, s.lva = some c → c.kind = .service ∧ c.granted = true) → s.link.coord.length < 8 →
    s.clu.fb.qual ≠ (floorModeFor s).feedback →
    (let left := fun (outcome : VisitOutcome) (t : State) =>
       t.lva = none ∧ t.link = released s.lva t.link.status s ∧ StatusQueued t ∧
         t.vsm = { s.vsm with visit := none, log := logged (logOf v outcome [] s) s.vsm.log } ∧
         Raised [closureTold v outcome [1#8, 0#8]] s t ∧ SettingsKept s t ∧
         TrcIs (joining (floorModeFor s) s) t ∧
         t.clu = { commanded (floorModeFor s) s.clu with horn := t.clu.horn, hornTimer := t.clu.hornTimer } ∧
         SameBut [.lva, .link, .vsm, .clu, .trc, .hpi] s t
     (∃ t, exec (.cancelVisit [0#8]) s = .next t ∧ left .cancelled t ∧ Answered 0x29 [0#8] 0 0 [] t) ∧
     (v.stepTimer = some 0 →
       ∃ t, exec .visitStepTimeout s = .next t ∧ left .abandoned t ∧ PortKept s t))) ∧
  (∀ s : State, s.hpi.running = true → s.vsm.visit = none →
    exec (.closeVisit [0#8]) s = .next (onlyAnswered 0x28 [0#8] 2 0 [] s) ∧
    exec (.cancelVisit [0#8]) s = .next (onlyAnswered 0x29 [0#8] 2 0 [] s))

/-! ## The floor line (R3 to R17) -/

/-- On an idle line a start bit, or noise taken for one, begins a message whose receive-start time is sampled;
on a busy line it is noise. Either way the last transmitter is no longer this station (R6, R9, R10). The line
that falls idle ends what was being received (R7). That the row finds nothing to do during an own attempt is
log entry 4, and that a start bit on a busy line is noise is log entry 13.

A discarded message and the own message heard back end the reception and nothing else, and a rejected
sense frame changes nothing (R3, R4, R6, R55). A message that did not begin at a start bit after an idle line is noise
and is not received: none of the rows of a message then changes anything (R3). That the rest of a message which a
RESTART cuts is such noise is log entry 6. -/
def Obligations.LineAndDiscardedFrames : Prop :=
  (∀ s : State,
    exec .startBitSensed s = .next
      { s with link :=
          if s.link.lineIdle = true then
            { s.link with lineIdle := false, lastTransmitter := false, rx := some s.ftu.floorTime }
          else { s.link with lastTransmitter := false } } ∧
    (s.link.attempt = none →
      exec .lineIdle s = .next { s with link := { s.link with lineIdle := true, rx := none } }) ∧
    (s.link.attempt ≠ none → exec .lineIdle s = .next s)) ∧
  (∀ (frame : List Byte) (s : State),
    exec (.messageDiscarded frame) s = .next { s with link := { s.link with rx := none } } ∧
    exec (.ownMessageHeard frame) s = .next { s with link := { s.link with rx := none } } ∧
    exec (.senseFrameRejected frame) s = .next s ∧
    (s.link.rx = none →
      ∀ i ∈ ([.statusReceived frame, .duplicateStatus frame, .proposeReceived frame, .consentReceived frame,
          .transferObjectReceived frame, .orderReceived frame, .cancelReceived frame, .forceReceived frame,
          .claimReceived frame, .claimObjectReceived frame, .releaseReceived frame, .messageDiscarded frame,
          .ownMessageHeard frame] : List Instr),
        exec i s = .next s))

/-- A station in ACTIVE starts the message at the head of its highest queue that is not empty, at the slot
that its number, the class and the last-transmitter flag give, on an idle line and at no other slot (R7, R8).
The frame it drives is that of the message. -/
def Obligations.SlotAttemptStartsHighestClass : Prop :=
  ∀ (slot : Fin 64) (s : State),
    let behind := if s.link.lastTransmitter then 16 else 0
    let offer : Option (TxClass × TxEntry × Nat) :=
      match s.link.urgent, s.link.coord, s.link.status with
      | e :: _, _, _ => some (.urgent, e, s.link.station.val)
      | [], e :: _, _ => some (.coord, e, 16 + s.link.station.val + behind)
      | [], [], some e => some (.status, e, 32 + s.link.station.val + behind)
      | [], [], none => none
    exec (.slotAttempt slot) s = .next
      (match offer with
       | some (c, e, n) =>
         if s.link.state = .active ∧ s.link.lineIdle = true ∧ s.link.attempt = none ∧ slot.val = n then
           { s with link := { s.link with
               attempt := some ⟨c, s.ftu.floorTime, frameOf s.link.station e.msg⟩, lineIdle := false } }
         else s
       | none => s)

/-- A failed attempt of a message whose attempts are not used up leaves it at the head of its queue, its count
one higher (R12, R13); a message withdrawn meanwhile is removed instead, with no outcome (R15), which is marked on the
entry by log entry 14. A dominant bit sensed recessive on a line that stayed idle leaves the last-transmitter flag
(log entry 21); otherwise the frame on the line is received from its first bit (R9, R11).

The 16th failed attempt discards the message and mutes the link for 5 s with cause FAILURES (R12, R16), which
the detail of LINK_MUTED names first by log entry 16, and the block that queued the message goes on by its rule:
its event comes before LINK_MUTED, an order that R12 and R176 leave open (log entry 15). A FORCE is not queued
again (R102), nor are a CONSENT, an OBJECT (R117), a CANCEL, and by log entry 14 a RELEASE;
nothing follows for a message that its block no longer stands by, or has withdrawn (R15). A STATUS held back fills the
slot (R12, R13). An own PROPOSE still queued ends its proposal with NOT_SENT (R92), an ORDER queues CANCEL with that
reason first (R95), a CLAIM is denied with it (R115), and the run or the visit that asked ends (R132, R153). The cause
bytes of the VISIT_STATE that closes the visit are log entry 11, the blank in-progress fields of the run are log entry
20. -/
def Obligations.FailedAttemptCountsThenMutes : Prop :=
  (∀ (x : Mismatch) (a : Attempt) (e : TxEntry) (rest : List TxEntry) (s : State),
    s.link.attempt = some a → ClaimKept s → e.attempts < 15 →
    let l := mismatched x a s.link
    let e₁ := { e with attempts := e.attempts + 1 }
    (a.cls = .urgent → s.link.urgent = e :: rest → e.withdrawn = none →
      ∃ t, exec (.attemptFailed x) s = .next t ∧
        t.link = { l with urgent := e₁ :: rest } ∧ TrcIs s.trc t ∧ SameBut [.link, .trc] s t) ∧
    (a.cls = .coord → s.link.coord = e :: rest → e.withdrawn = none →
      ∃ t, exec (.attemptFailed x) s = .next t ∧
        t.link = { l with coord := e₁ :: rest } ∧ TrcIs s.trc t ∧ SameBut [.link, .trc] s t) ∧
    (a.cls = .coord → s.link.coord = e :: rest → e.withdrawn ≠ none → Inv s →
      ∃ t, exec (.attemptFailed x) s = .next t ∧
        t.link = { l with coord := rest, congestionReported := false } ∧ TrcIs s.trc t ∧
        SameBut [.link, .trc] s t) ∧
    (a.cls = .status → s.link.status = some e → s.link.heldStatus = none → e.withdrawn = none →
      ∃ t, exec (.attemptFailed x) s = .next t ∧
        t.link = { l with status := some e₁ } ∧ TrcIs s.trc t ∧ SameBut [.link, .trc] s t) ∧
    (a.cls = .status → s.link.status = some e → ∀ m, s.link.heldStatus = some m →
      ∃ t, exec (.attemptFailed x) s = .next t ∧
        t.link = { l with status := some (queued (.status m)), heldStatus := none } ∧ TrcIs s.trc t ∧
        SameBut [.link, .trc] s t)) ∧
  (∀ (x : Mismatch) (a : Attempt) (e : TxEntry) (rest : List TxEntry) (s : State),
    Inv s → s.link.attempt = some a → ClaimKept s → e.attempts = 15 →
    let l := { mismatched x a s.link with state := .mutedFailures, muteTimer := some 50000 }
    let drained := { l with coord := rest, congestionReported := false }
    let muted := fun kind : Byte => alarm .linkMuted [1#8, kind]
    let onlyMuted := fun (kind : Byte) (link : Link) (t : State) =>
      t.link = link ∧ Raised [muted kind] s t ∧ PortKept s t ∧ LinesKept s t ∧ TrcIs s.trc t ∧
        SameBut [.link, .clu, .trc, .hpi] s t
    (∀ cause : Byte, a.cls = .urgent → s.link.urgent = e :: rest → e.msg = .force cause →
      ∃ t, exec (.attemptFailed x) s = .next t ∧ onlyMuted 7#8 { l with urgent := rest } t) ∧
    (a.cls = .status → s.link.status = some e → (∃ m, e.msg = .status m) →
      ∃ t, exec (.attemptFailed x) s = .next t ∧
        onlyMuted 1#8 { l with
          status := s.link.heldStatus.map fun m => queued (.status m), heldStatus := none } t) ∧
    (∀ kind : Byte, a.cls = .coord → s.link.coord = e :: rest →
      ((∃ id, e.msg = .consent id) ∧ kind = 3#8 ∨ (∃ id r, e.msg = .objectTransfer id r) ∧ kind = 4#8
        ∨ (∃ p c r, e.msg = .objectClaim p c r) ∧ kind = 4#8 ∨ (∃ id r, e.msg = .cancel id r) ∧ kind = 6#8
        ∨ (∃ k c, e.msg = .release k c) ∧ kind = 9#8
        ∨ (∃ seq dir at_ ex, e.msg = .propose seq dir at_ ex) ∧ kind = 2#8
          ∧ (s.trc.activity = .none ∨ e.withdrawn ≠ none)
        ∨ (∃ id, e.msg = .order id) ∧ kind = 5#8 ∧ (s.trc.activity = .none ∨ e.withdrawn ≠ none)
        ∨ (∃ k c, e.msg = .claim k c) ∧ kind = 8#8 ∧ (s.lva = none ∨ e.withdrawn ≠ none)) →
      ∃ t, exec (.attemptFailed x) s = .next t ∧ onlyMuted kind drained t) ∧
    (∀ (seq : Byte) (dir : Direction) (at_ ex : FloorTime) (id : PropId) (r : ProposalRec),
      a.cls = .coord → s.link.coord = e :: rest → e.msg = .propose seq dir at_ ex → e.withdrawn = none →
      s.trc.activity = .proposed id dir → s.trc.proposal = some r → r.phase = some .queued → id.seq = seq →
      ∃ t, exec (.attemptFailed x) s = .next t ∧
        t.link = { drained with coord := rest.filter fun q => !ofProposal id q } ∧
        Raised [notice .transferCancelled [byteOf id.station.val, id.seq, byteOf Reason.notSent.code],
          muted 2#8] s t ∧ PortKept s t ∧ LinesKept s t ∧
        TrcIs { s.trc with activity := .none, proposal := none } t ∧ SameBut [.link, .clu, .trc, .hpi] s t) ∧
    (∀ (dir : Direction) (id : PropId) (r : ProposalRec),
      a.cls = .coord → s.link.coord = e :: rest → e.msg = .order id → e.withdrawn = none →
      s.trc.activity = .proposed id dir → s.trc.proposal = some r → r.phase = some .ordering →
      ∃ t, exec (.attemptFailed x) s = .next t ∧
        t.link = { drained with
          coord := (rest.filter fun q => !ofProposal id q)
            ++ [queued (.cancel id (byteOf Reason.notSent.code))] } ∧
        Raised [notice .transferCancelled [byteOf id.station.val, id.seq, byteOf Reason.notSent.code],
          muted 5#8] s t ∧ PortKept s t ∧ LinesKept s t ∧
        TrcIs { s.trc with activity := .none, proposal := none } t ∧ SameBut [.link, .clu, .trc, .hpi] s t) ∧
    (∀ c : Claim, a.cls = .coord → s.link.coord = e :: rest → e.msg = .claim c.kind c.time → e.withdrawn = none →
      s.lva = some c → c.granted = false → c.inWindow = false →
      (let denied := notice .claimDenied
         [kindOfClaim c.kind, byteOf Reason.notSent.code, byteOf s.link.station.val]
       let common := fun (t : State) =>
         t.lva = none ∧ PortKept s t ∧ TrcIs s.trc t ∧
           t.link = { drained with
             coord := rest.filter fun q => decide (q.msg ≠ .claim c.kind c.time), status := t.link.status } ∧
           StatusQueued t
       (c.kind = .test → s.tsq.state = .claiming →
         ∃ t, exec (.attemptFailed x) s = .next t ∧ common t ∧
           t.tsq = { s.tsq with state := .ended, run := RunRec.blank, result := some (resultOf .claimDenied s) } ∧
           t.clu = { s.clu with testWd := false, horn := t.clu.horn, hornTimer := t.clu.hornTimer } ∧
           Raised [denied, runTold .claimDenied s, muted 8#8] s t ∧
           SameBut [.link, .lva, .tsq, .clu, .trc, .hpi] s t) ∧
       (∀ v : Visit, c.kind = .service → s.vsm.visit = some v → v.state = .requested →
         ∃ t, exec (.attemptFailed x) s = .next t ∧ common t ∧ LinesKept s t ∧
           t.vsm = { s.vsm with visit := none, log := logged (logOf v .cancelled [] s) s.vsm.log } ∧
           Raised [denied, closureTold v .cancelled [1#8, byteOf Reason.notSent.code], muted 8#8] s t ∧
           SameBut [.link, .lva, .vsm, .clu, .trc, .hpi] s t))))

/-- An own message driven in full leaves its queue, and the station is the last transmitter (R9, R14). The
messages that only inform end there; a STATUS counts its sequence number on and keeps its transmit-start time
(R32), and one held back is queued anew from the values as they stand (R13).

What the completion of PROPOSE, ORDER and CLAIM begins (R93, R95, R115): the response window over the
present peers in the source mode, ARMED, and the claim window. A message withdrawn while it was being driven
is answered with a CANCEL of its reason or with a RELEASE (R100, R126). A PROPOSE that completes at or after the
execute time less the response window ends its proposal with a CANCEL of LATE (R93); an ORDER that completes when the
execute time has been reached has the station switch at once, by the execution of R99, which first ends a run in
progress with TRANSFER (R95, R138), its in-progress fields blank by log entry 20. How a withdrawal is marked, and that a CLAIM
completing with no own claim standing is followed by RELEASE, is log entry 14. -/
def Obligations.CompletedAttemptIsReported : Prop :=
  (∀ (a : Attempt) (e : TxEntry) (rest : List TxEntry) (s : State),
    Inv s → s.link.attempt = some a → ClaimKept s →
    let l := { s.link with attempt := none, lastTransmitter := true }
    (a.cls = .urgent → s.link.urgent = e :: rest → (∃ cause, e.msg = .force cause) →
      ∃ t, exec .attemptComplete s = .next t ∧
        t.link = { l with urgent := rest } ∧ TrcIs s.trc t ∧ SameBut [.link, .trc] s t) ∧
    (a.cls = .coord → s.link.coord = e :: rest →
      ((∃ id, e.msg = .consent id) ∨ (∃ id r, e.msg = .cancel id r) ∨ (∃ id r, e.msg = .objectTransfer id r)
        ∨ (∃ p c r, e.msg = .objectClaim p c r) ∨ (∃ k c, e.msg = .release k c)) →
      ∃ t, exec .attemptComplete s = .next t ∧
        t.link = { l with coord := rest, congestionReported := false } ∧ TrcIs s.trc t ∧
        SameBut [.link, .trc] s t) ∧
    (a.cls = .status → s.link.status = some e → (∃ m, e.msg = .status m) →
      ∃ t, exec .attemptComplete s = .next t ∧
        t.pvu = { s.pvu with nextSeq := s.pvu.nextSeq + 1#8, lastSent := some a.txStart } ∧
        t.link = { l with status := t.link.status, heldStatus := none } ∧
        (s.link.heldStatus = none → t.link.status = none) ∧
        (s.link.heldStatus ≠ none → s.hpi.running = true → StatusQueued t) ∧
        TrcIs s.trc t ∧ SameBut [.link, .pvu, .trc] s t)) ∧
  (∀ (a : Attempt) (e : TxEntry) (rest : List TxEntry) (s : State),
    Inv s → s.hpi.running = true → s.link.attempt = some a → a.cls = .coord → s.link.coord = e :: rest →
    ClaimKept s →
    let l := { s.link with attempt := none, lastTransmitter := true, coord := rest, congestionReported := false }
    (∀ (seq : Byte) (dir : Direction) (at_ ex : FloorTime) (id : PropId) (r : ProposalRec),
      e.msg = .propose seq dir at_ ex → e.withdrawn = none → s.trc.activity = .proposed id dir →
      s.trc.proposal = some r → r.phase = some .queued → id.seq = seq →
      let inTime := Ahead (r.executeAt - BitVec.ofNat 32 (10 * s.hpi.floor.respWindow)) s
      (¬ inTime →
        ∃ t, exec .attemptComplete s = .next t ∧
          t.link = { l with
            coord := (rest.filter fun q => !ofProposal id q) ++ [queued (.cancel id (byteOf Reason.late.code))] } ∧
          TrcIs { s.trc with activity := .none, proposal := none } t ∧
          Raised [notice .transferCancelled [byteOf id.station.val, id.seq, byteOf Reason.late.code]] s t ∧
          PortKept s t ∧ LinesKept s t ∧ SameBut [.link, .trc, .clu, .hpi] s t) ∧
      (inTime → sourcePeers dir s ≠ [] →
        ∃ t, exec .attemptComplete s = .next t ∧ t.link = l ∧
          (let r₁ := { r with
             phase := some .window, consentSet := sourcePeers dir s, consents := []
             window := some (10 * s.hpi.floor.respWindow) }
           TrcIs { s.trc with proposal := some r₁ } t) ∧ SameBut [.link, .trc] s t) ∧
      (inTime → sourcePeers dir s = [] →
        ∃ t, exec .attemptComplete s = .next t ∧
          t.link = { l with coord := rest ++ [queued (.order id)] } ∧
          (let r₁ := { r with phase := some .ordering, consentSet := [], consents := [], window := none }
           TrcIs { s.trc with proposal := some r₁ } t) ∧ SameBut [.link, .trc] s t)) ∧
    (∀ (seq : Byte) (dir : Direction) (at_ ex : FloorTime) (reason : Byte),
      e.msg = .propose seq dir at_ ex → e.withdrawn = some reason →
      ∃ t, exec .attemptComplete s = .next t ∧
        t.link = { l with coord := rest ++ [queued (.cancel ⟨s.link.station, seq⟩ reason)] } ∧
        TrcIs s.trc t ∧ SameBut [.link, .trc] s t) ∧
    (∀ (id : PropId) (dir : Direction) (r : ProposalRec),
      e.msg = .order id → s.trc.activity = .proposed id dir → s.trc.proposal = some r →
      r.phase = some .ordering → Ahead r.executeAt s →
      ∃ t, exec .attemptComplete s = .next t ∧ t.link = l ∧
        (let r₁ := { r with phase := none, consentSet := [], consents := [], window := none }
         TrcIs { s.trc with activity := .armed id dir r.executeAt, proposal := some r₁ } t) ∧
        SameBut [.link, .trc] s t) ∧
    (∀ (kind : ClaimKind) (time : FloorTime) (c : Claim),
      e.msg = .claim kind time → e.withdrawn = none → s.lva = some c → c.granted = false → c.kind = kind →
      c.time = time →
      ∃ t, exec .attemptComplete s = .next t ∧ t.link = l ∧
        t.lva = some { c with
          queueTimer := none, inWindow := true, windowTimer := some (10 * s.hpi.floor.claimWindow) } ∧
        TrcIs s.trc t ∧ SameBut [.link, .lva, .trc] s t) ∧
    (∀ (kind : ClaimKind) (time : FloorTime),
      e.msg = .claim kind time → (e.withdrawn ≠ none ∨ s.lva = none) →
      ∃ t, exec .attemptComplete s = .next t ∧
        t.link = { l with coord := rest ++ [queued (.release kind time)] } ∧
        TrcIs s.trc t ∧ SameBut [.link, .trc] s t)) ∧
  (∀ (a : Attempt) (e : TxEntry) (rest : List TxEntry) (id : PropId) (dir : Direction) (r : ProposalRec) (s : State),
    Inv s → s.hpi.running = true → s.link.attempt = some a → a.cls = .coord → s.link.coord = e :: rest →
    e.msg = .order id → s.trc.activity = .proposed id dir → s.trc.proposal = some r → r.phase = some .ordering →
    ¬ Ahead r.executeAt s → RunHoldsClaim s → (s.tsq.state.inProgress = false → ClaimKept s) →
    Executes .attemptComplete id dir
      { s.link with attempt := none, lastTransmitter := true, coord := rest, congestionReported := false } s)

/-- A duplicate STATUS by the state of the link (R17): in LISTEN the first one sets the duplicate-seen flag; in
ACTIVE and in MUTED (FAILURES) the link is muted with cause DUPLICATE, with no timer; in MUTED (DUPLICATE)
nothing happens. That the detail of LINK_MUTED begins with the cause is log entry 16.

The mute timer of a mute with cause FAILURES returns the link to ACTIVE with every attempt count at 0
(R16). That the idle flag stands as it is, so that a slot of a running idle may be used, is log entry 28. The row
changes nothing where no such timer has ended (log entry 4). -/
def Obligations.LinkMutesAndRestores : Prop :=
  (∀ (m : StatusMsg) (frame : List Byte) (s : State),
    s.link.rx ≠ none → parseFloorFrame frame = .accepted s.link.station (.status m) →
    ∃ t, exec (.duplicateStatus frame) s = .next t ∧ PortKept s t ∧ LinesKept s t ∧
      SameBut [.link, .clu, .hpi] s t ∧
      (s.link.state = .listen → s.link.duplicateSeen = false → Inv s →
        t.link = { s.link with rx := none, duplicateSeen := true }
          ∧ Raised [alarm .duplicateStation []] s t) ∧
      (s.link.state = .listen → s.link.duplicateSeen = true →
        t = { s with link := { s.link with rx := none } }) ∧
      ((s.link.state = .active ∨ s.link.state = .mutedFailures) → Inv s →
        t.link = { s.link with rx := none, state := .mutedDuplicate, muteTimer := none }
          ∧ Raised [alarm .duplicateStation [], alarm .linkMuted [2#8]] s t) ∧
      (s.link.state = .mutedDuplicate → t = { s with link := { s.link with rx := none } })) ∧
  (∀ s : State, Inv s →
    (s.link.state = .mutedFailures → s.link.muteTimer = some 0 →
      ∃ t, exec .muteTimerExpiry s = .next t ∧
        (let fresh := fun e : TxEntry => { e with attempts := 0 }
         t.link = { s.link with
           state := .active, muteTimer := none, urgent := s.link.urgent.map fresh
           coord := s.link.coord.map fresh, status := s.link.status.map fresh }) ∧
        Raised [notice .linkRestored []] s t ∧ PortKept s t ∧ LinesKept s t ∧
        SameBut [.link, .clu, .hpi] s t) ∧
    ((s.link.state ≠ .mutedFailures ∨ s.link.muteTimer ≠ some 0) → exec .muteTimerExpiry s = .next s))

/-! ## The peer table (R19 to R27, R108) -/

/-- An accepted STATUS of another station fills the sender's entry by the steps of R22, with the presence of
R20, the offset of R34, the claim record of R25 and the markers of R26; the first marker of an entry raises
PEER_CHANGE, whose detail names one marker by log entry 16. No other entry changes, and a STATUS that counts
toward no split sets the sender's count to 0 (R108); that the count is kept while the part is not RUNNING is log entry
22. The own claim is then evaluated again on the view with that entry (R122). One that passes is kept with no event; a
GRANTED TEST claim that fails is lost: CLAIM_LOST is raised, the run ends with MAINS_LOST or MARGIN_LOST, its
in-progress fields blank (log entry 20), and RELEASE is queued (R123, R125, R126, R138). -/
def Obligations.StatusFillsEntry : Prop :=
  ∀ (p : Station) (m : StatusMsg) (frame : List Byte) (start : FloorTime) (e : Peer) (s : State),
    Inv s → parseFloorFrame frame = .accepted p (.status m) → p ≠ s.link.station → s.link.rx = some start →
    e ∈ s.peers → e.station = p →
    ¬ (s.trc.ownMode = .inv ∧ s.trc.activity = .none ∧ m.report.isolated = false ∧ m.report.mode = .byp
        ∧ (m.report.act = .none ∨ m.report.act = .mismatch)) →
    let known := decide (e.presence ≠ .absent)
    let offset :=
      if known = true ∧ m.seq = e.seq + 1#8 then
        m.prevStart.map fun sent => sent + BitVec.ofNat 32 s.hpi.floor.linkDelay - e.rxStart
      else none
    let kept := match e.claim, m.claim with
      | some h, some c => decide (h.kind = c.kind ∧ h.time = c.time)
      | _, _ => false
    let claim :=
      if known then
        match m.claim with
        | none => none
        | some c => if c.granted then some c else if kept then e.claim else none
      else e.claim
    let pendingKept := known && kept && decide (claim = e.claim) && decide (claim.map (·.granted) = some false)
    let presenceMark := decide (e.presence = .joining ∨ e.presence = .stale)
    let modeMark := known && decide (m.report.mode ≠ e.report.mode ∨ m.report.isolated ≠ e.report.isolated)
    let healthMark := known && decide (m.report.weak ≠ e.report.weak)
    let claimMark := decide (claim ≠ e.claim)
    let bits := [(presenceMark, 1#8), (modeMark, 2#8), (healthMark, 8#8), (claimMark, 4#8)]
    let e₁ := { e with
      presence := if known then .present else .joining
      seq := m.seq, rxStart := start, offset := offset, fresh := if offset = none then 0 else 2
      report := m.report, claim := claim, presTimer := some 3500, staleTimer := none
      claimTimer := if known then (if pendingKept then e.claimTimer else none) else e.claimTimer
      markers :=
        ⟨e.markers.presence || presenceMark, e.markers.mode || modeMark, e.markers.claim || claimMark,
          e.markers.health || healthMark⟩ }
    let view := { s with peers := s.peers.map fun x => if x.station = p then e₁ else x }
    let heard := { s.link with rx := none }
    let changed := match bits.find? (fun b => b.1) with
      | some b => if e.markers = Markers.clear then [info .peerChange [byteOf p.val, b.2]] else []
      | none => []
    let filled := fun (t : State) =>
      t.peers = view.peers ∧ PortKept s t ∧
        TrcIs (if s.hpi.running && known then { s.trc with splits := s.trc.splits.set p.val 0 } else s.trc) t
    (ClaimKept view →
      ∃ t, exec (.statusReceived frame) s = .next t ∧ filled t ∧ Raised changed s t ∧ t.link = heard ∧
        LinesKept s t ∧ SameBut [.link, .peers, .clu, .trc, .hpi] s t) ∧
    (∀ (c : Claim) (r : Reason), OnLine s → s.link.coord.length < 8 → TestClaimFails c r view →
      ∃ t, exec (.statusReceived frame) s = .next t ∧ filled t ∧ Raised (changed ++ lossTold c r s) s t ∧
        RunLost c r heard s t ∧ SameBut [.link, .peers, .lva, .tsq, .clu, .trc, .hpi] s t)

/-- Two STATUS in a row that show a peer on bypass while this station is settled on inverter are a split: the
first counts, the second raises SPLIT_DETECTED and forces the floor with cause SPLIT (R101, R102, R108). -/
def Obligations.SecondBypassStatusForcesSplit : Prop :=
  ∀ (p : Station) (m : StatusMsg) (frame : List Byte) (e : Peer) (s : State),
    Inv s → OnLine s → s.link.rx ≠ none → parseFloorFrame frame = .accepted p (.status m) →
    p ≠ s.link.station → e ∈ s.peers →
    e.station = p → e.presence = .present → e.claim = none → m.claim = none → m.report.weak = e.report.weak →
    m.report.isolated = false → e.report.isolated = false → m.report.mode = .byp → e.report.mode = .byp →
    (m.report.act = .none ∨ m.report.act = .mismatch) → s.lva = none → isolatedFlag s = false →
    s.trc.ownMode = .inv → s.trc.activity = .none →
    (s.trc.splits[p.val] = 0 →
      ∃ t, exec (.statusReceived frame) s = .next t ∧ TrcIs { s.trc with splits := s.trc.splits.set p.val 1 } t ∧
        t.link = { s.link with rx := none } ∧ SameBut [.link, .peers, .trc] s t) ∧
    (1 ≤ s.trc.splits[p.val] → s.tsq.state.inProgress = false → s.link.urgent.length < 2 →
      s.clu.bypOk.qual = true → s.clu.fb.qual ≠ .byp →
      ∃ t, exec (.statusReceived frame) s = .next t ∧
        Raised [alarm .splitDetected [byteOf p.val], alarm .transferForced [4#8, byteOf s.link.station.val]] s t ∧
        t.link = { s.link with rx := none, urgent := s.link.urgent ++ [queued (.force 4#8)] } ∧
        TrcIs { s.trc with
          activity := .switching .byp .forced, proposal := none, executing := none, switchTimer := some 400
          holdTimer := some (10000 * s.hpi.floor.hold), overloadTimer := none
          splits := Vector.replicate 16 0 } t ∧
        t.clu = { commanded .byp s.clu with horn := t.clu.horn, hornTimer := t.clu.hornTimer } ∧
        PortKept s t ∧ SameBut [.link, .peers, .trc, .clu, .hpi] s t)

/-- The presence timer of an entry that has ended (R21): JOINING returns to ABSENT with every field cleared,
PRESENT enters STALE for 5 s without its claim record and out of its split count. While PROPOSED in phase
window the proposer excuses the member, and orders when every other one has consented (R94). That PEER_CHANGE
names PRESENCE alone, though CLAIM is set with it, is log entry 16. Where no such
timer has ended the row changes nothing (log entry 4).

The stale timer of a STALE entry that has ended returns it to ABSENT, with no event; the claim timer of a
PENDING record that has ended removes the record and sets the CLAIM marker (R21, R25). -/
def Obligations.EntryTimersClear : Prop :=
  (∀ (p : Station) (e : Peer) (s : State), Inv s → e ∈ s.peers → e.station = p →
    (e.presTimer ≠ some 0 → exec (.presenceTimerExpiry p) s = .next s) ∧
    (e.presTimer = some 0 → e.presence = .joining →
      exec (.presenceTimerExpiry p) s = .next
        { s with peers := s.peers.map fun x => if x.station = p then Peer.blank p else x }) ∧
    (e.presTimer = some 0 → e.presence = .present →
      ((∀ r, s.trc.proposal = some r → r.phase ≠ some .window)
        ∨ s.link.state ≠ .listen ∧ s.link.coord.length < 8) →
      let e₁ := { e with
        presence := .stale, presTimer := none, staleTimer := some 50000, claim := none, claimTimer := none
        markers := { e.markers with
          presence := true, claim := e.markers.claim || decide (e.claim ≠ none) } }
      let after := s.peers.map fun x => if x.station = p then e₁ else x
      ClaimKept { s with peers := after } →
      ∃ t, exec (.presenceTimerExpiry p) s = .next t ∧ t.peers = after ∧
        Raised (if e.markers = Markers.clear then [info .peerChange [byteOf p.val, 1#8]] else []) s t ∧
        PortKept s t ∧ LinesKept s t ∧ SameBut [.peers, .link, .clu, .trc, .hpi] s t ∧
        ((∀ r, s.trc.proposal = some r → r.phase ≠ some .window) →
          TrcIs { s.trc with splits := s.trc.splits.set p.val 0 } t ∧ t.link = s.link) ∧
        (∀ (id : PropId) (dir : Direction) (r : ProposalRec), s.trc.activity = .proposed id dir →
          s.trc.proposal = some r → r.phase = some .window →
          (∀ q ∈ r.consentSet, q = p ∨ q ∈ r.consents) →
          (let r₁ := { r with
             phase := some .ordering, window := none
             consentSet := r.consentSet.filter fun q => decide (q ≠ p) }
           TrcIs { s.trc with splits := s.trc.splits.set p.val 0, proposal := some r₁ } t) ∧
          t.link = { s.link with coord := s.link.coord ++ [queued (.order id)] }) ∧
        (∀ (id : PropId) (dir : Direction) (r : ProposalRec), s.trc.activity = .proposed id dir →
          s.trc.proposal = some r → r.phase = some .window →
          (∃ q ∈ r.consentSet, q ≠ p ∧ q ∉ r.consents) →
          (let r₁ := { r with consentSet := r.consentSet.filter fun q => decide (q ≠ p) }
           TrcIs { s.trc with splits := s.trc.splits.set p.val 0, proposal := some r₁ } t) ∧ t.link = s.link))) ∧
  (∀ (p : Station) (e : Peer) (s : State), Inv s → e ∈ s.peers → e.station = p →
    (e.presence = .stale → e.staleTimer = some 0 →
      exec (.staleTimerExpiry p) s = .next
        { s with peers := s.peers.map fun x => if x.station = p then Peer.blank p else x }) ∧
    ((e.presence ≠ .stale ∨ e.staleTimer ≠ some 0) → exec (.staleTimerExpiry p) s = .next s) ∧
    (∀ c : ShownClaim, e.claim = some c → c.granted = false → e.claimTimer = some 0 →
      let e₁ : Peer := { e with claim := none, claimTimer := none, markers := { e.markers with claim := true } }
      let after := s.peers.map fun x => if x.station = p then e₁ else x
      ClaimKept { s with peers := after } →
      ∃ t, exec (.claimTimerExpiry p) s = .next t ∧ t.peers = after ∧
        Raised (if e.markers = Markers.clear then [info .peerChange [byteOf p.val, 4#8]] else []) s t ∧
        TrcIs s.trc t ∧ PortKept s t ∧ LinesKept s t ∧ SameBut [.peers, .clu, .trc, .hpi] s t) ∧
    ((e.claimTimer ≠ some 0 ∨ ∀ c, e.claim = some c → c.granted = true) →
      exec (.claimTimerExpiry p) s = .next s))

/-! ## Proposals heard and answered (R94 to R98) -/

/-- A PROPOSE heard by a station that is isolated or not in the source mode is ignored; one in motion objects
BUSY; one in NONE objects with its first failing readiness check, or consents and follows (R96). -/
def Obligations.ProposeIsAnsweredByState : Prop :=
  ∀ (p : Station) (seq : Byte) (dir : Direction) (at_ ex : FloorTime) (frame : List Byte) (s : State),
    Hears p (.propose seq dir at_ ex) frame s → ClaimKept s → s.link.coord.length < 8 →
    ∃ t, exec (.proposeReceived frame) s = .next t ∧
      (let heard := { s.link with rx := none }
       let object := fun r : Reason =>
         t.link = { heard with coord := s.link.coord ++ [queued (.objectTransfer ⟨p, seq⟩ (byteOf r.code))] }
           ∧ TrcIs s.trc t ∧ SameBut [.link, .trc] s t
       (isolatedFlag s = true ∨ inSource dir s = false →
         t.link = heard ∧ TrcIs s.trc t ∧ SameBut [.link, .trc] s t) ∧
       (isolatedFlag s = false → inSource dir s = true →
         ((∃ id d u, s.trc.activity = .armed id d u) ∨ (∃ m o, s.trc.activity = .switching m o)
           ∨ (∃ m o, s.trc.activity = .mismatch m o) → object .busy) ∧
         (s.trc.activity = .none →
           (∀ r : Reason, firstFailing (readinessChecks dir s) = some r → object r) ∧
           (firstFailing (readinessChecks dir s) = none →
             t.link = { heard with coord := s.link.coord ++ [queued (.consent ⟨p, seq⟩)] } ∧
             TrcIs { s.trc with
               activity := .following ⟨p, seq⟩ dir, proposal := some (heardProposal p at_ ex)
               splits := Vector.replicate 16 0 } t ∧
             SameBut [.link, .trc] s t))))

/-- Two proposals meet at a ready station (R97): a heard one that loses is objected BUSY; a follower leaves
its proposal without an event for one that wins, or for a new one of the same proposer; a proposer gives way
to a winner with SUPERSEDED, and sends CANCEL only where its PROPOSE had completed. That the rule holds in
every phase is log entry 25. -/
def Obligations.EarlierProposalWins : Prop :=
  ∀ (p : Station) (seq : Byte) (dir : Direction) (at_ ex : FloorTime) (frame : List Byte) (id : PropId)
      (d : Direction) (r : ProposalRec) (s : State),
    Inv s → Hears p (.propose seq dir at_ ex) frame s → ClaimKept s → s.link.attempt = none →
    s.link.coord.length < 7 → isolatedFlag s = false → inSource dir s = true →
    firstFailing (readinessChecks dir s) = none → s.trc.proposal = some r →
    ∃ t, exec (.proposeReceived frame) s = .next t ∧
      (let heard := { s.link with rx := none }
       let busy := t.link = { heard with
           coord := s.link.coord ++ [queued (.objectTransfer ⟨p, seq⟩ (byteOf Reason.busy.code))] }
         ∧ TrcIs s.trc t ∧ SameBut [.link, .trc] s t
       let followed :=
         { s.trc with activity := .following ⟨p, seq⟩ dir, proposal := some (heardProposal p at_ ex)
                      splits := Vector.replicate 16 0 }
       (s.trc.activity = .following id d → ⟨p, seq⟩ ≠ id →
         (id.station ≠ p → ¬ wins p at_ r → busy) ∧
         (id.station = p ∨ wins p at_ r →
           t.link = { heard with
             coord := (s.link.coord.filter fun e => decide (e.msg ≠ .consent id))
               ++ [queued (.consent ⟨p, seq⟩)] } ∧
           TrcIs followed t ∧ SameBut [.link, .trc] s t)) ∧
       (s.trc.activity = .proposed id d →
         (¬ wins p at_ r → busy) ∧
         (wins p at_ r →
           t.link = { heard with
             coord := (s.link.coord.filter fun e => !ofProposal id e)
               ++ (if r.phase = some .queued then [] else [queued (.cancel id (byteOf Reason.superseded.code))])
               ++ [queued (.consent ⟨p, seq⟩)] } ∧
           TrcIs followed t ∧
           Raised [notice .transferCancelled
             [byteOf id.station.val, id.seq, byteOf Reason.superseded.code]] s t ∧
           PortKept s t ∧ LinesKept s t ∧ SameBut [.link, .trc, .clu, .hpi] s t)))

/-- CONSENT and OBJECT naming the own proposal in phase window (R94): the consent of a member is recorded, and
with the last one missing the ORDER is queued; an objection queues CANCEL with OBJECTED and ends the proposal,
with the objecting station and its reason in the detail, in the form of log entry 16. Any other is ignored. -/
def Obligations.AnswersDecideProposal : Prop :=
  ∀ (p : Station) (i id : PropId) (dir : Direction) (reason : Byte) (r : ProposalRec) (consent object : List Byte)
      (s : State),
    Inv s → OnLine s → ClaimKept s → s.link.coord.length < 8 → Hears p (.consent i) consent s →
    Hears p (.objectTransfer i reason) object s → s.trc.activity = .proposed id dir →
    s.trc.proposal = some r →
    (let heard := { s.link with rx := none }
     ∃ t, exec (.consentReceived consent) s = .next t ∧ SameBut [.link, .trc] s t ∧
       (let agreed := r.consents ++ [p]
        (i = id → r.phase = some .window → p ∈ r.consentSet → p ∉ r.consents →
          ((∀ q ∈ r.consentSet, q ∈ agreed) →
            t.link = { heard with coord := s.link.coord ++ [queued (.order id)] } ∧
            (let r₁ := { r with consents := agreed, phase := some .ordering, window := none }
             TrcIs { s.trc with proposal := some r₁ } t)) ∧
          ((∃ q ∈ r.consentSet, q ∉ agreed) →
            t.link = heard ∧
            (let r₁ := { r with consents := agreed }
             TrcIs { s.trc with proposal := some r₁ } t))) ∧
        ((i ≠ id ∨ r.phase ≠ some .window ∨ p ∉ r.consentSet ∨ p ∈ r.consents) →
          t.link = heard ∧ TrcIs s.trc t))) ∧
    (let heard := { s.link with rx := none }
     ∃ t, exec (.transferObjectReceived object) s = .next t ∧
       (i = id → r.phase = some .window →
         t.link = { heard with coord := (s.link.coord.filter fun e => !ofProposal id e)
           ++ [queued (.cancel id (byteOf Reason.objected.code))] } ∧
         TrcIs { s.trc with activity := .none, proposal := none } t ∧
         Raised [notice .transferCancelled
           [byteOf id.station.val, id.seq, byteOf Reason.objected.code, byteOf p.val, reason]] s t ∧
         PortKept s t ∧ LinesKept s t ∧ SameBut [.link, .trc, .clu, .hpi] s t) ∧
       ((i ≠ id ∨ r.phase ≠ some .window) →
         t.link = heard ∧ TrcIs s.trc t ∧ SameBut [.link, .trc] s t))

/-- A follower takes the ORDER and the CANCEL that name its proposal (R98): the one arms it for the execute
time still ahead, the other ends it without an event. An ORDER heard when the execute time has been reached has the
station switch at once, by the execution of R99, which first ends a run in progress with TRANSFER (R138), its
in-progress fields blank by log entry 20. Those that name another proposal, and those heard by a
station that follows none, are ignored. That the id alone is compared, whoever sends it, is log entry 25. -/
def Obligations.OrderArmsAndCancelDrops : Prop :=
  ∀ (p : Station) (i : PropId) (reason : Byte) (order cancel : List Byte) (s : State),
    Hears p (.order i) order s → Hears p (.cancel i reason) cancel s → s.link.attempt = none → Inv s →
    (let heard := { s.link with rx := none }
     (∀ (dir : Direction) (r : ProposalRec), s.trc.activity = .following i dir → s.trc.proposal = some r →
       (Ahead r.executeAt s → ClaimKept s →
         ∃ t, exec (.orderReceived order) s = .next t ∧ t.link = heard ∧
           (let r₁ := { r with phase := none, consentSet := [], consents := [], window := none }
            TrcIs { s.trc with activity := .armed i dir r.executeAt, proposal := some r₁ } t) ∧
           SameBut [.link, .trc] s t) ∧
       (¬ Ahead r.executeAt s → RunHoldsClaim s → (s.tsq.state.inProgress = true → s.link.coord.length < 8) →
         (s.tsq.state.inProgress = false → ClaimKept s) → Executes (.orderReceived order) i dir heard s) ∧
       (s.link.coord.length < 8 → ClaimKept s → ∃ t, exec (.cancelReceived cancel) s = .next t ∧
         t.link = { heard with coord := s.link.coord.filter fun e => decide (e.msg ≠ .consent i) } ∧
         TrcIs { s.trc with activity := .none, proposal := none } t ∧ SameBut [.link, .trc] s t)) ∧
     ((∀ dir, s.trc.activity ≠ .following i dir) → ClaimKept s →
       (∃ t, exec (.orderReceived order) s = .next t ∧ t.link = heard ∧ TrcIs s.trc t ∧
         SameBut [.link, .trc] s t) ∧
       (∃ t, exec (.cancelReceived cancel) s = .next t ∧ t.link = heard ∧ TrcIs s.trc t ∧
         SameBut [.link, .trc] s t)))

/-! ## FORCE and the claims of other stations (R103, R117, R120, R127) -/

/-- A FORCE heard from another station, by the rows of R103: an isolated station ignores it; one in BYP or OFF
with no activity only restarts the hold; any other goes to BYP, or with BYP-OK inactive to OFF with CANNOT_FOLLOW.
A switch that already had this target keeps its timer (R87). A planned activity is dropped with no event (R100): the
proposer withdraws its PROPOSE and ORDER, the follower its CONSENT, ARMED or not. An own TEST claim is released and a
run in progress ends with FORCED (R126, R140), with blank in-progress fields by log entry 20; that TRANSFER_FORCED is
told first is log entry 15. -/
def Obligations.HeardForceMovesStation : Prop :=
  ∀ (p : Station) (cause : Byte) (frame : List Byte) (s : State),
    Inv s → Hears p (.force cause) frame s →
    let heard := { s.link with rx := none }
    let hold := some (10000 * s.hpi.floor.hold)
    let forced := alarm .transferForced [cause, byteOf p.val]
    let lost := if s.clu.bypOk.qual then [] else [alarm .cannotFollow [byteOf p.val]]
    (isolatedFlag s = true → ClaimKept s →
      ∃ t, exec (.forceReceived frame) s = .next t ∧ t.link = heard ∧ TrcIs s.trc t ∧
        SameBut [.link, .trc] s t) ∧
    (isolatedFlag s = false → s.trc.ownMode ≠ .inv → s.trc.activity = .none → ClaimKept s →
      ∃ t, exec (.forceReceived frame) s = .next t ∧ t.link = heard ∧
        TrcIs { s.trc with holdTimer := hold } t ∧ SameBut [.link, .trc] s t) ∧
    (∀ target : Sys2Proof.Mode, isolatedFlag s = false → (s.trc.ownMode = .inv ∨ s.trc.activity ≠ .none) →
      target = (if s.clu.bypOk.qual then .byp else .off) → s.clu.fb.qual ≠ target.feedback →
      (let moved := fun (t : State) =>
         TrcIs { s.trc with
           activity := .switching target .forced, proposal := none, executing := none
           switchTimer := (match s.trc.activity with
             | .switching target₀ _ => if target₀ = target then s.trc.switchTimer else some 400
             | _ => some 400)
           holdTimer := hold, overloadTimer := none
           splits := (match s.trc.activity with
             | .switching _ _ => s.trc.splits
             | .mismatch _ _ => s.trc.splits
             | _ => Vector.replicate 16 0) } t ∧ PortKept s t
       let settled := ClaimKept s ∧ (∀ c, s.lva = some c → c.kind = .service) ∧ s.tsq.state.inProgress = false
       let plain := fun (link : Link) (t : State) =>
         t.link = link ∧ moved t ∧ Raised (forced :: lost) s t ∧
           t.clu = { commanded target s.clu with horn := t.clu.horn, hornTimer := t.clu.hornTimer } ∧
           SameBut [.link, .trc, .clu, .hpi] s t
       (settled → (∀ id dir, s.trc.activity ≠ .proposed id dir ∧ s.trc.activity ≠ .following id dir) →
         (∀ id dir ex, s.trc.activity ≠ .armed id dir ex) →
         ∃ t, exec (.forceReceived frame) s = .next t ∧ plain heard t) ∧
       (∀ (id : PropId) (dir : Direction) (ex : FloorTime), settled → s.link.attempt = none →
         (s.trc.activity = .proposed id dir ∨ s.trc.activity = .armed id dir ex ∧ id.station = s.link.station) →
         ∃ t, exec (.forceReceived frame) s = .next t ∧ plain (coordWithout (ofProposal id) heard) t) ∧
       (∀ (id : PropId) (dir : Direction) (ex : FloorTime), settled → s.link.attempt = none →
         (s.trc.activity = .following id dir ∨ s.trc.activity = .armed id dir ex ∧ id.station ≠ s.link.station) →
         ∃ t, exec (.forceReceived frame) s = .next t ∧
           plain (coordWithout (fun e => decide (e.msg = .consent id)) heard) t) ∧
       (∀ c : Claim, s.lva = some c → c.kind = .test → s.tsq.state.inProgress = true → s.link.attempt = none →
         s.link.coord.length < 8 → s.trc.activity = .none →
         ∃ t, exec (.forceReceived frame) s = .next t ∧ moved t ∧ t.lva = none ∧ StatusQueued t ∧
           t.link = { heard with
             coord := if c.granted || c.inWindow then s.link.coord ++ [queued (.release .test c.time)]
               else s.link.coord.filter fun e => decide (e.msg ≠ .claim .test c.time)
             status := t.link.status } ∧
           t.tsq = { s.tsq with state := .ended, run := RunRec.blank, result := some (resultOf .forced s) } ∧
           Raised (forced :: runTold .forced s :: lost) s t ∧
           t.clu = { commanded target s.clu with
             testWd := false, horn := t.clu.horn, hornTimer := t.clu.hornTimer } ∧
           SameBut [.link, .trc, .clu, .lva, .tsq, .hpi] s t)))

/-- A CLAIM heard from a station that is not PRESENT is ignored. One from a PRESENT station is judged by the
leave check on the own view: the first test that fails is sent in an OBJECT, and a claim that passes is
recorded PENDING for the claim window and 200 ms (R24, R117). That a claim equal to the PENDING record held restarts the
timer and sets no marker is log entry 29.

A RELEASE removes the record of the sender's claim whatever claim it holds, with the CLAIM marker; where
there is no record nothing but the reception ends (R25, R127). -/
def Obligations.HeardClaimAndReleaseChangeRecord : Prop :=
  (∀ (p : Station) (kind : ClaimKind) (time : FloorTime) (frame : List Byte) (e : Peer) (s : State),
    Inv s → Hears p (.claim kind time) frame s →
    (∀ c, s.lva = some c → c.kind = .test → c.granted = false → kind = .test →
      ¬ ((time - c.time).toInt < 0 ∨ time = c.time ∧ p < s.link.station)) → e ∈ s.peers → e.station = p →
    s.link.coord.length < 8 →
    let heard := { s.link with rx := none }
    let record : ShownClaim := ⟨kind, time, false⟩
    let e₁ := { e with
      claim := some record, claimTimer := some (10 * (s.hpi.floor.claimWindow + 200))
      markers := { e.markers with claim := e.markers.claim || decide (e.claim ≠ some record) } }
    let after := s.peers.map fun x => if x.station = p then e₁ else x
    (e.presence ≠ .present → ClaimKept s →
      ∃ t, exec (.claimReceived frame) s = .next t ∧ TrcIs s.trc t ∧ t.link = heard ∧ SameBut [.link, .trc] s t) ∧
    (∀ r : Reason, e.presence = .present → leaveCheck s p kind time = some r → ClaimKept s →
      ∃ t, exec (.claimReceived frame) s = .next t ∧ TrcIs s.trc t ∧
        t.link = { heard with coord := s.link.coord ++ [queued (.objectClaim p time (byteOf r.code))] } ∧
        SameBut [.link, .trc] s t) ∧
    (e.presence = .present → leaveCheck s p kind time = none → ClaimKept { s with peers := after } →
      ∃ t, exec (.claimReceived frame) s = .next t ∧ TrcIs s.trc t ∧ t.peers = after ∧
        Raised (if e.markers = Markers.clear ∧ e.claim ≠ some record then
          [info .peerChange [byteOf p.val, 4#8]] else []) s t ∧
        t.link = heard ∧ PortKept s t ∧ LinesKept s t ∧ SameBut [.link, .peers, .clu, .trc, .hpi] s t)) ∧
  (∀ (p : Station) (kind : ClaimKind) (time : FloorTime) (frame : List Byte) (e : Peer) (s : State),
    Inv s → Hears p (.release kind time) frame s → e ∈ s.peers → e.station = p →
    let e₁ := { e with
      claim := none, claimTimer := none
      markers := { e.markers with claim := e.markers.claim || decide (e.claim ≠ none) } }
    let after := s.peers.map fun x => if x.station = p then e₁ else x
    ClaimKept { s with peers := after } →
    ∃ t, exec (.releaseReceived frame) s = .next t ∧ t.link = { s.link with rx := none } ∧ t.peers = after ∧
      Raised (if e.markers = Markers.clear ∧ e.claim ≠ none then
        [info .peerChange [byteOf p.val, 4#8]] else []) s t ∧
      TrcIs s.trc t ∧ PortKept s t ∧ LinesKept s t ∧ SameBut [.link, .peers, .clu, .trc, .hpi] s t)

/-- The leave check gives the reason of the first of its four tests that fails (R117 to R119), over the own
station and the PRESENT peers: another TEST claim that stands before a TEST claim judged, a floor in motion, a
floor on battery, and the margin that remains when the claimant and every claim before it have left. -/
def Obligations.LeaveCheckTestsInOrder : Prop :=
  ∀ (claimant : Station) (kind : ClaimKind) (time : FloorTime) (s : State),
    let counted : List (Station × Report × Option ShownClaim) :=
      (s.link.station, ownReport s, ownShown s) ::
        (s.peers.filter fun e => decide (e.presence = .present)).map fun e => (e.station, e.report, e.claim)
    let before : Station → Option ShownClaim → Bool := fun p claim =>
      match claim with
      | some k => k.granted || decide ((k.time - time).toInt < 0 ∨ k.time = time ∧ p < claimant)
      | none => false
    let test1 := kind = .test ∧ ∃ c ∈ counted, c.1 ≠ claimant ∧ before c.1 c.2.2 = true ∧
      ∃ k, c.2.2 = some k ∧ k.kind = .test
    let test2 := ∃ c ∈ counted, c.2.1.isolated = false ∧
      (c.2.1.act ≠ .none ∨ c.2.1.mode = .byp ∨ c.2.1.hold = true ∨ c.2.1.maint = true)
    let test3 := ∃ c ∈ counted, c.2.1.isolated = false ∧ c.2.1.source = .battery
    let staying := counted.filter fun c =>
      decide (c.2.1.isolated = false ∧ c.2.1.mode = .inv ∧ c.1 ≠ claimant) && !before c.1 c.2.2
    let backing := staying.filter fun c =>
      decide (c.2.1.weak = false ∧ c.2.1.senseLost = false ∧ c.2.1.source = .mains)
    let load := counted.filter fun c =>
      decide (c.2.1.isolated = false ∧ (c.2.1.mode = .inv ∨ c.2.1.mode = .byp))
    let tooThin := staying.length < s.hpi.floor.minInv ∨
      (backing.map (·.2.1.carrying)).sum * 100
        < (load.map (·.2.1.load)).sum * (100 + s.hpi.floor.margin)
    (test1 → leaveCheck s claimant kind time = some .testBusy) ∧
    (¬ test1 → test2 → leaveCheck s claimant kind time = some .floorBusy) ∧
    (¬ test1 → ¬ test2 → test3 → leaveCheck s claimant kind time = some .onBattery) ∧
    (¬ test1 → ¬ test2 → ¬ test3 → tooThin → leaveCheck s claimant kind time = some .margin) ∧
    (¬ test1 → ¬ test2 → ¬ test3 → ¬ tooThin → leaveCheck s claimant kind time = none)

/-- An OBJECT that names the own claim while it is CLAIMING denies it (R120): a CLAIM still queued is withdrawn, the
record emptied, CLAIM_DENIED raised with the objector's reason and number, and the STATUS that shows no claim queued.
The run that waited for a TEST claim ends with CLAIM_DENIED (R132), its in-progress fields blank by log entry 20; the
visit that waited in REQUESTED for a SERVICE claim closes CANCELLED with the objector's reason as its cause (R153,
R163), by the cause bytes of log entry 11. An OBJECT that names another claim, or one that is GRANTED, or that finds no
own claim, is ignored. -/
def Obligations.ObjectDeniesOwnClaim : Prop :=
  ∀ (p claimant : Station) (time : FloorTime) (reason : Byte) (frame : List Byte) (s : State),
    Inv s → OnLine s → Hears p (.objectClaim claimant time reason) frame s →
    (∀ c : Claim, s.lva = some c → claimant = s.link.station → c.time = time → c.granted = false →
      (let heard := { s.link with rx := none }
       let left := if c.inWindow then heard else coordWithout (fun e => decide (e.msg = .claim c.kind time)) heard
       let denied := fun (t : State) =>
         t.lva = none ∧ t.link = { left with status := t.link.status } ∧ StatusQueued t ∧ PortKept s t ∧ TrcIs s.trc t
       let told := notice .claimDenied [kindOfClaim c.kind, reason, byteOf p.val]
       (c.kind = .test → s.tsq.state = .claiming →
         ∃ t, exec (.claimObjectReceived frame) s = .next t ∧ denied t ∧
           t.tsq = { s.tsq with state := .ended, run := RunRec.blank, result := some (resultOf .claimDenied s) } ∧
           t.clu = { s.clu with testWd := false, horn := t.clu.horn, hornTimer := t.clu.hornTimer } ∧
           Raised [told, runTold .claimDenied s] s t ∧ SameBut [.lva, .link, .clu, .tsq, .trc, .hpi] s t) ∧
       (∀ v : Visit, c.kind = .service → s.vsm.visit = some v → v.state = .requested →
         ∃ t, exec (.claimObjectReceived frame) s = .next t ∧ denied t ∧ LinesKept s t ∧
           t.vsm = { s.vsm with visit := none, log := logged (logOf v .cancelled [] s) s.vsm.log } ∧
           Raised [told, closureTold v .cancelled [1#8, reason]] s t ∧
           SameBut [.lva, .link, .vsm, .clu, .trc, .hpi] s t))) ∧
    ((∀ c : Claim, s.lva = some c → claimant ≠ s.link.station ∨ c.time ≠ time ∨ c.granted = true) → ClaimKept s →
      ∃ t, exec (.claimObjectReceived frame) s = .next t ∧ t.link = { s.link with rx := none } ∧
        TrcIs s.trc t ∧ SameBut [.link, .trc] s t)

/-! ## Floor time (R33 to R38) -/

/-- Every 100th tick of the free-running counter applies the pending slew: floor time advances by 2, by
nothing or by 1, and the slew comes one nearer to 0. Any other tick advances floor time by 1 and leaves the
slew. -/
def Obligations.SlewTickMovesFloorTime : Prop :=
  ∀ s : State,
    (s.ftu.tickCount = 99 → ∃ t, exec .slewTick s = .next t ∧ t.ftu.tickCount = 0 ∧
      (0 < s.ftu.slew → t.ftu.floorTime = s.ftu.floorTime + 2#32 ∧ t.ftu.slew = s.ftu.slew - 1) ∧
      (s.ftu.slew < 0 → t.ftu.floorTime = s.ftu.floorTime ∧ t.ftu.slew = s.ftu.slew + 1) ∧
      (s.ftu.slew = 0 → t.ftu.floorTime = s.ftu.floorTime + 1#32 ∧ t.ftu.slew = 0)) ∧
    (s.ftu.tickCount ≠ 99 → ∃ t, exec .floorTick s = .next t ∧ t.ftu.tickCount = s.ftu.tickCount + 1 ∧
      t.ftu.floorTime = s.ftu.floorTime + 1#32 ∧ t.ftu.slew = s.ftu.slew)

/-- A tick of the reference clock moves every timer that runs on it, in every block, and marks a boundary
crossing where floor time advances onto or through a multiple of 1000 (R33). The minute divider counts its
1000 reference cycles while RUNNING (R71). SLEW_TICK is the tick that makes 100, and no tick elsewhere (log
entry 4). That timers are counted in whole ticks is log entry 3. -/
def Obligations.TickMovesEveryTimer : Prop :=
  ∀ s : State,
    (s.ftu.tickCount = 99 → exec .slewTick s = exec .floorTick s) ∧
    (s.ftu.tickCount ≠ 99 → exec .slewTick s = .next s) ∧
    (let down := fun x : Option Ticks => x.map (· - 1)
     let line := fun l : LineIn => { l with timer := down l.timer }
     ∃ t, exec .floorTick s = .next t ∧
      t.link = { s.link with muteTimer := down s.link.muteTimer } ∧
      t.peers = s.peers.map (fun e => { e with
        presTimer := down e.presTimer, staleTimer := down e.staleTimer, claimTimer := down e.claimTimer }) ∧
      t.clu = { s.clu with
        invFault := line s.clu.invFault, overload := line s.clu.overload, bypOk := line s.clu.bypOk
        fb := { s.clu.fb with timer := down s.clu.fb.timer }, input := line s.clu.input
        bypassIn := line s.clu.bypassIn, output := line s.clu.output, battery := line s.clu.battery
        maint := line s.clu.maint, alarmIn := line s.clu.alarmIn, hornTimer := down s.clu.hornTimer } ∧
      t.sns = { s.sns with silence := s.sns.silence.map fun n => min (n + 1) 100000 } ∧
      t.bau = { s.bau with divider := if s.hpi.running then s.bau.divider + 1000 else s.bau.divider } ∧
      t.trc = { s.trc with
        switchTimer := down s.trc.switchTimer, holdTimer := down s.trc.holdTimer
        overloadTimer := down s.trc.overloadTimer
        proposal := s.trc.proposal.map fun r => { r with window := down r.window } } ∧
      t.lva = s.lva.map (fun c => { c with
        windowTimer := down c.windowTimer, queueTimer := down c.queueTimer }) ∧
      t.tsq = { s.tsq with run := { s.tsq.run with
        stepTimer := down s.tsq.run.stepTimer, pauseTimer := down s.tsq.run.pauseTimer } } ∧
      t.vsm = { s.vsm with visit := s.vsm.visit.map fun v => { v with
        stepTimer := down v.stepTimer, retryTimer := down v.retryTimer } } ∧
      (let advance : Nat :=
         if s.ftu.tickCount = 99 then (if 0 < s.ftu.slew then 2 else if s.ftu.slew < 0 then 0 else 1) else 1
       t.ftu.boundaryDue
         = (s.ftu.boundaryDue || decide (∃ n, n < advance ∧ (t.ftu.floorTime - BitVec.ofNat 32 n).toNat % 1000 = 0)) ∧
       t.ftu.align = s.ftu.align ∧ t.ftu.streak = s.ftu.streak) ∧
      SameBut [.link, .peers, .ftu, .clu, .sns, .bau, .trc, .lva, .tsq, .vsm] s t)

/-- The evaluation at a boundary (R35, R36, R38): the mean over the fresh offsets of the PRESENT peers and the
own 0, truncated; a mean beyond 500 steps floor time, with the stored times of the peers, and any other
becomes the pending slew; the alignment state and its streak follow the mean; every freshness count falls; a
RUNNING station then queues its STATUS (R31). The own claim is evaluated again (R122): one that passes is kept with no
event, a GRANTED TEST claim that fails is lost, its run ends with MAINS_LOST or MARGIN_LOST and RELEASE is queued (R123,
R125, R126, R138), the in-progress fields blank by log entry 20. So it is in every activity of the station. Where the
evaluation steps floor time to or past the execute time of an ARMED station, the station then executes at once (R36,
R99), from the state that the evaluation has left; before that time, and without a step, it stays ARMED and its
TRANSFER_EXECUTE is a row of its own (log entry 5). Without a crossing to answer the row changes nothing (log entry 4).
The mean in the detail of ALIGNMENT_CHANGE takes four bytes by log entry 18. -/
def Obligations.BoundaryEvaluationAligns : Prop :=
  ∀ s : State, Inv s → s.link.attempt = none →
    (s.ftu.boundaryDue = false → exec .boundaryEvaluation s = .next s) ∧
    (s.ftu.boundaryDue = true →
      (let offsets : List Int := s.peers.filterMap fun e =>
         if e.presence = .present ∧ 0 < e.fresh then e.offset.map (·.toInt) else none
       let mean := Int.tdiv offsets.sum (offsets.length + 1)
       let step := decide (500 < mean.natAbs)
       let far := step || decide (10 < mean.natAbs)
       let streak := if offsets ≠ [] ∧ mean.natAbs ≤ 2 then min 3 (s.ftu.streak + 1) else 0
       let align : Align :=
         if offsets = [] then .alone
         else if far then .aligning
         else if s.ftu.align = .aligned then .aligned
         else if s.ftu.align = .aligning ∧ mean.natAbs ≤ 2 ∧ 2 ≤ s.ftu.streak then .aligned
         else .aligning
       let now := if step then s.ftu.floorTime + BitVec.ofInt 32 mean else s.ftu.floorTime
       let told := if align = s.ftu.align then []
         else [info .alignmentChange ([byteOf s.ftu.align.code, byteOf align.code] ++ be32 (BitVec.ofInt 32 mean))]
       let s₁ := { s with ftu := { s.ftu with floorTime := now } }
       let aligned := fun (t : State) =>
         t.ftu = { s.ftu with
           floorTime := now, slew := if step then 0 else mean, align := align, streak := streak
           boundaryDue := false } ∧
         t.peers = s.peers.map (fun e =>
           let e₁ :=
             if step ∧ e.presence ≠ .absent then
               { e with
                 rxStart := e.rxStart + BitVec.ofInt 32 mean
                 offset := e.offset.map fun o => o - BitVec.ofInt 32 mean }
             else e
           { e₁ with fresh := e.fresh - 1 }) ∧
         PortKept s t ∧ TrcIs s.trc t
       let kept := fun (t : State) =>
         aligned t ∧ Raised told s₁ t ∧ t.link = { s.link with status := t.link.status } ∧
           (s.hpi.running = true → StatusQueued t) ∧ (s.hpi.running = false → t.link = s.link) ∧
           LinesKept s t ∧ SameBut [.ftu, .peers, .link, .clu, .trc, .hpi] s t
       let lost := fun (c : Claim) (r : Reason) (t : State) =>
         aligned t ∧ Raised (told ++ lossTold c r s) s₁ t ∧ RunLost c r s.link s t ∧
           SameBut [.ftu, .peers, .link, .lva, .tsq, .clu, .trc, .hpi] s t
       ((∀ id dir u, s.trc.activity = .armed id dir u → step = true → Ahead u s₁) →
         (ClaimKept s → ∃ t, exec .boundaryEvaluation s = .next t ∧ kept t) ∧
         (∀ (c : Claim) (r : Reason), OnLine s → s.link.coord.length < 8 → TestClaimFails c r s →
           ∃ t, exec .boundaryEvaluation s = .next t ∧ lost c r t)) ∧
       (∀ (id : PropId) (dir : Direction) (u : FloorTime), s.hpi.running = true → s.trc.activity = .armed id dir u →
         step = true → ¬ Ahead u s₁ →
         (ClaimKept s → RunHoldsClaim s → (s.tsq.state.inProgress = true → s.link.coord.length < 8) →
           ∃ w, kept w ∧ ExecutesFrom s .boundaryEvaluation id dir w.link w) ∧
         (∀ (c : Claim) (r : Reason), OnLine s → s.link.coord.length < 8 → TestClaimFails c r s →
           ∃ w, lost c r w ∧ ExecutesFrom s .boundaryEvaluation id dir w.link w))))

/-! ## The terms of a planned transfer (R92 to R99) -/

/-- The floor times and the window of a proposal: a PROPOSE still queued too late is withdrawn and the proposal
ends LATE (R92); an ORDER without outcome, and a window with a consent missing, end it with a CANCEL of LATE
or NO_CONSENT (R94, R95); a follower without ORDER or CANCEL drops it with ORDER_MISSED (R98). A row whose
time has not come changes nothing (log entry 4).

An ARMED station executes when its floor time has reached the execute time (R99): TO_BYPASS switches to BYP;
TO_INVERTER switches to INV, to OFF where the inverter is not ready, and not at all in hold, which cancels the
transfer at this station. Each of them first ends a run in progress with TRANSFER (R138, R140, R141), its claim
released (R126). Before that time the row changes nothing (log entry 4). The blank in-progress fields are log entry
20. -/
def Obligations.PlannedTransferTerms : Prop :=
  (∀ (id : PropId) (dir : Direction) (r : ProposalRec) (s : State),
    Inv s → OnLine s → ClaimKept s → s.link.coord.length < 8 → s.trc.proposal = some r →
    (let window := BitVec.ofNat 32 (10 * s.hpi.floor.respWindow)
     let kept := s.link.coord.filter fun e => !ofProposal id e
     let ends := fun (row : Instr) (reason : Reason) (cancel : List TxEntry) =>
       ∃ t, exec row s = .next t ∧ t.link = { s.link with coord := kept ++ cancel } ∧
         TrcIs { s.trc with activity := .none, proposal := none } t ∧
         Raised [notice .transferCancelled [byteOf id.station.val, id.seq, byteOf reason.code]] s t ∧
         PortKept s t ∧ LinesKept s t ∧ SameBut [.link, .trc, .clu, .hpi] s t
     (s.trc.activity = .proposed id dir →
       (r.phase = some .queued → ¬ Ahead (r.executeAt - window) s → ends .proposeLate .late []) ∧
       ((r.phase ≠ some .queued ∨ Ahead (r.executeAt - window) s) → exec .proposeLate s = .next s) ∧
       (r.phase = some .ordering → ¬ Ahead (r.executeAt + window) s →
         ends .orderLate .late [queued (.cancel id (byteOf Reason.late.code))]) ∧
       ((r.phase ≠ some .ordering ∨ Ahead (r.executeAt + window) s) → exec .orderLate s = .next s) ∧
       (r.phase = some .window → r.window = some 0 →
         ends .responseWindowExpiry .noConsent [queued (.cancel id (byteOf Reason.noConsent.code))]) ∧
       ((r.phase ≠ some .window ∨ r.window ≠ some 0) → exec .responseWindowExpiry s = .next s)) ∧
     (s.trc.activity = .following id dir →
       (¬ Ahead (r.executeAt + window) s →
         ∃ t, exec .orderMissed s = .next t ∧
           t.link = { s.link with
             coord := s.link.coord.filter fun e => decide (e.msg ≠ .consent id) } ∧
           TrcIs { s.trc with activity := .none, proposal := none } t ∧
           Raised [notice .orderMissed [byteOf id.station.val, id.seq]] s t ∧ PortKept s t ∧
           LinesKept s t ∧ SameBut [.link, .trc, .clu, .hpi] s t) ∧
       (Ahead (r.executeAt + window) s → exec .orderMissed s = .next s)))) ∧
  (∀ (id : PropId) (dir : Direction) (u : FloorTime) (s : State),
    Inv s → s.hpi.running = true → s.trc.activity = .armed id dir u →
    (Ahead u s → exec .transferExecute s = .next s) ∧
    (¬ Ahead u s → RunHoldsClaim s → (s.tsq.state.inProgress = true → OnLine s ∧ s.link.coord.length < 8) →
      (s.tsq.state.inProgress = false → ClaimKept s) →
      Executes .transferExecute id dir s.link s))

/-! ## The timers of mode control (R88, R104, R105) -/

/-- A switch without confirming feedback in 40 ms falls into MISMATCH, with the target and the feedback in the
detail; the mode command stays (R88). The end of the hold raises nothing (R105). In each case nothing changes
where no such timer has ended (log entry 4).

The overload timer that ends forces the floor with cause OVERLOAD (R102, R104). -/
def Obligations.ModeTimersEnd : Prop :=
  (∀ s : State, Inv s → ClaimKept s →
    (∀ (target : Sys2Proof.Mode) (origin : Origin), s.trc.activity = .switching target origin →
      s.trc.switchTimer = some 0 →
      ∃ t, exec .switchTimeout s = .next t ∧
        TrcIs { s.trc with activity := .mismatch target origin, switchTimer := none } t ∧
        Raised [alarm .mismatch [byteOf target.code, byteOf s.clu.fb.qual.code]] s t ∧ LinesKept s t ∧
        PortKept s t ∧ SameBut [.trc, .clu, .hpi] s t) ∧
    (s.trc.switchTimer ≠ some 0 → exec .switchTimeout s = .next s) ∧
    (s.trc.holdTimer = some 0 →
      exec .holdExpiry s = .next { s with trc := { s.trc with holdTimer := none } }) ∧
    (s.trc.holdTimer ≠ some 0 → exec .holdExpiry s = .next s)) ∧
  (∀ s : State, Inv s → OnLine s → s.lva = none →
    (s.trc.overloadTimer ≠ some 0 → exec .overloadTimeout s = .next s) ∧
    (s.trc.overloadTimer = some 0 → s.trc.ownMode = .inv → s.trc.activity = .none →
      isolatedFlag s = false → s.tsq.state.inProgress = false → s.link.urgent.length < 2 →
      s.clu.bypOk.qual = true → s.clu.fb.qual ≠ .byp →
      ∃ t, exec .overloadTimeout s = .next t ∧
        Raised [alarm .transferForced [2#8, byteOf s.link.station.val]] s t ∧
        t.link = { s.link with urgent := s.link.urgent ++ [queued (.force 2#8)] } ∧
        TrcIs { s.trc with
          activity := .switching .byp .forced, proposal := none, executing := none, switchTimer := some 400
          holdTimer := some (10000 * s.hpi.floor.hold), overloadTimer := none
          splits := Vector.replicate 16 0 } t ∧
        t.clu = { commanded .byp s.clu with horn := t.clu.horn, hornTimer := t.clu.hornTimer } ∧
        PortKept s t ∧ SameBut [.link, .trc, .clu, .hpi] s t))

/-! ## Lines and outputs (R40 to R52) -/

/-- A raw change of an input line (R40, R41, R46, R48): it starts the timer of the line again, at 1 ms for the
stage inputs and the feedback pair and at the contact qualify time for the others, and a return to the
qualified state stops it. A level that is no change leaves the line.

The lines of ALARM-IN, the horn and the commands. A rise of the qualified ALARM-IN sets the condition and
is told once (R48, R49); the horn falls SILENT at the end of its term (R52); the end of the dead interval
leaves the command lines at the mode command (R43). A timer that has not ended changes nothing (log entry
4). -/
def Obligations.LinesAreTimedAndTold : Prop :=
  (∀ (level : Bool) (s : State),
    let moved := fun (term : Nat) (l : LineIn) =>
      if level = l.raw then l
      else { l with raw := level, timer := if level = l.qual then none else some term }
    (∀ k : StageInput, ∃ t, exec (.lineRawChange (.stage k) level) s = .next t ∧
      t.clu.stageLine k = moved 10 (s.clu.stageLine k) ∧
      t.clu = s.clu.stage k (fun _ => t.clu.stageLine k) ∧ SameBut [.clu] s t) ∧
    (∀ k : Contact, ∃ t, exec (.lineRawChange (.contact k) level) s = .next t ∧
      t.clu.contactLine k = moved (10 * s.hpi.cab.qualMs) (s.clu.contactLine k) ∧
      t.clu = s.clu.contact k (fun _ => t.clu.contactLine k) ∧ SameBut [.clu] s t) ∧
    (∃ t, exec (.lineRawChange .alarmIn level) s = .next t ∧
      t.clu = { s.clu with alarmIn := moved (10 * s.hpi.cab.qualMs) s.clu.alarmIn } ∧ SameBut [.clu] s t) ∧
    (∃ t, exec (.lineRawChange .fbInv level) s = .next t ∧
      t.clu = { s.clu with fb := { s.clu.fb with rawInv := level, timer := t.clu.fb.timer } } ∧
      (rawFeedback t.clu.fb = s.clu.fb.qual → t.clu.fb.timer = none) ∧
      (rawFeedback t.clu.fb ≠ s.clu.fb.qual →
        t.clu.fb.timer = if level = s.clu.fb.rawInv then s.clu.fb.timer else some 10) ∧ SameBut [.clu] s t) ∧
    (∃ t, exec (.lineRawChange .fbByp level) s = .next t ∧
      t.clu = { s.clu with fb := { s.clu.fb with rawByp := level, timer := t.clu.fb.timer } } ∧
      (rawFeedback t.clu.fb = s.clu.fb.qual → t.clu.fb.timer = none) ∧
      (rawFeedback t.clu.fb ≠ s.clu.fb.qual →
        t.clu.fb.timer = if level = s.clu.fb.rawByp then s.clu.fb.timer else some 10) ∧ SameBut [.clu] s t)) ∧
  (∀ s : State, Inv s →
    (s.clu.alarmIn.timer ≠ some 0 → exec .alarmInputQualified s = .next s) ∧
    (s.clu.alarmIn.timer = some 0 → ∃ t, exec .alarmInputQualified s = .next t ∧
      (let line : LineIn := ⟨s.clu.alarmIn.raw, s.clu.alarmIn.raw, none⟩
       let edge := decide (s.hpi.cab.alarmMode = .edge)
       let rises := s.clu.alarmIn.raw && !(edge && s.clu.alarmLatch)
       t.clu = { s.clu with
         alarmIn := line, alarmLatch := s.clu.alarmLatch || (edge && s.clu.alarmIn.raw)
         horn := t.clu.horn, hornTimer := t.clu.hornTimer } ∧
       Raised (if rises then [notice .alarmInput [if edge then 2#8 else 1#8, 1#8]] else []) s t) ∧
      PortKept s t ∧ SameBut [.clu, .hpi] s t) ∧
    (s.clu.hornTimer = some 0 →
      exec .hornTermExpiry s = .next { s with clu := { s.clu with horn := false, hornTimer := none } }) ∧
    (s.clu.hornTimer ≠ some 0 → exec .hornTermExpiry s = .next s) ∧
    exec .deadIntervalEnd s = .next { s with clu := { s.clu with dead := false } })

/-- A stage input that has been qualified (R40, R42). In CONFIGURING only its qualified state changes, and so
it is for BYP-OK. In RUNNING a rise of OVERLOAD in INV starts the overload timer, its fall stops it (R104); a
rise of INV-FAULT in INV makes the station drop out where the carrying capacity of the other inverters covers
the floor load, and force the floor with cause INVERTER_FAULT where it does not (R106). The figures in the
detail of DROPOUT take four bytes by log entry 18; a timer that has not ended changes nothing (log entry 4).

The inverter fault by its forms (R106): a rise of INV-FAULT in INV drops the station out, or forces the floor,
to BYP or with BYP-OK inactive to OFF with LOAD_AT_RISK (R103); one in a switch to INV goes OFF with no
comparison, and its DROPOUT has no detail, for R106 names none (R183). Each of them has FAULT_FOLLOWUP raised where the
due list holds none (R148). A rise of OVERLOAD with a tolerance of 0 forces at once (R104). The cause byte of a dropout
is log entry 10, the figures of DROPOUT are log entry 18, the own number in the detail of LOAD_AT_RISK is log entry 16;
that the DUE_RAISED of a force comes behind the events of R103 is log entry 15.

An INV-FAULT that rises in INV first drops a planned activity with reason FAULT (R100): a proposer withdraws its
PROPOSE or ORDER and raises TRANSFER_CANCELLED, a follower withdraws its CONSENT. The dropout or the force that follows
ends a run in progress with FORCED and releases its claim (R106, R126, R138), its in-progress fields blank (log entry
20). That a queued ORDER is withdrawn by this drop, which queues no CANCEL, is log entry 25. -/
def Obligations.StageInputIsTaken : Prop :=
  (∀ (k : StageInput) (s : State), Inv s →
    ((s.clu.stageLine k).timer ≠ some 0 → exec (.stageInputQualified k) s = .next s) ∧
    ((s.clu.stageLine k).timer = some 0 → ClaimKept s →
      (let raw := (s.clu.stageLine k).raw
       let c₁ := s.clu.stage k (fun _ => ⟨raw, raw, none⟩)
       (s.hpi.running = false → exec (.stageInputQualified k) s = .next { s with clu := c₁ }) ∧
       (s.hpi.running = true →
         (k = .bypOk → ∃ t, exec (.stageInputQualified k) s = .next t ∧ t.clu = c₁ ∧ TrcIs s.trc t ∧
           SameBut [.clu, .trc] s t) ∧
         (k = .overload → 0 < s.hpi.floor.overloadTol → ∃ t, exec (.stageInputQualified k) s = .next t ∧
           t.clu = c₁ ∧
           TrcIs { s.trc with overloadTimer :=
             if raw = false then none
             else if s.trc.ownMode = .inv then some (10000 * s.hpi.floor.overloadTol)
             else s.trc.overloadTimer } t ∧ SameBut [.clu, .trc] s t) ∧
         (k = .invFault → (raw = false ∨ s.trc.ownMode ≠ .inv ∧ s.trc.activity = .none) →
           ∃ t, exec (.stageInputQualified k) s = .next t ∧ t.clu = c₁ ∧ TrcIs s.trc t ∧
             SameBut [.clu, .trc] s t) ∧
         (k = .invFault → raw = true → s.lva = none → s.trc.ownMode = .inv → s.trc.activity = .none →
           s.tsq.state.inProgress = false → isolatedFlag s = false → s.link.state ≠ .listen →
           s.link.attempt = none → s.link.urgent.length < 2 →
           (∃ d ∈ s.vsm.dues, d.kind = .faultFollowup) →
           (let others := ((s.peers.filter fun e =>
               decide (e.presence = .present ∧ e.report.mode = .inv)).map fun e => e.report.carrying).sum
            let switched := fun (target : Sys2Proof.Mode) (origin : Origin) (hold : Option Ticks) =>
              { s.trc with
                activity := .switching target origin, proposal := none, executing := none
                switchTimer := some 400, holdTimer := hold, overloadTimer := none
                splits := Vector.replicate 16 0 }
            (floorLoad s ≤ others → s.clu.fb.qual ≠ .off →
              ∃ t, exec (.stageInputQualified k) s = .next t ∧
                Raised [alarm .dropout (be32 (BitVec.ofNat 32 others) ++ be32 (BitVec.ofNat 32 (floorLoad s)))]
                  s t ∧
                TrcIs (switched .off .dropout s.trc.holdTimer) t ∧
                t.clu = { commanded .off c₁ with horn := t.clu.horn, hornTimer := t.clu.hornTimer } ∧
                t.link = { s.link with status := t.link.status } ∧ StatusQueued t ∧ PortKept s t ∧
                SameBut [.link, .clu, .trc, .hpi] s t) ∧
            (others < floorLoad s → s.clu.bypOk.qual = true → s.clu.fb.qual ≠ .byp →
              ∃ t, exec (.stageInputQualified k) s = .next t ∧
                Raised [alarm .transferForced [6#8, byteOf s.link.station.val]] s t ∧
                TrcIs (switched .byp .forced (some (10000 * s.hpi.floor.hold))) t ∧
                t.clu = { commanded .byp c₁ with horn := t.clu.horn, hornTimer := t.clu.hornTimer } ∧
                t.link = { s.link with urgent := s.link.urgent ++ [queued (.force 6#8)] } ∧ PortKept s t ∧
                SameBut [.link, .clu, .trc, .hpi] s t))))))) ∧
  (∀ s : State, Inv s → OnLine s → ClaimKept s →
    (let faulted := { s.clu with invFault := ⟨true, true, none⟩ }
     let commands := fun (mode : Sys2Proof.Mode) (c : Clu) (t : State) =>
       t.clu = { commanded mode c with horn := t.clu.horn, hornTimer := t.clu.hornTimer }
     let hold := some (10000 * s.hpi.floor.hold)
     (s.clu.invFault.timer = some 0 → s.clu.invFault.raw = true →
       (s.trc.activity = .none → s.trc.ownMode = .inv → s.lva = none → s.tsq.state.inProgress = false →
         isolatedFlag s = false → s.link.urgent.length < 2 →
         (floorLoad s ≤ carriedByOthers s → s.clu.fb.qual ≠ .off →
           ∃ t, exec (.stageInputQualified .invFault) s = .next t ∧ t.vsm = followedUp s ∧
             Raised (alarm .dropout (dropoutFigures s) :: followupTold Config.dropoutCauseCode s) s t ∧
             TrcIs (switchEntered .off .dropout s.trc.holdTimer s) t ∧ commands .off faulted t ∧
             t.link = { s.link with status := t.link.status } ∧ StatusQueued t ∧ PortKept s t ∧
             SameBut [.link, .clu, .trc, .vsm, .hpi] s t) ∧
         (∀ target : Sys2Proof.Mode, carriedByOthers s < floorLoad s →
           target = (if s.clu.bypOk.qual then .byp else .off) → s.clu.fb.qual ≠ target.feedback →
           ∃ t, exec (.stageInputQualified .invFault) s = .next t ∧ t.vsm = followedUp s ∧
             Raised ([alarm .transferForced [6#8, byteOf s.link.station.val]]
               ++ (if s.clu.bypOk.qual then [] else [alarm .loadAtRisk [byteOf s.link.station.val]])
               ++ followupTold 6#8 s) s t ∧
             TrcIs (switchEntered target .forced hold s) t ∧ commands target faulted t ∧
             t.link = { s.link with urgent := s.link.urgent ++ [queued (.force 6#8)] } ∧ PortKept s t ∧
             SameBut [.link, .clu, .trc, .vsm, .hpi] s t)) ∧
       (∀ origin : Origin, s.trc.activity = .switching .inv origin → s.clu.fb.qual ≠ .off →
         ∃ t, exec (.stageInputQualified .invFault) s = .next t ∧ t.vsm = followedUp s ∧
           Raised (alarm .dropout [] :: followupTold Config.dropoutCauseCode s) s t ∧
           TrcIs { s.trc with
             activity := .switching .off .dropout, proposal := none, executing := none, switchTimer := some 400
             overloadTimer := none } t ∧ commands .off faulted t ∧ t.link = s.link ∧ PortKept s t ∧
           SameBut [.clu, .trc, .vsm, .hpi] s t)) ∧
     (s.clu.overload.timer = some 0 → s.clu.overload.raw = true → s.hpi.floor.overloadTol = 0 →
       s.trc.activity = .none → s.trc.ownMode = .inv → s.lva = none → s.tsq.state.inProgress = false →
       isolatedFlag s = false → s.link.urgent.length < 2 → s.clu.bypOk.qual = true → s.clu.fb.qual ≠ .byp →
       ∃ t, exec (.stageInputQualified .overload) s = .next t ∧
         Raised [alarm .transferForced [2#8, byteOf s.link.station.val]] s t ∧
         TrcIs (switchEntered .byp .forced hold s) t ∧
         commands .byp { s.clu with overload := ⟨true, true, none⟩ } t ∧
         t.link = { s.link with urgent := s.link.urgent ++ [queued (.force 2#8)] } ∧ PortKept s t ∧
         SameBut [.link, .clu, .trc, .hpi] s t))) ∧
  (∀ s : State, Inv s → OnLine s → RunHoldsClaim s → (s.tsq.state.inProgress = false → ClaimKept s) →
    s.clu.invFault.timer = some 0 → s.clu.invFault.raw = true → s.trc.ownMode = .inv → isolatedFlag s = false →
    (∀ (m : Sys2Proof.Mode) (o : Origin), s.trc.activity ≠ .switching m o ∧ s.trc.activity ≠ .mismatch m o) →
    s.link.urgent.length < 2 → s.link.coord.length < 8 →
    (let faulted := { s.clu with invFault := ⟨true, true, none⟩ }
     let commands := fun (mode : Sys2Proof.Mode) (t : State) =>
       t.clu = { commanded mode (wdOver s faulted) with horn := t.clu.horn, hornTimer := t.clu.hornTimer }
     let released := runReleased s (planDropped s)
     let kept := fun (t : State) => t.vsm = followedUp s ∧ RunOver .forced s t ∧ PortKept s t ∧
       SameBut [.link, .lva, .tsq, .clu, .trc, .vsm, .hpi] s t
     (floorLoad s ≤ carriedByOthers s → s.clu.fb.qual ≠ .off →
       ∃ t, exec (.stageInputQualified .invFault) s = .next t ∧ kept t ∧
         Raised (planTold .fault s ++ [alarm .dropout (dropoutFigures s)] ++ runOverTold .forced s
           ++ followupTold Config.dropoutCauseCode s) s t ∧
         TrcIs (switchEntered .off .dropout s.trc.holdTimer s) t ∧ commands .off t ∧
         t.link = { released with status := t.link.status } ∧ StatusQueued t) ∧
     (∀ target : Sys2Proof.Mode, carriedByOthers s < floorLoad s →
       target = (if s.clu.bypOk.qual then .byp else .off) → s.clu.fb.qual ≠ target.feedback →
       ∃ t, exec (.stageInputQualified .invFault) s = .next t ∧ kept t ∧
         Raised (planTold .fault s ++ [alarm .transferForced [6#8, byteOf s.link.station.val]]
           ++ runOverTold .forced s
           ++ (if s.clu.bypOk.qual then [] else [alarm .loadAtRisk [byteOf s.link.station.val]])
           ++ followupTold 6#8 s) s t ∧
         TrcIs (switchEntered target .forced (some (10000 * s.hpi.floor.hold)) s) t ∧ commands target t ∧
         t.link = { released with
           urgent := s.link.urgent ++ [queued (.force 6#8)], status := t.link.status } ∧
         (s.tsq.state.inProgress = true → StatusQueued t) ∧
         (s.tsq.state.inProgress = false → t.link.status = s.link.status))))

/-- A contact that has been qualified raises CONTACT_CHANGE first (R47). In CONFIGURING nothing follows; in
RUNNING the interlock checks of R164 follow, then the open visit by its state (R155, R158), then the force for
a MAINT that closes onto INV (R107). The order of the interlock, the visit and the force is log entry 15, the two zero
cause bytes of VISIT_STATE are log entry 11; a timer that has not ended changes nothing (log entry 4). That the
output-opened flag is clear at the entry to MAINT_ON with OUTPUT open already is log entry 20.

Contacts in RESTORING and in MAINT_ON (R156, R158, R164). In RESTORING one of the three breakers that opens stops
the retry timer; any other change asks for JOIN where all three are closed and none was taken: refused, the retry
timer starts and the first refusal of the visit is told, taken, the station switches. In MAINT_ON the state stays: an
OUTPUT that opens sets its flag, and a MAINT that opens while OUTPUT is open raises INTERLOCK
MAINT_OPEN_OUTPUT_OPEN. The order of INTERLOCK and the visit is log entry 15, the cause bytes are log entry 11.

A visit in OPEN, REQUESTED or ISOLATED keeps its state at every contact, as one in ISOLATING does at any but an
OUTPUT that opens and one in MAINT_WAIT at any but a MAINT that closes: the change is told and the interlocks are
checked (R47, R152, R153, R155, R164). A MAINT that closes onto INV is told, raises INTERLOCK, moves the visit by its
state and forces the floor (R107): one in MAINT_WAIT is then in MAINT_ON, one in RESTORING with the three breakers
closed has its JOIN refused WRONG_MODE, the others stand. An isolated station announces the force and does not switch
(R103); any other switches, its run ended with FORCED, the in-progress fields blank (log entry 20). The order of these
events is log entry 15. -/
def Obligations.ContactChangeIsTaken : Prop :=
  (∀ (k : Contact) (s : State), Inv s →
    ((s.clu.contactLine k).timer ≠ some 0 → exec (.contactQualified k) s = .next s) ∧
    ((s.clu.contactLine k).timer = some 0 →
      (let closed := (s.clu.contactLine k).raw
       let c₁ := s.clu.contact k (fun _ => ⟨closed, closed, none⟩)
       let changed := info .contactChange [match k with
         | .input => 1#8 | .bypassIn => 2#8 | .output => 3#8 | .battery => 4#8 | .maint => 5#8, level closed]
       let lines := fun (t : State) => t.clu = { c₁ with horn := t.clu.horn, hornTimer := t.clu.hornTimer }
       (s.hpi.running = false → ∃ t, exec (.contactQualified k) s = .next t ∧ Raised [changed] s t ∧ lines t ∧
         PortKept s t ∧ SameBut [.clu, .hpi] s t) ∧
       (s.hpi.running = true → ClaimKept s → s.vsm.visit = none → ¬ (k = .maint ∧ closed = true ∧ s.trc.ownMode = .inv) →
         ∃ t, exec (.contactQualified k) s = .next t ∧ lines t ∧ TrcIs s.trc t ∧ PortKept s t ∧
           SameBut [.clu, .trc, .hpi] s t ∧
           Raised ([changed] ++
             if k = .bypassIn ∧ closed = false ∧ s.trc.ownMode = .byp then
               [alarm .interlock [3#8, byteOf s.trc.ownMode.code]]
             else if k = .battery ∧ closed = false ∧ ownSource s = .battery then
               [alarm .interlock [4#8, byteOf s.trc.ownMode.code]]
             else if k = .output ∧ closed = false ∧ s.trc.ownMode ≠ .off then
               [notice .interlock [5#8, byteOf s.trc.ownMode.code]]
             else []) s t) ∧
       (s.hpi.running = true → s.vsm.visit = none → k = .maint → closed = true → s.trc.ownMode = .inv →
         s.lva = none → s.trc.activity = .none → s.tsq.state.inProgress = false → s.link.urgent.length < 2 →
         s.clu.bypOk.qual = true → s.clu.fb.qual ≠ .byp →
         ∃ t, exec (.contactQualified k) s = .next t ∧
           Raised [changed, alarm .interlock [1#8, byteOf s.trc.ownMode.code],
             alarm .transferForced [5#8, byteOf s.link.station.val]] s t ∧
           t.link = { s.link with urgent := s.link.urgent ++ [queued (.force 5#8)] } ∧
           TrcIs { s.trc with
             activity := .switching .byp .forced, proposal := none, executing := none, switchTimer := some 400
             holdTimer := some (10000 * s.hpi.floor.hold), overloadTimer := none
             splits := Vector.replicate 16 0 } t ∧
           t.clu = { commanded .byp c₁ with horn := t.clu.horn, hornTimer := t.clu.hornTimer } ∧
           PortKept s t ∧ SameBut [.link, .clu, .trc, .hpi] s t) ∧
       (∀ v : Visit, s.hpi.running = true → s.vsm.visit = some v → v.kind = .isolation → v.state = .isolating →
         k = .output → closed = false →
         (∀ c : Claim, s.lva = some c → c.kind = .service ∧ c.granted = true ∧ v.claimed = true) →
         ∃ t, exec (.contactQualified k) s = .next t ∧ lines t ∧
           t.lva = s.lva.map (fun c => { c with fixed := true }) ∧
           (let v₁ := { v with state := .isolated, stepTimer := none }
            t.vsm = { s.vsm with visit := some v₁ }) ∧
           Raised [changed, visitTold v .isolated] s t ∧ TrcIs s.trc t ∧ PortKept s t ∧
           SameBut [.vsm, .lva, .clu, .trc, .hpi] s t) ∧
       (∀ v : Visit, s.hpi.running = true → s.vsm.visit = some v → v.state = .maintWait → ClaimKept s → k = .maint →
         closed = true → s.trc.ownMode ≠ .inv →
         ∃ t, exec (.contactQualified k) s = .next t ∧ lines t ∧
           (let v₁ := { v with state := .maintOn, outputOpened := false }
            t.vsm = { s.vsm with visit := some v₁ }) ∧
           Raised [changed, visitTold v .maintOn] s t ∧ TrcIs s.trc t ∧ PortKept s t ∧
           SameBut [.vsm, .clu, .trc, .hpi] s t)))) ∧
  (∀ (k : Contact) (v : Visit) (s : State), Inv s → OnLine s → ClaimKept s → s.vsm.visit = some v →
    (s.clu.contactLine k).timer = some 0 →
    (let closed := (s.clu.contactLine k).raw
     let c₁ := s.clu.contact k (fun _ => ⟨closed, closed, none⟩)
     let s₁ := { s with clu := c₁ }
     let changed := info .contactChange [match k with
       | .input => 1#8 | .bypassIn => 2#8 | .output => 3#8 | .battery => 4#8 | .maint => 5#8, level closed]
     let kept := fun (t : State) =>
       t.clu = { c₁ with horn := t.clu.horn, hornTimer := t.clu.hornTimer } ∧ TrcIs s.trc t ∧ PortKept s t ∧
         SameBut [.vsm, .clu, .trc, .hpi] s t
     let visitIs := fun (v₁ : Visit) (t : State) => t.vsm = { s.vsm with visit := some v₁ }
     let three := c₁.input.qual && c₁.battery.qual && c₁.output.qual
     ¬ (k = .maint ∧ closed = true ∧ s.trc.ownMode = .inv) →
     (v.state = .restoring →
       (closed = false → (k = .input ∨ k = .battery ∨ k = .output) →
         ∃ t, exec (.contactQualified k) s = .next t ∧ kept t ∧ visitIs { v with retryTimer := none } t ∧
           Raised (changed :: interlockTold k closed s₁) s t) ∧
       ((closed = true ∨ k = .bypassIn ∨ k = .maint) →
         (three = false ∨ v.joinRequested = true →
           ∃ t, exec (.contactQualified k) s = .next t ∧ kept t ∧ visitIs v t ∧
             Raised (changed :: interlockTold k closed s₁) s t) ∧
         (three = true → v.joinRequested = false →
           (∀ r : Reason, firstFailing ((joinChecks s₁).drop 1) = some r →
             ∃ t, exec (.contactQualified k) s = .next t ∧ kept t ∧
               visitIs { v with retryTimer := some 10000, joinRefused := true } t ∧
               Raised (changed :: interlockTold k closed s₁ ++ if v.joinRefused then [] else
                 [info .visitState (be16 (BitVec.ofNat 16 v.number) ++ [5#8, 1#8, byteOf r.code])]) s t) ∧
           (firstFailing ((joinChecks s₁).drop 1) = none → c₁.fb.qual ≠ (floorModeFor s).feedback →
             ∃ t, exec (.contactQualified k) s = .next t ∧
               visitIs { v with joinRequested := true, retryTimer := none } t ∧
               TrcIs (joining (floorModeFor s) s) t ∧
               t.clu = { commanded (floorModeFor s) c₁ with horn := t.clu.horn, hornTimer := t.clu.hornTimer } ∧
               Raised (changed :: interlockTold k closed s₁) s t ∧ PortKept s t ∧
               SameBut [.vsm, .clu, .trc, .hpi] s t)))) ∧
     (v.state = .maintOn →
       ∃ t, exec (.contactQualified k) s = .next t ∧ kept t ∧
         visitIs (if k = .output ∧ closed = false then { v with outputOpened := true } else v) t ∧
         Raised (changed :: interlockTold k closed s₁) s t))) ∧
  (∀ (k : Contact) (v : Visit) (s : State), Inv s → OnLine s → s.vsm.visit = some v →
    (s.clu.contactLine k).timer = some 0 →
    (let closed := (s.clu.contactLine k).raw
     let c₁ := s.clu.contact k (fun _ => ⟨closed, closed, none⟩)
     let s₁ := { s with clu := c₁ }
     let changed := info .contactChange [match k with
       | .input => 1#8 | .bypassIn => 2#8 | .output => 3#8 | .battery => 4#8 | .maint => 5#8, level closed]
     let ontoInv := k = .maint ∧ closed = true ∧ s.trc.ownMode = .inv
     let stands := v.state = .opened ∨ v.state = .requested ∨ v.state = .isolated
       ∨ v.state = .isolating ∧ ¬ (k = .output ∧ closed = false)
       ∨ v.state = .maintWait ∧ ¬ (k = .maint ∧ closed = true)
     let three := c₁.input.qual && c₁.battery.qual && c₁.output.qual
     let asks := v.state = .restoring ∧ three = true ∧ v.joinRequested = false
     let v₁ : Visit :=
       if v.state = .maintWait then { v with state := .maintOn, outputOpened := false }
       else if asks then { v with retryTimer := some 10000, joinRefused := true } else v
     let told := changed :: alarm .interlock [1#8, 1#8] ::
       ((if v.state = .maintWait then [visitTold v .maintOn]
         else if asks ∧ v.joinRefused = false then
           [info .visitState (be16 (BitVec.ofNat 16 v.number) ++ [5#8, 1#8, byteOf Reason.wrongMode.code])]
         else []) ++ [alarm .transferForced [5#8, byteOf s.link.station.val]])
     (¬ ontoInv → stands → ClaimKept s₁ →
       ∃ t, exec (.contactQualified k) s = .next t ∧ Raised (changed :: interlockTold k closed s₁) s t ∧
         t.clu = { c₁ with horn := t.clu.horn, hornTimer := t.clu.hornTimer } ∧ TrcIs s.trc t ∧ PortKept s t ∧
         SameBut [.clu, .trc, .hpi] s t) ∧
     (ontoInv → s.link.urgent.length < 2 → isolatedFlag s = true → ClaimKept s₁ →
       ∃ t, exec (.contactQualified k) s = .next t ∧ Raised told s t ∧ t.vsm = { s.vsm with visit := some v₁ } ∧
         t.link = { s.link with urgent := s.link.urgent ++ [queued (.force 5#8)] } ∧
         t.clu = { c₁ with horn := t.clu.horn, hornTimer := t.clu.hornTimer } ∧ TrcIs s.trc t ∧ PortKept s t ∧
         SameBut [.link, .clu, .trc, .vsm, .hpi] s t) ∧
     (∀ target : Sys2Proof.Mode, ontoInv → s.link.urgent.length < 2 → isolatedFlag s = false →
       s.trc.activity = .none → RunHoldsClaim s → s.link.coord.length < 8 →
       (s.tsq.state.inProgress = false → ClaimKept s₁) →
       target = (if s.clu.bypOk.qual then .byp else .off) → s.clu.fb.qual ≠ target.feedback →
       ∃ t, exec (.contactQualified k) s = .next t ∧
         Raised (told ++ runOverTold .forced s
           ++ if s.clu.bypOk.qual then [] else [alarm .cannotFollow [byteOf s.link.station.val]]) s t ∧
         t.vsm = { s.vsm with visit := some v₁ } ∧ RunOver .forced s t ∧
         t.link = { runReleased s s.link with
           urgent := s.link.urgent ++ [queued (.force 5#8)], status := t.link.status } ∧
         (s.tsq.state.inProgress = true → StatusQueued t) ∧
         (s.tsq.state.inProgress = false → t.link.status = s.link.status) ∧
         TrcIs (switchEntered target .forced (some (10000 * s.hpi.floor.hold)) s) t ∧
         t.clu = { commanded target (wdOver s c₁) with horn := t.clu.horn, hornTimer := t.clu.hornTimer } ∧
         PortKept s t ∧ SameBut [.link, .lva, .tsq, .clu, .trc, .vsm, .hpi] s t)))

/-- Feedback that has been qualified (R41, R85, R87 to R89). In CONFIGURING the own mode follows it. In RUNNING
feedback that differs from the target of a switch or a mismatch does nothing, and feedback that equals it ends either
alike (R87, R88): TRANSFER_DONE for a planned one (R99), for a JOIN the COMPLETED closure of the visit in RESTORING that
asked for it, its SERVICE claim released first (R126, R156, R163), and no event where no such visit stands. A change of
own mode queues a STATUS. Where the own mode becomes INV under an active OVERLOAD the overload timer starts, and with
a tolerance of 0 the floor is forced (R104); under a closed MAINT INTERLOCK is raised and the floor forced (R107, R164).

With no switch in progress feedback is unsolicited, and a planned activity stands or is dropped with no event (R89,
R100). A change from INV to BYP forces the floor with cause STAGE_TRANSFER; one from INV to OFF is an inverter fault
(R106), which drops a planned activity with reason FAULT: the station drops out, and its switch to OFF ends at once, or
it forces the floor, without BYP-OK at OFF with LOAD_AT_RISK (R103). Each of them ends a run in progress with FORCED
(R138). A change to the mode command is the stage returning, and any other is a MISMATCH, for which R89 names no detail
(R183).

A timer that has not ended changes nothing (log entry 4). The dropout cause byte is log entry 10, the order of OVERLOAD
and MAINT, of INTERLOCK and its force and of the DUE_RAISED of a force is log entry 15, the own number in the detail of LOAD_AT_RISK is log entry 16,
the figures of DROPOUT are log entry 18, the blank in-progress fields of a run are log entry 20, an ORDER withdrawn
without a CANCEL is log entry 25, the two zero cause bytes of VISIT_STATE are log entry 11. -/
def Obligations.FeedbackIsTaken : Prop :=
  (∀ s : State, Inv s →
    (s.clu.fb.timer ≠ some 0 → exec .feedbackQualified s = .next s) ∧
    (s.clu.fb.timer = some 0 → s.hpi.running = false →
      (let after := rawFeedback s.clu.fb
       exec .feedbackQualified s = .next
         { s with
           clu := { s.clu with fb := { s.clu.fb with qual := after, timer := none } }
           trc := { s.trc with ownMode := match after with
             | .inv => .inv | .byp => .byp | .off => .off | .invalid => .off } }))) ∧
  (∀ (target : Sys2Proof.Mode) (origin : Origin) (id : PropId) (dir : Direction) (s : State),
    Inv s → s.hpi.running = true → s.link.attempt = none → s.clu.fb.timer = some 0 →
    (s.trc.activity = .switching target origin ∨ s.trc.activity = .mismatch target origin) →
    (let after := rawFeedback s.clu.fb
     let c₁ := { s.clu with fb := { s.clu.fb with qual := after, timer := none } }
     let inverts := target = .inv ∧ s.trc.ownMode ≠ .inv
     let leaves := s.trc.ownMode = .inv ∧ target ≠ .inv
     let visit := joinedVisit origin s
     let causes := if inverts then causesAtInv s else []
     let away : Sys2Proof.Mode := if s.clu.bypOk.qual then .byp else .off
     let ended : Trc := { s.trc with
       ownMode := target, activity := .none, switchTimer := none
       executing := if origin = .planned then none else s.trc.executing
       overloadTimer :=
         if leaves then none
         else if inverts ∧ s.clu.overload.qual = true then some (10000 * s.hpi.floor.overloadTol)
         else s.trc.overloadTimer
       splits := if leaves then Vector.replicate 16 0 else s.trc.splits }
     (after ≠ target.feedback → ClaimKept s →
       ∃ t, exec .feedbackQualified s = .next t ∧ t.clu = c₁ ∧ TrcIs s.trc t ∧ SameBut [.clu, .trc] s t) ∧
     (after = target.feedback → (origin = .planned → s.trc.executing = some (id, dir)) →
       (visit = none → ClaimKept { s with trc := { s.trc with ownMode := target } }) →
       (visit ≠ none → s.link.coord.length < 8 ∧ ∀ c ∈ s.lva, c.kind = .service ∧ c.granted = true) →
       (causes ≠ [] → s.link.urgent.length + causes.length ≤ 2 ∧ s.tsq.state.inProgress = false ∧
         (visit = none → isolatedFlag s = false ∧ ∀ c ∈ s.lva, c.kind = .service)) →
       ∃ t, exec .feedbackQualified s = .next t ∧
         Raised (endTold target origin id dir s ++ causes.flatMap fun c => forceTold c s) s t ∧
         EndReported origin s t ∧
         t.link = { s.link with
           urgent := s.link.urgent ++ causes.map fun c => queued (.force (byteOf c.code))
           coord := coordAtEnd origin s, status := t.link.status } ∧
         (s.trc.ownMode ≠ target ∨ visit ≠ none → StatusQueued t) ∧
         (s.trc.ownMode = target → visit = none → t.link.status = s.link.status) ∧
         TrcIs (if causes = [] then ended
           else switchEntered away .forced (some (10000 * s.hpi.floor.hold)) { s with trc := ended }) t ∧
         t.clu = { (if causes = [] then c₁ else commanded away c₁) with
           horn := t.clu.horn, hornTimer := t.clu.hornTimer } ∧
         PortKept s t ∧ SameBut [.vsm, .bau, .lva, .link, .clu, .trc, .hpi] s t))) ∧
  (∀ s : State, Inv s → s.hpi.running = true → s.link.attempt = none → s.clu.fb.timer = some 0 →
    (∀ (m : Sys2Proof.Mode) (o : Origin), s.trc.activity ≠ .switching m o ∧ s.trc.activity ≠ .mismatch m o) →
    (let after := rawFeedback s.clu.fb
     let c₁ := { s.clu with fb := { s.clu.fb with qual := after, timer := none } }
     let keptIn := fun (own : Sys2Proof.Mode) => ClaimKept { s with trc := { s.trc with ownMode := own } }
     ¬ (s.clu.fb.qual = .inv ∧ (after = .byp ∨ after = .off)) →
     (after ≠ s.clu.modeCmd.feedback → ClaimKept s →
       ∃ t, exec .feedbackQualified s = .next t ∧ Raised [alarm .mismatch []] s t ∧
         TrcIs { s.trc with
           activity := .mismatch s.clu.modeCmd .stage, splits := Vector.replicate 16 0
           proposal := if s.trc.activity = .none then s.trc.proposal else none } t ∧
         t.link = planDropped s ∧ t.clu = { c₁ with horn := t.clu.horn, hornTimer := t.clu.hornTimer } ∧
         PortKept s t ∧ SameBut [.link, .clu, .trc, .hpi] s t) ∧
     (after = s.clu.modeCmd.feedback → s.trc.ownMode = s.clu.modeCmd → ClaimKept s →
       ∃ t, exec .feedbackQualified s = .next t ∧ t.clu = c₁ ∧ TrcIs s.trc t ∧ SameBut [.clu, .trc] s t) ∧
     (after = s.clu.modeCmd.feedback → s.trc.ownMode ≠ s.clu.modeCmd → keptIn s.clu.modeCmd →
       (s.clu.modeCmd = .inv → s.clu.overload.qual = false) →
       ∃ t, exec .feedbackQualified s = .next t ∧ t.clu = c₁ ∧
         TrcIs { s.trc with
           ownMode := s.clu.modeCmd
           overloadTimer := if s.trc.ownMode = .inv then none else s.trc.overloadTimer
           splits := if s.trc.ownMode = .inv then Vector.replicate 16 0 else s.trc.splits } t ∧
         t.link = { s.link with status := t.link.status } ∧ StatusQueued t ∧
         SameBut [.link, .clu, .trc] s t))) ∧
  (∀ s : State, Inv s → s.hpi.running = true → s.link.attempt = none → s.clu.fb.timer = some 0 →
    (∀ (m : Sys2Proof.Mode) (o : Origin), s.trc.activity ≠ .switching m o ∧ s.trc.activity ≠ .mismatch m o) →
    s.clu.fb.qual = .inv → s.trc.ownMode = .inv → isolatedFlag s = false → RunHoldsClaim s →
    s.link.urgent.length < 2 → (s.tsq.state.inProgress = true → s.link.coord.length < 8) →
    (let after := rawFeedback s.clu.fb
     let c₁ := { s.clu with fb := { s.clu.fb with qual := after, timer := none } }
     let hold := some (10000 * s.hpi.floor.hold)
     let own := byteOf s.link.station.val
     let released := runReleased s (planDropped s)
     let keptIn := fun (own : Sys2Proof.Mode) => s.tsq.state.inProgress = false →
       ClaimKept { s with trc := { s.trc with ownMode := own } }
     let arrived := fun (mode : Sys2Proof.Mode) (hold : Option Ticks) (t : State) =>
       TrcIs { s.trc with
         ownMode := mode, activity := .none, proposal := none, executing := none, switchTimer := none
         holdTimer := hold, overloadTimer := none, splits := Vector.replicate 16 0 } t ∧ StatusQueued t
     let under := fun (mode : Sys2Proof.Mode) (t : State) =>
       TrcIs (switchEntered mode .forced hold s) t ∧
         (s.tsq.state.inProgress = true → StatusQueued t) ∧
         (s.tsq.state.inProgress = false → t.link.status = s.link.status)
     let common := fun (mode : Sys2Proof.Mode) (t : State) =>
       t.vsm = followedUp s ∧ RunOver .forced s t ∧
         t.clu = { commanded mode (wdOver s c₁) with horn := t.clu.horn, hornTimer := t.clu.hornTimer } ∧
         PortKept s t ∧ SameBut [.link, .lva, .tsq, .clu, .trc, .vsm, .hpi] s t
     let forcing := fun (cause : Byte) (t : State) =>
       t.link = { released with urgent := s.link.urgent ++ [queued (.force cause)], status := t.link.status }
     (after = .byp → s.clu.bypOk.qual = true → keptIn .byp →
       ∃ t, exec .feedbackQualified s = .next t ∧ common .byp t ∧ forcing 3#8 t ∧ arrived .byp hold t ∧
         Raised ([alarm .transferForced [3#8, own]] ++ runOverTold .forced s ++ followupTold 3#8 s) s t) ∧
     (after = .byp → s.clu.bypOk.qual = false → keptIn .inv →
       ∃ t, exec .feedbackQualified s = .next t ∧ common .off t ∧ forcing 3#8 t ∧ under .off t ∧
         Raised ([alarm .transferForced [3#8, own]] ++ runOverTold .forced s ++ [alarm .cannotFollow [own]]
           ++ followupTold 3#8 s) s t) ∧
     (after = .off → floorLoad s ≤ carriedByOthers s → keptIn .off →
       ∃ t, exec .feedbackQualified s = .next t ∧ common .off t ∧
         t.link = { released with status := t.link.status } ∧ arrived .off s.trc.holdTimer t ∧
         Raised (planTold .fault s ++ [alarm .dropout (dropoutFigures s)] ++ runOverTold .forced s
           ++ followupTold Config.dropoutCauseCode s) s t) ∧
     (after = .off → carriedByOthers s < floorLoad s → s.clu.bypOk.qual = true → keptIn .inv →
       ∃ t, exec .feedbackQualified s = .next t ∧ common .byp t ∧ forcing 6#8 t ∧ under .byp t ∧
         Raised (planTold .fault s ++ [alarm .transferForced [6#8, own]] ++ runOverTold .forced s
           ++ followupTold 6#8 s) s t) ∧
     (after = .off → carriedByOthers s < floorLoad s → s.clu.bypOk.qual = false → keptIn .off →
       ∃ t, exec .feedbackQualified s = .next t ∧ common .off t ∧ forcing 6#8 t ∧ arrived .off hold t ∧
         Raised (planTold .fault s ++ [alarm .transferForced [6#8, own]] ++ runOverTold .forced s
           ++ [alarm .loadAtRisk [own]] ++ followupTold 6#8 s) s t)))

/-! ## Measurements and the account (R56 to R66, R71, R73) -/

/-- A valid frame (R56 to R66, R81): the sense state is LIVE and its silence over, with SENSE_RESTORED from
STALE and LOST; T_f is set or filtered. In RUNNING charge is counted and clamped, the float count kept with its
resync, the discharge remainder counted with a cycle penalty for each step, which may change health and raise
dues (R75, R79, R147), and runtime recomputed. -/
def Obligations.SenseFrameIsCounted : Prop :=
  ∀ (frame : List Byte) (f : SenseFrame) (s : State),
    Inv s → parseSenseFrame frame = .valid f → s.tsq.state.inProgress = false →
    let heard : Sns := ⟨.live, some f, some f.seq, some 0⟩
    (s.hpi.running = true → ClaimKept { s with sns := heard }) →
    ∃ t, exec (.validSenseFrame frame) s = .next t ∧ t.sns = heard ∧
      TrcIs s.trc t ∧ PortKept s t ∧ LinesKept s t ∧ SameBut [.sns, .bau, .vsm, .clu, .trc, .hpi] s t ∧
      (let restored := match s.sns.state with
         | .stale => [info .senseRestored [2#8, f.seq]]
         | .lost => [info .senseRestored [3#8, f.seq]]
         | .waiting => []
         | .live => []
       (s.hpi.running = false → t.bau = warmed f s ∧ t.vsm = s.vsm ∧ Raised restored s t) ∧
       (s.hpi.running = true → (f.i < 0 → 0 < dischargeStep s) →
         t.bau = frameCounted f s ∧ t.vsm = frameVsm f s ∧ Raised (restored ++ frameDues f s) s t))

/-- A valid frame that reaches a run in progress (R134, R136). In a step the last four frames, the lowest voltage and
the charge discharged are kept, m × (−I) of a negative current up to 2³² − 1; a voltage at or below the floor of a
DISCHARGE step is counted, one above it ends the count. In a pause, and in any state where the frame is a repeat, the
run does not take it. The account counts each frame first (R58). A frame with lost mains ends the run with MAINS_LOST
(R138); that it reaches the run before the claim is evaluated again is log entry 15, that the in-progress fields are
blank then log entry 20.

The second frame in a row at or below the floor of a DISCHARGE step ends the run with FLOOR_REACHED and verdict
WEAK (R136, R143): the frame is taken first (R134), the capture of the step is taken where its flag is set (R135),
the step is not counted, and the verdict goes to the account and to the dues (R78, R147, R149). The events are named
in full for a frame whose current is not negative; the source of DUE_CLEARED is log entry 9, the blank in-progress
fields are log entry 20. -/
def Obligations.RunningTestTakesFrame : Prop :=
  (∀ (frame : List Byte) (f : SenseFrame) (n : Nat) (c : Claim) (s : State),
    Inv s → OnLine s → parseSenseFrame frame = .valid f → s.sns.state = .live →
    s.lva = some c → c.kind = .test → c.granted = true → (f.i < 0 → 0 < dischargeStep s) →
    (let heard : Sns := ⟨.live, some f, some f.seq, some 0⟩
     let m := frameMultiplier f.seq s
     let taken := fun (tsq : Tsq) =>
       ∃ t, exec (.validSenseFrame frame) s = .next t ∧ t.tsq = tsq ∧ t.sns = heard ∧ t.bau = frameCounted f s ∧
         t.vsm = frameVsm f s ∧ Raised (frameDues f s) s t ∧ TrcIs s.trc t ∧ PortKept s t ∧ LinesKept s t ∧
         SameBut [.sns, .bau, .tsq, .vsm, .clu, .trc, .hpi] s t
     (f.mainsOk = true → TestClaimHeld c { s with sns := heard } →
       (∀ st : TestStep, s.tsq.state = .running n → s.tsq.profile[n - 1]? = some st → m ≠ 0 →
         (let below := decide (st.kind = .discharge ∧ 0 < st.floor ∧ f.v ≤ st.floor)
          (below = true → s.tsq.run.floorCount = 0) →
          (let run := { s.tsq.run with
             recent := (if s.tsq.run.recent.length < 4 then s.tsq.run.recent else s.tsq.run.recent.drop 1)
               ++ [(f.v, f.i)]
             minV := some (match s.tsq.run.minV with | some v => min v f.v | none => f.v)
             discharged := if f.i < 0 then min 4294967295 (s.tsq.run.discharged + m * f.i.natAbs)
               else s.tsq.run.discharged
             floorCount := if below then 1
               else if st.kind = .discharge ∧ 0 < st.floor then 0 else s.tsq.run.floorCount }
           taken { s.tsq with run := run }))) ∧
       (s.tsq.state = .paused n ∨ m = 0 → taken s.tsq)) ∧
     (f.mainsOk = false → m ≠ 0 → (s.tsq.state = .running n ∨ s.tsq.state = .paused n) →
       s.link.coord.length < 8 →
       ∃ t, exec (.validSenseFrame frame) s = .next t ∧ RunOver .mainsLost s t ∧ t.sns = heard ∧
         t.bau = frameCounted f s ∧ t.vsm = frameVsm f s ∧
         t.link = { runReleased s s.link with status := t.link.status } ∧ StatusQueued t ∧
         t.clu = { wdOver s s.clu with horn := t.clu.horn, hornTimer := t.clu.hornTimer } ∧
         Raised (frameDues f s ++ [runTold .mainsLost s]) s t ∧
         TrcIs s.trc t ∧ PortKept s t ∧ SameBut [.sns, .bau, .vsm, .tsq, .lva, .link, .clu, .trc, .hpi] s t))) ∧
  (∀ (frame : List Byte) (f : SenseFrame) (n : Nat) (st : TestStep) (c : Claim) (s : State),
    Inv s → OnLine s → parseSenseFrame frame = .valid f → s.tsq.state = .running n →
    s.tsq.profile[n - 1]? = some st → st.kind = .discharge → 0 < st.floor → f.v ≤ st.floor →
    s.tsq.run.floorCount = 1 → f.mainsOk = true → s.sns.state = .live → s.sns.lastSeq = some (f.seq - 1#8) →
    s.lva = some c → c.kind = .test → c.granted = true → s.link.coord.length < 8 →
    ∃ t, exec (.validSenseFrame frame) s = .next t ∧
      (let run := s.tsq.run
       let recent := (if run.recent.length < 4 then run.recent else run.recent.drop 1) ++ [(f.v, f.i)]
       let capture : Option Capture :=
         if st.capture then
           some ⟨n, (recent.map Prod.fst).sum / recent.length, (recent.map Prod.snd).sum.fdiv recent.length⟩
         else none
       let captures := run.captures ++ capture.toList
       let resistance := testResistance s.tsq.profile captures
       let term := match resistance, s.bau.carry.baseline with
         | some r, some b => if r ≤ b then 1000 else 1000 - 1000 * (r - b) / b
         | some _, none => 1000
         | none, _ => s.bau.carry.hTest
       let before := { s.vsm with dues := s.vsm.dues.filter fun d => decide (d.kind ≠ .testOverdue) }
       t.tsq = { s.tsq with
         state := .ended, run := RunRec.blank
         result := some
           { number := run.number, cause := .floorReached, single := run.single, completed := run.completed
             captures := captures, resistance := resistance
             discharged := if f.i < 0 then min 4294967295 (run.discharged + f.i.natAbs) else run.discharged
             minV := some (match run.minV with | some v => min v f.v | none => f.v), verdict := .weak } } ∧
       t.bau.carry.baseline = s.bau.carry.baseline ∧ t.bau.carry.hTest = min term s.hpi.cab.weakCap ∧
       t.bau.carry.verdict = .weak ∧ t.bau.carry.minTest = 0 ∧
       t.bau.h = healthOf t.bau.carry.u t.bau.carry.hTest s ∧ t.bau.weak = true ∧
       (0 ≤ f.i →
         (let told := { s with bau := t.bau, vsm := before }
          t.vsm = duesEvaluated told ∧
          Raised ([notice .testEnded
              (be16 (BitVec.ofNat 16 run.number) ++ [2#8, byteOf run.completed, 2#8])]
            ++ (if s.vsm.dues.any fun d => decide (d.kind = .testOverdue) then
                [notice .dueCleared (3#8 :: be16 Config.testSourceCode)] else [])
            ++ (duesRaised told).map (·.2)) s t))) ∧
      t.sns = ⟨.live, some f, some f.seq, some 0⟩ ∧ t.lva = none ∧
      t.link = released (some c) t.link.status s ∧ StatusQueued t ∧
      t.clu = { s.clu with testWd := false, horn := t.clu.horn, hornTimer := t.clu.hornTimer } ∧
      TrcIs s.trc t ∧ PortKept s t ∧ SameBut [.sns, .bau, .tsq, .lva, .link, .clu, .vsm, .trc, .hpi] s t)

/-- Silence of 1 s takes LIVE to STALE, with the float count at 0, and of 10 s takes STALE to LOST, where the
timer stops; each is told with the last valid sequence (R57, R65). The entry to STALE ends a run in CLAIMING, RUNNING
or PAUSED with SENSE_STALE (R138): its claim is released, its result filled with no verdict (R126, R140, R141). That
the in-progress fields are blank then is log entry 20. A row whose silence has not lasted changes nothing (log entry
4). -/
def Obligations.SilenceTakesSenseToLost : Prop :=
  ∀ s : State, Inv s →
    (s.sns.state = .live → (∃ n, s.sns.silence = some n ∧ 10000 ≤ n) → ClaimKept s →
      s.tsq.state.inProgress = false →
      ∃ t, exec .senseStaleTimeout s = .next t ∧ t.sns = { s.sns with state := .stale } ∧
        t.bau = { s.bau with floatCount := 0 } ∧
        Raised [notice .senseStale s.sns.lastSeq.toList] s t ∧ TrcIs s.trc t ∧ PortKept s t ∧
        LinesKept s t ∧ SameBut [.sns, .bau, .clu, .trc, .hpi] s t) ∧
    (s.sns.state = .live → (∃ n, s.sns.silence = some n ∧ 10000 ≤ n) → s.tsq.state.inProgress = true →
      RunHoldsClaim s → OnLine s → s.link.coord.length < 8 →
      ∃ t, exec .senseStaleTimeout s = .next t ∧ t.sns = { s.sns with state := .stale } ∧
        t.bau = { s.bau with floatCount := 0 } ∧ RunOver .senseStale s t ∧
        t.link = { runReleased s s.link with status := t.link.status } ∧ StatusQueued t ∧
        t.clu = { wdOver s s.clu with horn := t.clu.horn, hornTimer := t.clu.hornTimer } ∧
        Raised [notice .senseStale s.sns.lastSeq.toList, runTold .senseStale s] s t ∧ TrcIs s.trc t ∧ PortKept s t ∧
        SameBut [.sns, .bau, .tsq, .lva, .link, .clu, .trc, .hpi] s t) ∧
    ((s.sns.state ≠ .live ∨ s.sns.silence = none ∨ (∃ n, s.sns.silence = some n ∧ n < 10000)) →
      exec .senseStaleTimeout s = .next s) ∧
    (s.sns.state = .stale → (∃ n, s.sns.silence = some n ∧ 100000 ≤ n) → ClaimKept s →
      ∃ t, exec .senseLostTimeout s = .next t ∧
        t.sns = { s.sns with state := .lost, silence := none } ∧
        Raised [alarm .senseLost s.sns.lastSeq.toList] s t ∧ TrcIs s.trc t ∧ PortKept s t ∧
        LinesKept s t ∧ SameBut [.sns, .clu, .trc, .hpi] s t) ∧
    ((s.sns.state ≠ .stale ∨ s.sns.silence = none ∨ (∃ n, s.sns.silence = some n ∧ n < 100000)) →
      exec .senseLostTimeout s = .next s)

/-- An operating minute (R71, R73, R76 to R81, R147, R148): the counter, the weight of the band of T_f, the two
minute counts, health with the clamp of Q where it changed, the weak flag and runtime, and then the dues,
raised in the order of the kinds. All sums saturate. That the events and the dues of the minute carry the increased
count is log entry 15. The own claim is then evaluated again (R122): one that passes is kept with no event, a GRANTED
TEST claim that fails is lost, its run ends with MAINS_LOST or MARGIN_LOST and RELEASE is queued (R123, R125, R126,
R138), the in-progress fields blank by log entry 20. That this comes after the dues is log entry 15. A minute not yet
full changes nothing (log entry 4). -/
def Obligations.OperatingMinuteAges : Prop :=
  ∀ s : State, Inv s →
    ((s.hpi.running = false ∨ s.bau.divider < 600000000) → exec .operatingMinute s = .next s) ∧
    (s.hpi.running = true → 600000000 ≤ s.bau.divider →
      (let up := fun n : Nat => min 4294967295 n
       let u := up (s.bau.carry.u + weightOf s.bau.tf s)
       let h := healthOf u s.bau.carry.hTest s
       let q := if h = s.bau.h then s.bau.q else min s.bau.q (fullCharge h s)
       let s₁ := { s with bau := { s.bau with
         divider := s.bau.divider - 600000000, minutes := up (s.bau.minutes + 1)
         carry := { s.bau.carry with
           u := u, minTest := up (s.bau.carry.minTest + 1), minVisit := up (s.bau.carry.minVisit + 1) }
         hAge := 1000 - min 1000 (1000 * u / (s.hpi.cab.life * 8415360)), h := h, q := q
         weak := decide (h < s.hpi.cab.weakTh) || decide (s.bau.carry.verdict = .weak)
         runtime := runtimeFor q (ownLoad s) s } }
       let told := (duesRaised s₁).map (·.2)
       let aged := fun (t : State) =>
         t.bau = s₁.bau ∧ t.vsm = duesEvaluated s₁ ∧ TrcIs s.trc t ∧ PortKept s t
       (ClaimKept s →
         ∃ t, exec .operatingMinute s = .next t ∧ aged t ∧ Raised told s₁ t ∧ LinesKept s t ∧
           SameBut [.bau, .vsm, .clu, .trc, .hpi] s t) ∧
       (∀ (c : Claim) (r : Reason), OnLine s → s.link.coord.length < 8 → TestClaimFails c r s →
         ∃ t, exec .operatingMinute s = .next t ∧ aged t ∧ Raised (told ++ lossTold c r s) s₁ t ∧
           RunLost c r s.link s t ∧ SameBut [.bau, .vsm, .link, .lva, .tsq, .clu, .trc, .hpi] s t)))

/-! ## The terms of claims, runs and visits (R115 to R121, R135 to R140, R156, R157) -/

/-- The own claim at its terms: a CLAIM still queued at the end of its queue timer is denied LATE (R115); at
the end of its window the claim is judged on the own view, and granted or denied (R116, R121). A run enters
its first step at the grant and ends at the denial (R132), a visit closes CANCELLED at a denial (R153). The
cause bytes of VISIT_STATE follow log entry 11, and a term that has not ended changes nothing (log entry 4). -/
def Obligations.ClaimTermsDecide : Prop :=
  ∀ (c : Claim) (s : State), Inv s → OnLine s → s.lva = some c → c.granted = false →
    s.link.coord.length < 8 →
    (let kept := s.link.coord.filter fun e => decide (e.msg ≠ .claim c.kind c.time)
     let deniedRun := fun (reason : Reason) (coord : List TxEntry) (t : State) =>
       t.lva = none ∧ t.link = { s.link with coord := coord, status := t.link.status } ∧ StatusQueued t ∧
         t.tsq.state = .ended ∧ t.tsq.profile = s.tsq.profile ∧
         t.clu = { s.clu with testWd := false, horn := t.clu.horn, hornTimer := t.clu.hornTimer } ∧
         Raised [notice .claimDenied [1#8, byteOf reason.code, byteOf s.link.station.val],
           notice .testEnded (be16 (BitVec.ofNat 16 s.tsq.run.number)
             ++ [3#8, byteOf s.tsq.run.completed, 0#8])] s t ∧
         PortKept s t ∧ TrcIs s.trc t ∧ SameBut [.lva, .link, .clu, .tsq, .trc, .hpi] s t
     ((c.inWindow = true ∨ c.queueTimer ≠ some 0) → exec .claimQueueTimeout s = .next s) ∧
     ((c.inWindow = false ∨ c.windowTimer ≠ some 0) → exec .claimWindowExpiry s = .next s) ∧
     (c.inWindow = false → c.queueTimer = some 0 → c.kind = .test → s.tsq.state = .claiming →
       ∃ t, exec .claimQueueTimeout s = .next t ∧ deniedRun .late kept t) ∧
     (∀ v : Visit, c.inWindow = false → c.queueTimer = some 0 → c.kind = .service → s.vsm.visit = some v →
       v.state = .requested →
       ∃ t, exec .claimQueueTimeout s = .next t ∧ t.lva = none ∧
         t.link = { s.link with coord := kept, status := t.link.status } ∧ StatusQueued t ∧
         t.vsm = { s.vsm with visit := none, log := logged (logOf v .cancelled [] s) s.vsm.log } ∧
         Raised [notice .claimDenied [2#8, byteOf Reason.late.code, byteOf s.link.station.val],
           closureTold v .cancelled [1#8, byteOf Reason.late.code]] s t ∧
         PortKept s t ∧ LinesKept s t ∧ TrcIs s.trc t ∧ SameBut [.lva, .link, .clu, .vsm, .trc, .hpi] s t) ∧
     (∀ r : Reason, c.inWindow = true → c.windowTimer = some 0 → c.kind = .test → s.tsq.state = .claiming →
       leaveCheck s s.link.station .test c.time = some r →
       ∃ t, exec .claimWindowExpiry s = .next t ∧ deniedRun r s.link.coord t) ∧
     (∀ (v : Visit) (r : Reason), c.inWindow = true → c.windowTimer = some 0 → c.kind = .service →
       s.vsm.visit = some v → v.state = .requested → leaveCheck s s.link.station .service c.time = some r →
       ∃ t, exec .claimWindowExpiry s = .next t ∧ t.lva = none ∧
         t.link = { s.link with status := t.link.status } ∧ StatusQueued t ∧
         t.vsm = { s.vsm with visit := none, log := logged (logOf v .cancelled [] s) s.vsm.log } ∧
         Raised [notice .claimDenied [2#8, byteOf r.code, byteOf s.link.station.val],
           closureTold v .cancelled [1#8, byteOf r.code]] s t ∧
         PortKept s t ∧ LinesKept s t ∧ TrcIs s.trc t ∧ SameBut [.lva, .link, .clu, .vsm, .trc, .hpi] s t) ∧
     (∀ st : TestStep, c.inWindow = true → c.windowTimer = some 0 → c.kind = .test →
       s.tsq.state = .claiming → s.tsq.profile[0]? = some st →
       leaveCheck s s.link.station .test c.time = none →
       ∃ t, exec .claimWindowExpiry s = .next t ∧
         t.lva = some { c with granted := true, inWindow := false, windowTimer := none, queueTimer := none } ∧
         (let run := { s.tsq.run with
            recent := [], floorCount := 0, stepTimer := some (10000 * st.duration), pauseTimer := none }
          t.tsq = { s.tsq with state := .running 1, run := run }) ∧
         t.clu = { s.clu with
           testWd := decide (st.kind = .discharge), horn := t.clu.horn, hornTimer := t.clu.hornTimer } ∧
         Raised [notice .claimGranted ([1#8] ++ be32 c.time)] s t ∧
         t.link = { s.link with status := t.link.status } ∧ StatusQueued t ∧
         PortKept s t ∧ TrcIs s.trc t ∧ SameBut [.lva, .link, .clu, .tsq, .trc, .hpi] s t))

/-- The end of a step of a run (R133, R135, R137): the capture is taken, TEST_STEP tells of it, and the next step
is entered, or a single-step run pauses for 10 minutes. The last step, and the end of a pause, end the run
with PROFILE_DONE and PAUSE_TIMEOUT; of these two the first alone has a verdict, GOOD or WEAK (R140 to R143), which
goes to the record of the account and to the dues (R78, R149), whose events follow TEST_STEP and TEST_ENDED. The source
of DUE_CLEARED is log entry 9, the in-progress fields are blank after the end (log entry 20), a presence byte is 1 by
log entry 30, and a timer still running changes nothing (log entry 4).

The test resistance is that of the first pair, in profile order, of a REST step and the DISCHARGE step that follows
it for which both captures are held, 10,000 × ΔV ÷ ΔI rounded down and kept within 1 to 65535; it is absent where
ΔI is not above 0 or ΔV is below 0, whatever later pairs hold, and where no pair has both captures (R142). -/
def Obligations.TestStepTimerMovesRun : Prop :=
  (∀ (n : Nat) (st : TestStep) (c : Claim) (s : State), Inv s → OnLine s → TestClaimHeld c s →
    (s.tsq.state = .running n → s.tsq.run.stepTimer ≠ some 0 → exec .testStepTimerExpiry s = .next s) ∧
    (s.tsq.state = .paused n → s.tsq.run.pauseTimer ≠ some 0 → exec .pauseTimerExpiry s = .next s) ∧
    (s.tsq.state = .running n → s.tsq.run.stepTimer = some 0 → s.tsq.profile[n - 1]? = some st →
      (let recent := s.tsq.run.recent
       let capture : Option Capture :=
         if st.capture = true ∧ recent ≠ [] then
           some ⟨n, (recent.map Prod.fst).sum / recent.length, (recent.map Prod.snd).sum.fdiv recent.length⟩
         else none
       let captures := s.tsq.run.captures ++ capture.toList
       let told := info .testStep (be16 (BitVec.ofNat 16 s.tsq.run.number) ++ [byteOf n] ++
         match capture with
         | some x => [1#8] ++ be16 (BitVec.ofNat 16 x.v) ++ be16 (BitVec.ofInt 16 x.i)
         | none => [0#8, 0#8, 0#8, 0#8, 0#8])
       let run := { s.tsq.run with captures := captures, completed := s.tsq.run.completed + 1 }
       (∀ next : TestStep, s.tsq.profile[n]? = some next → s.tsq.run.single = false →
         ∃ t, exec .testStepTimerExpiry s = .next t ∧
           (let run₁ := { run with
              recent := [], floorCount := 0, stepTimer := some (10000 * next.duration), pauseTimer := none }
            t.tsq = { s.tsq with state := .running (n + 1), run := run₁ }) ∧
           t.clu = { s.clu with
             testWd := decide (next.kind = .discharge), horn := t.clu.horn, hornTimer := t.clu.hornTimer } ∧
           Raised [told] s t ∧ PortKept s t ∧ TrcIs s.trc t ∧ SameBut [.tsq, .clu, .trc, .hpi] s t) ∧
       (n < s.tsq.profile.length → s.tsq.run.single = true →
         ∃ t, exec .testStepTimerExpiry s = .next t ∧
           (let run₁ := { run with stepTimer := none, pauseTimer := some 6000000 }
            t.tsq = { s.tsq with state := .paused n, run := run₁ }) ∧
           t.clu = { s.clu with testWd := false, horn := t.clu.horn, hornTimer := t.clu.hornTimer } ∧
           Raised [told] s t ∧ PortKept s t ∧ TrcIs s.trc t ∧ SameBut [.tsq, .clu, .trc, .hpi] s t) ∧
       (s.tsq.profile.length ≤ n → s.link.coord.length < 8 →
         ∃ t, exec .testStepTimerExpiry s = .next t ∧
           (let resistance := testResistance s.tsq.profile captures
            let term := fun r : Nat => match s.bau.carry.baseline with
              | none => 1000
              | some b => if r ≤ b then 1000 else 1000 - 1000 * (r - b) / b
            let good : Bool := match resistance with
              | none => true
              | some r => decide (s.hpi.cab.weakTh ≤ term r)
            let baseline := if s.bau.carry.baseline = none ∧ good = true then resistance else s.bau.carry.baseline
            let fresh := fun r : Nat => match baseline with
              | none => 1000
              | some b => if r ≤ b then 1000 else 1000 - 1000 * (r - b) / b
            let term₁ := match resistance with | none => s.bau.carry.hTest | some r => fresh r
            t.tsq = { s.tsq with
              state := .ended, run := RunRec.blank
              result := some
                { number := s.tsq.run.number, cause := .profileDone, single := s.tsq.run.single
                  completed := s.tsq.run.completed + 1, captures := captures, resistance := resistance
                  discharged := s.tsq.run.discharged, minV := s.tsq.run.minV
                  verdict := if good then .good else .weak } } ∧
            t.bau.carry = { s.bau.carry with
              baseline := baseline, hTest := if good then term₁ else min term₁ s.hpi.cab.weakCap
              verdict := if good then .good else .weak, minTest := 0 } ∧
            t.bau.h = healthOf s.bau.carry.u t.bau.carry.hTest s ∧
            t.bau.weak = (decide (t.bau.h < s.hpi.cab.weakTh) || !good) ∧
            (let cleared := { s.vsm with dues := s.vsm.dues.filter fun d => decide (d.kind ≠ .testOverdue) }
             let judged := { s with bau := t.bau, vsm := cleared }
             t.vsm = duesEvaluated judged ∧
             Raised ([told, notice .testEnded (be16 (BitVec.ofNat 16 s.tsq.run.number)
                 ++ [1#8, byteOf (s.tsq.run.completed + 1), if good then 1#8 else 2#8])]
               ++ (if s.vsm.dues.any fun d => decide (d.kind = .testOverdue) then
                   [notice .dueCleared (3#8 :: be16 Config.testSourceCode)] else [])
               ++ (duesRaised judged).map (·.2)) s t)) ∧
           StatusQueued t ∧ t.lva = none ∧
           t.link = { s.link with
             coord := s.link.coord ++ [queued (.release .test c.time)], status := t.link.status } ∧
           t.clu = { s.clu with testWd := false, horn := t.clu.horn, hornTimer := t.clu.hornTimer } ∧
           PortKept s t ∧ TrcIs s.trc t ∧ SameBut [.tsq, .bau, .lva, .link, .clu, .vsm, .trc, .hpi] s t))) ∧
    (s.tsq.state = .paused n → s.tsq.run.pauseTimer = some 0 → s.link.coord.length < 8 →
      ∃ t, exec .pauseTimerExpiry s = .next t ∧
        t.tsq = { s.tsq with
          state := .ended, run := RunRec.blank
          result := some
            { number := s.tsq.run.number, cause := .pauseTimeout, single := s.tsq.run.single
              completed := s.tsq.run.completed, captures := s.tsq.run.captures
              resistance := testResistance s.tsq.profile s.tsq.run.captures
              discharged := s.tsq.run.discharged, minV := s.tsq.run.minV, verdict := .none } } ∧
        t.lva = none ∧
        t.link = { s.link with
          coord := s.link.coord ++ [queued (.release .test c.time)], status := t.link.status } ∧
        StatusQueued t ∧
        t.clu = { s.clu with testWd := false, horn := t.clu.horn, hornTimer := t.clu.hornTimer } ∧
        Raised [notice .testEnded
          (be16 (BitVec.ofNat 16 s.tsq.run.number) ++ [10#8, byteOf s.tsq.run.completed, 0#8])] s t ∧
        PortKept s t ∧ TrcIs s.trc t ∧ SameBut [.tsq, .lva, .link, .clu, .trc, .hpi] s t)) ∧
  (∀ (profile : List TestStep) (captures : List Capture),
    (let pair := fun (n : Nat) (x y : Capture) =>
       1 ≤ n ∧ (profile[n - 1]?).map (·.kind) = some .rest ∧ (profile[n]?).map (·.kind) = some .discharge ∧
         captures.find? (fun c => decide (c.step = n)) = some x ∧
         captures.find? (fun c => decide (c.step = n + 1)) = some y
     (∀ (n : Nat) (x y : Capture), pair n x y → (∀ (k : Nat) (x₁ y₁ : Capture), k < n → ¬ pair k x₁ y₁) →
       (let dV : Int := (x.v : Int) - (y.v : Int)
        let dI : Int := x.i - y.i
        ((dI ≤ 0 ∨ dV < 0) → testResistance profile captures = none) ∧
        (0 < dI → 0 ≤ dV →
          testResistance profile captures = some (max 1 (min 65535 (10000 * dV / dI))).toNat))) ∧
     ((∀ (n : Nat) (x y : Capture), ¬ pair n x y) → testResistance profile captures = none)))

/-- The timers of an ISOLATION visit. The step timer ends a visit in ISOLATING with a JOIN asked for, here one
that is refused, ABANDONED, and one in RESTORING STALLED; a SERVICE claim still held is released (R126, R157).
The retry timer asks for JOIN again while all three contacts are closed: refused, it runs again and the first
refusal of the visit is told; taken, the station switches (R156). The cause bytes of VISIT_STATE follow log
entry 11, and a timer that has not ended changes nothing (log entry 4). -/
def Obligations.VisitTimersMoveVisit : Prop :=
  ∀ (v : Visit) (s : State), Inv s → OnLine s → s.vsm.visit = some v →
    (v.stepTimer ≠ some 0 → exec .visitStepTimeout s = .next s) ∧
    (v.retryTimer ≠ some 0 → exec .joinRetryExpiry s = .next s) ∧
    ((∀ c : Claim, s.lva = some c → c.kind = .service ∧ c.granted = true) → v.stepTimer = some 0 →
      s.link.coord.length < 8 →
      (let closed := fun (outcome : VisitOutcome) (causes : List Byte) (t : State) =>
         t.lva = none ∧
           t.link = { s.link with
             coord := s.link.coord ++ (match s.lva with
               | some c => [queued (.release .service c.time)]
               | none => [])
             status := t.link.status } ∧ StatusQueued t ∧
           t.vsm = { s.vsm with visit := none, log := logged (logOf v outcome [] s) s.vsm.log } ∧
           Raised [closureTold v outcome causes] s t ∧ PortKept s t ∧ LinesKept s t ∧ TrcIs s.trc t ∧
           SameBut [.lva, .link, .vsm, .clu, .trc, .hpi] s t
       (∀ r : Reason, v.state = .isolating → firstFailing ((joinChecks s).drop 1) = some r →
         ∃ t, exec .visitStepTimeout s = .next t ∧ closed .abandoned [1#8, byteOf r.code] t) ∧
       (v.state = .restoring →
         ∃ t, exec .visitStepTimeout s = .next t ∧ closed .stalled [0#8, 0#8] t))) ∧
    (ClaimKept s → v.retryTimer = some 0 → v.state = .restoring → v.joinRequested = false →
      (s.clu.input.qual && s.clu.battery.qual && s.clu.output.qual) = true →
      (∀ r : Reason, firstFailing ((joinChecks s).drop 1) = some r →
        ∃ t, exec .joinRetryExpiry s = .next t ∧
          (let v₁ := { v with retryTimer := some 10000, joinRefused := true }
           t.vsm = { s.vsm with visit := some v₁ }) ∧
          Raised (if v.joinRefused then [] else
            [info .visitState (be16 (BitVec.ofNat 16 v.number)
              ++ [byteOf VisitState.restoring.code, 1#8, byteOf r.code])]) s t ∧
          PortKept s t ∧ LinesKept s t ∧ TrcIs s.trc t ∧ SameBut [.vsm, .clu, .trc, .hpi] s t) ∧
      (∀ target : Sys2Proof.Mode, firstFailing ((joinChecks s).drop 1) = none →
        target = (if s.ftu.align = .alone
            ∨ (∃ e ∈ s.peers, e.presence = .present ∧ e.report.mode = .inv) ∨ s.trc.lastKnown = some .inv
          then .inv else .byp) → s.clu.fb.qual ≠ target.feedback →
        ∃ t, exec .joinRetryExpiry s = .next t ∧
          (let v₁ := { v with retryTimer := none, joinRequested := true }
           t.vsm = { s.vsm with visit := some v₁ }) ∧
          TrcIs { s.trc with
            activity := .switching target .join, proposal := none, executing := none, switchTimer := some 400
            overloadTimer := if target = .inv then s.trc.overloadTimer else none
            splits := Vector.replicate 16 0 } t ∧
          t.clu = commanded target s.clu ∧ SameBut [.vsm, .trc, .clu] s t))

/-! ## Full queues, and the own claim when it is lost, yields or is granted (R13, R114 to R125) -/

/-- Where a request finds its queue full, nothing is queued (R13). LINK_CONGESTION tells of a discarded COORD
message once, until the queue drains; a FORCE is not queued again (R102). The blocks go on by their rules: an
OBJECT is not repeated (R96), nor is a CONSENT, whose station still follows (log entry 25), a PROPOSE not sent
ends its proposal with NOT_SENT (R92), a CLAIM not sent is denied with it, and the run that asked ends (R115,
R132). That LINK_CONGESTION comes before what they raise, an order that R13 and R176 leave open, is log entry 15. -/
def Obligations.FullQueueIsNotSent : Prop :=
  ∀ s : State, Inv s → OnLine s →
    let congested := fun (kind : Byte) => if s.link.congestionReported then [] else [notice .linkCongestion [kind]]
    let full := { s.link with congestionReported := true }
    (∀ (p : Station) (seq : Byte) (dir : Direction) (at_ ex : FloorTime) (frame : List Byte),
      Hears p (.propose seq dir at_ ex) frame s → ClaimKept s → s.link.coord.length = 8 →
      isolatedFlag s = false → inSource dir s = true → s.trc.activity = .none →
      ∃ t, exec (.proposeReceived frame) s = .next t ∧ t.link = { full with rx := none } ∧
        PortKept s t ∧ LinesKept s t ∧ SameBut [.link, .trc, .clu, .hpi] s t ∧
        (firstFailing (readinessChecks dir s) ≠ none → TrcIs s.trc t ∧ Raised (congested 4#8) s t) ∧
        (firstFailing (readinessChecks dir s) = none →
          TrcIs { s.trc with
            activity := .following ⟨p, seq⟩ dir, proposal := some (heardProposal p at_ ex)
            splits := Vector.replicate 16 0 } t ∧ Raised (congested 3#8) s t)) ∧
    (∀ dir : Direction, ClaimKept s → s.link.coord.length = 8 → firstFailing (transferChecks dir s) = none →
      s.ftu.align = .aligned →
      (∀ e ∈ s.link.coord, ofProposal ⟨s.link.station, s.trc.proposalSeq + 1#8⟩ e = false) →
      ∃ t, exec (.transfer [1#8, byteOf dir.code]) s = .next t ∧ t.link = full ∧
        TrcIs { s.trc with
          proposalSeq := s.trc.proposalSeq + 1#8, proposal := none, splits := Vector.replicate 16 0 } t ∧
        Raised (congested 2#8 ++ [notice .transferCancelled [byteOf s.link.station.val, s.trc.proposalSeq + 1#8,
          byteOf Reason.notSent.code]]) s t ∧
        Answered 0x20 [1#8, byteOf dir.code] 0 0 [] t ∧ SettingsKept s t ∧ LinesKept s t ∧
        SameBut [.link, .trc, .clu, .hpi] s t) ∧
    (∀ single : Byte, s.link.coord.length = 8 → s.tsq.state = .idle → s.lva = none →
      (∀ v, s.vsm.visit = some v → v.kind = .inspection) → firstFailing (claimChecks s) = none →
      s.ftu.align = .aligned → (∀ e ∈ s.link.coord, e.msg ≠ .claim .test s.ftu.floorTime) →
      ∃ t, exec (.runTest [1#8, single]) s = .next t ∧ t.lva = none ∧
        t.link = { full with status := t.link.status } ∧ StatusQueued t ∧
        t.tsq.state = .ended ∧ t.tsq.profile = s.tsq.profile ∧
        t.tsq.result.map (fun r => (r.number, r.cause, r.completed, r.verdict))
          = some (s.bau.carry.nextRun, .claimDenied, 0, .none) ∧
        Raised (congested 8#8 ++
          [notice .claimDenied [1#8, byteOf Reason.notSent.code, byteOf s.link.station.val],
           notice .testEnded (be16 (BitVec.ofNat 16 s.bau.carry.nextRun) ++ [3#8, 0#8, 0#8])]) s t ∧
        Answered 0x23 [1#8, single] 0 0 [] t ∧ SettingsKept s t ∧ TrcIs s.trc t ∧
        SameBut [.link, .tsq, .bau, .clu, .trc, .hpi] s t) ∧
    (s.link.urgent.length = 2 → isolatedFlag s = false → s.lva = none → s.tsq.state.inProgress = false →
      s.trc.activity = .none → s.trc.ownMode = .inv → s.clu.bypOk.qual = true → s.clu.fb.qual ≠ .byp →
      ∃ t, exec (.forceBypass [0#8]) s = .next t ∧ t.link = s.link ∧
        Raised [alarm .transferForced [1#8, byteOf s.link.station.val]] s t ∧
        TrcIs (switchEntered .byp .forced (some (10000 * s.hpi.floor.hold)) s) t ∧
        Answered 0x21 [0#8] 0 0 [] t ∧ SettingsKept s t ∧ SameBut [.trc, .clu, .hpi] s t)

/-- A GRANTED own claim that a re-evaluation finds failing is lost (R122 to R125), here when a peer leaves PRESENT:
CLAIM_LOST is raised, the requester told, and the claim released. A run ends with MAINS_LOST or MARGIN_LOST (R138), its
in-progress fields blank (log entry 20); a visit in ISOLATING is cancelled with cause CLAIM_LOST and the answer to its
JOIN (R161); one in ISOLATED stays (R155). A claim that passes is kept, with no event of its own. The cause bytes of
VISIT_STATE, here and below, are log entry 11, the marker that PEER_CHANGE names is log entry 16.

A re-evaluation applies tests 3 and 4 of the leave check, with the own station as the claimant (R118, R119, R122): it
fails ON_BATTERY or MARGIN alone.

An own TEST claim still CLAIMING gives way to an older TEST CLAIM heard from a PRESENT station (R117 step 1, R120):
its queued CLAIM is withdrawn, the record emptied, CLAIM_DENIED names the claiming station with TEST_BUSY, and the run
ends (R132, log entry 20). The heard claim is then judged with the own claim gone: it is
objected to or recorded PENDING, with no marker where it equals the record held (log entry 29).

A SERVICE claim granted at the end of its window takes its visit from REQUESTED into ISOLATING (R121, R153, R154):
OFF is commanded with origin ISOLATE and the step timer runs. With OUTPUT open the visit passes on to ISOLATED with
its timer stopped and the claim fixed (R155).

RUN TEST on a station that is ALONE makes a local claim (R114): no CLAIM is sent, the check is made at once on
the own view, and the command is answered OK, with the claim GRANTED and step 1 entered or with CLAIM_DENIED and the
run ended (R131, R132).

The OFF request of a visit that enters ISOLATING drops a planned activity first (R100, R110, R154): a proposer
queues CANCEL and raises TRANSFER_CANCELLED, both ISOLATED, one that follows drops it with no event. No row reaches
this (R118, R151), so it is said of `enterIsolating`. -/
def Obligations.OwnClaimIsLostYieldedOrGranted : Prop :=
  (∀ (p : Station) (e : Peer) (c : Claim) (r : Reason) (s : State),
    Inv s → OnLine s → e ∈ s.peers → e.station = p → e.presTimer = some 0 → e.presence = .present →
    s.lva = some c → c.granted = true → c.fixed = false → s.link.coord.length < 8 →
    (∀ q, s.trc.proposal = some q → q.phase ≠ some .window) →
    (leaveCheck s p c.kind c.time ≠ some .testBusy → leaveCheck s p c.kind c.time ≠ some .floorBusy →
      keepCheck s p c.time = leaveCheck s p c.kind c.time) ∧
    (let e₁ := { e with
       presence := .stale, presTimer := none, staleTimer := some 50000, claim := none, claimTimer := none
       markers := { e.markers with
         presence := true, claim := e.markers.claim || decide (e.claim ≠ none) } }
     let peers₁ := s.peers.map fun x => if x.station = p then e₁ else x
     let changed := if e.markers = Markers.clear then [info .peerChange [byteOf p.val, 1#8]] else []
     let lost := notice .claimLost [kindOfClaim c.kind, byteOf r.code]
     let ended := fun (t : State) =>
       t.peers = peers₁ ∧ t.lva = none ∧ t.link = released (some c) t.link.status s ∧ StatusQueued t ∧
         TrcIs { s.trc with splits := s.trc.splits.set p.val 0 } t ∧ PortKept s t
     (keepCheck { s with peers := peers₁ } s.link.station c.time = none →
       ∃ t, exec (.presenceTimerExpiry p) s = .next t ∧ t.peers = peers₁ ∧ Raised changed s t ∧
         TrcIs { s.trc with splits := s.trc.splits.set p.val 0 } t ∧ PortKept s t ∧ LinesKept s t ∧
         SameBut [.peers, .clu, .trc, .hpi] s t) ∧
     (keepCheck { s with peers := peers₁ } s.link.station c.time = some r →
     (∀ cause : EndCause, c.kind = .test → s.tsq.state.underway = true →
       cause = (if r = .onBattery then .mainsLost else .marginLost) →
       ∃ t, exec (.presenceTimerExpiry p) s = .next t ∧ ended t ∧ Raised (changed ++ [lost, runTold cause s]) s t ∧
         t.tsq = { s.tsq with state := .ended, run := RunRec.blank, result := some (resultOf cause s) } ∧
         t.clu = { s.clu with testWd := false, horn := t.clu.horn, hornTimer := t.clu.hornTimer } ∧
         SameBut [.peers, .tsq, .lva, .link, .clu, .trc, .hpi] s t) ∧
     (∀ (v : Visit) (refusal : Reason), c.kind = .service → s.vsm.visit = some v → v.state = .isolating →
       firstFailing ((joinChecks s).drop 1) = some refusal →
       ∃ t, exec (.presenceTimerExpiry p) s = .next t ∧ ended t ∧
         Raised (changed ++ [lost,
           closureTold v .cancelled [1#8, byteOf Reason.claimLost.code, 1#8, byteOf refusal.code]]) s t ∧
         t.vsm = { s.vsm with visit := none, log := logged (logOf v .cancelled [] s) s.vsm.log } ∧ LinesKept s t ∧
         SameBut [.peers, .vsm, .lva, .link, .clu, .trc, .hpi] s t) ∧
     (∀ v : Visit, c.kind = .service → s.vsm.visit = some v → v.state = .isolated →
       ∃ t, exec (.presenceTimerExpiry p) s = .next t ∧ ended t ∧ Raised (changed ++ [lost]) s t ∧ LinesKept s t ∧
         SameBut [.peers, .lva, .link, .clu, .trc, .hpi] s t)))) ∧
  (∀ (time : FloorTime) (s : State),
    let own := s.link.station
    let counted : List (Station × Report × Option ShownClaim) :=
      (own, ownReport s, ownShown s) ::
        (s.peers.filter fun e => decide (e.presence = .present)).map fun e => (e.station, e.report, e.claim)
    let before : Station → Option ShownClaim → Bool := fun p claim =>
      match claim with
      | some k => k.granted || decide ((k.time - time).toInt < 0 ∨ k.time = time ∧ p < own)
      | none => false
    let onBattery := ∃ c ∈ counted, c.2.1.isolated = false ∧ c.2.1.source = .battery
    let staying := counted.filter fun c =>
      decide (c.2.1.isolated = false ∧ c.2.1.mode = .inv ∧ c.1 ≠ own) && !before c.1 c.2.2
    let backing := staying.filter fun c =>
      decide (c.2.1.weak = false ∧ c.2.1.senseLost = false ∧ c.2.1.source = .mains)
    let load := counted.filter fun c =>
      decide (c.2.1.isolated = false ∧ (c.2.1.mode = .inv ∨ c.2.1.mode = .byp))
    let tooThin := staying.length < s.hpi.floor.minInv ∨
      (backing.map (·.2.1.carrying)).sum * 100 < (load.map (·.2.1.load)).sum * (100 + s.hpi.floor.margin)
    (onBattery → keepCheck s own time = some .onBattery) ∧
    (¬ onBattery → tooThin → keepCheck s own time = some .margin) ∧
    (¬ onBattery → ¬ tooThin → keepCheck s own time = none)) ∧
  (∀ (p : Station) (time : FloorTime) (frame : List Byte) (e : Peer) (c : Claim) (s : State),
    Inv s → OnLine s → Hears p (.claim .test time) frame s → e ∈ s.peers → e.station = p → e.presence = .present →
    s.lva = some c → c.kind = .test → c.granted = false → s.tsq.state = .claiming →
    ((time - c.time).toInt < 0 ∨ time = c.time ∧ p < s.link.station) → s.link.coord.length < 8 →
    (let told := [notice .claimDenied [1#8, byteOf Reason.testBusy.code, byteOf p.val], runTold .claimDenied s]
     let kept := if c.inWindow then s.link.coord
       else s.link.coord.filter fun e => decide (e.msg ≠ .claim .test c.time)
     ∃ t, exec (.claimReceived frame) s = .next t ∧ t.lva = none ∧ StatusQueued t ∧
       t.tsq = { s.tsq with state := .ended, run := RunRec.blank, result := some (resultOf .claimDenied s) } ∧
       t.clu = { s.clu with testWd := false, horn := t.clu.horn, hornTimer := t.clu.hornTimer } ∧
       PortKept s t ∧ TrcIs s.trc t ∧ SameBut [.lva, .link, .peers, .clu, .tsq, .trc, .hpi] s t ∧
       (∀ r : Reason, leaveCheck { s with lva := none } p .test time = some r →
         t.link = { s.link with
           rx := none, status := t.link.status
           coord := kept ++ [queued (.objectClaim p time (byteOf r.code))] } ∧ t.peers = s.peers ∧
         Raised told s t) ∧
       (leaveCheck { s with lva := none } p .test time = none →
         (let record : ShownClaim := ⟨.test, time, false⟩
          let e₁ := { e with
            claim := some record, claimTimer := some (10 * (s.hpi.floor.claimWindow + 200))
            markers := { e.markers with claim := e.markers.claim || decide (e.claim ≠ some record) } }
          t.link = { s.link with rx := none, status := t.link.status, coord := kept } ∧
          t.peers = s.peers.map (fun x => if x.station = p then e₁ else x) ∧
          Raised (told ++ if e.markers = Markers.clear ∧ e.claim ≠ some record then
            [info .peerChange [byteOf p.val, 4#8]] else []) s t)))) ∧
  (∀ (v : Visit) (c : Claim) (s : State), Inv s → OnLine s → s.lva = some c → c.kind = .service →
    c.granted = false → c.inWindow = true → c.windowTimer = some 0 → s.vsm.visit = some v → v.state = .requested →
    v.claimed = true → s.trc.ownMode = .inv → s.trc.activity = .none → s.clu.fb.qual ≠ .off →
    leaveCheck s s.link.station .service c.time = none →
    ∃ t, exec .claimWindowExpiry s = .next t ∧
      (let isOpen := !s.clu.output.qual
       let v₁ := { v with
         state := if isOpen then .isolated else .isolating
         stepTimer := if isOpen then none else some (600000 * s.hpi.cab.stepTimeout) }
       t.vsm = { s.vsm with visit := some v₁ } ∧
       t.lva = some { c with
         granted := true, inWindow := false, windowTimer := none, queueTimer := none
         fixed := c.fixed || isOpen } ∧
       Raised ([notice .claimGranted ([2#8] ++ be32 c.time), visitTold v .isolating]
         ++ if isOpen then [visitTold v .isolated] else []) s t) ∧
      TrcIs (switchEntered .off .isolate s.trc.holdTimer s) t ∧
      t.clu = { commanded .off s.clu with horn := t.clu.horn, hornTimer := t.clu.hornTimer } ∧
      t.link = { s.link with status := t.link.status } ∧ StatusQueued t ∧ PortKept s t ∧
      SameBut [.vsm, .lva, .link, .clu, .trc, .hpi] s t) ∧
  (∀ (single : Byte) (st : TestStep) (s : State), Inv s → OnLine s → s.ftu.align = .alone → s.tsq.state = .idle →
    s.lva = none → (∀ v, s.vsm.visit = some v → v.kind = .inspection) → firstFailing (claimChecks s) = none →
    s.tsq.profile[0]? = some st →
    (let run : RunRec := ⟨s.bau.carry.nextRun, decide (single ≠ 0#8), 0, [], [], 0, 0, none, none, none⟩
     let number := be16 (BitVec.ofNat 16 s.bau.carry.nextRun)
     let own := s.link.station
     let common := fun (t : State) =>
       t.bau = { s.bau with carry := { s.bau.carry with
           nextRun := if s.bau.carry.nextRun = 65535 then 1 else s.bau.carry.nextRun + 1 } } ∧
         Answered 0x23 [1#8, single] 0 0 [] t ∧ SettingsKept s t ∧ TrcIs s.trc t ∧
         t.link = { s.link with status := t.link.status } ∧
         SameBut [.bau, .lva, .tsq, .link, .clu, .trc, .hpi] s t
     (leaveCheck s own .test s.ftu.floorTime = none →
       ∃ t, exec (.runTest [1#8, single]) s = .next t ∧ common t ∧ StatusQueued t ∧
         t.lva.map (fun c => (c.kind, c.time, c.granted, c.fixed)) = some (.test, s.ftu.floorTime, true, false) ∧
         (let run₁ := { run with stepTimer := some (10000 * st.duration) }
          t.tsq = { s.tsq with state := .running 1, run := run₁ }) ∧
         t.clu = { s.clu with
           testWd := decide (st.kind = .discharge), horn := t.clu.horn, hornTimer := t.clu.hornTimer } ∧
         Raised [notice .claimGranted ([1#8] ++ be32 s.ftu.floorTime)] s t) ∧
     (∀ r : Reason, leaveCheck s own .test s.ftu.floorTime = some r →
       ∃ t, exec (.runTest [1#8, single]) s = .next t ∧ common t ∧ t.lva = none ∧
         t.tsq.state = .ended ∧ t.tsq.profile = s.tsq.profile ∧
         t.tsq.result.map (fun r => (r.number, r.cause, r.completed, r.verdict))
           = some (s.bau.carry.nextRun, .claimDenied, 0, .none) ∧
         t.clu = { s.clu with testWd := false, horn := t.clu.horn, hornTimer := t.clu.hornTimer } ∧
         Raised [notice .claimDenied [1#8, byteOf r.code, byteOf own.val],
           notice .testEnded (number ++ [3#8, 0#8, 0#8])] s t))) ∧
  (∀ (v : Visit) (s : State), Inv s → OnLine s → s.vsm.visit = some v → isolatedFlag s = false →
    (∀ c ∈ s.lva, c.kind = .service ∧ c.granted = true) →
    (∀ (m : Sys2Proof.Mode) (o : Origin), s.trc.activity ≠ .switching m o ∧ s.trc.activity ≠ .mismatch m o) →
    s.clu.fb.qual ≠ .off → s.link.coord.length < 8 →
    (let t := enterIsolating s
     let isOpen := !s.clu.output.qual
     let v₁ := { v with
       state := if isOpen then .isolated else .isolating
       stepTimer := if isOpen then none else some (600000 * s.hpi.cab.stepTimeout) }
     let proposes : Option PropId := match s.trc.activity with
       | .proposed id _ => some id
       | .following _ _ => none
       | .armed _ _ _ => none
       | .none => none
       | .switching _ _ => none
       | .mismatch _ _ => none
     let cancels := match proposes with
       | some id => [queued (.cancel id (byteOf Reason.isolated.code))]
       | none => []
     t.vsm = { s.vsm with visit := some v₁ } ∧ t.trc = switchEntered .off .isolate s.trc.holdTimer s ∧
       t.link = { planDropped s with
         coord := (planDropped s).coord ++ cancels, status := t.link.status } ∧ StatusQueued t ∧
       t.lva = s.lva.map (fun c => { c with fixed := c.fixed || isOpen && v.claimed }) ∧
       t.clu = { commanded .off s.clu with horn := t.clu.horn, hornTimer := t.clu.hornTimer } ∧
       Raised ([visitTold v .isolating]
         ++ (match proposes with
           | some id => [notice .transferCancelled [byteOf id.station.val, id.seq, byteOf Reason.isolated.code]]
           | none => [])
         ++ if isOpen then [visitTold v .isolated] else []) s t ∧
       PortKept s t ∧ SameBut [.vsm, .lva, .link, .trc, .clu, .hpi] s t))

/-! ## The view, the test resistance, the visit at a contact, and what drops a planned transfer -/
end

