-- ==== Sys2Proof/Laws/State.lean ====
section
/-! SUPPORT. One lemma per field per update of `State`, so that no proof unfolds a record update. -/

namespace Sys2Proof.Machine

variable (s : State)

@[simp] theorem State.modLink_link (f : Link → Link) : (State.modLink f s).link = f s.link := rfl
@[simp] theorem State.modLink_peers (f : Link → Link) : (State.modLink f s).peers = s.peers := rfl
@[simp] theorem State.modLink_pvu (f : Link → Link) : (State.modLink f s).pvu = s.pvu := rfl
@[simp] theorem State.modLink_ftu (f : Link → Link) : (State.modLink f s).ftu = s.ftu := rfl
@[simp] theorem State.modLink_clu (f : Link → Link) : (State.modLink f s).clu = s.clu := rfl
@[simp] theorem State.modLink_sns (f : Link → Link) : (State.modLink f s).sns = s.sns := rfl
@[simp] theorem State.modLink_bau (f : Link → Link) : (State.modLink f s).bau = s.bau := rfl
@[simp] theorem State.modLink_trc (f : Link → Link) : (State.modLink f s).trc = s.trc := rfl
@[simp] theorem State.modLink_lva (f : Link → Link) : (State.modLink f s).lva = s.lva := rfl
@[simp] theorem State.modLink_tsq (f : Link → Link) : (State.modLink f s).tsq = s.tsq := rfl
@[simp] theorem State.modLink_vsm (f : Link → Link) : (State.modLink f s).vsm = s.vsm := rfl
@[simp] theorem State.modLink_hpi (f : Link → Link) : (State.modLink f s).hpi = s.hpi := rfl
@[simp] theorem State.modLink_pending (f : Link → Link) : (State.modLink f s).pending = s.pending := rfl

@[simp] theorem State.modPeers_link (f : List Peer → List Peer) : (State.modPeers f s).link = s.link := rfl
@[simp] theorem State.modPeers_peers (f : List Peer → List Peer) : (State.modPeers f s).peers = f s.peers := rfl
@[simp] theorem State.modPeers_pvu (f : List Peer → List Peer) : (State.modPeers f s).pvu = s.pvu := rfl
@[simp] theorem State.modPeers_ftu (f : List Peer → List Peer) : (State.modPeers f s).ftu = s.ftu := rfl
@[simp] theorem State.modPeers_clu (f : List Peer → List Peer) : (State.modPeers f s).clu = s.clu := rfl
@[simp] theorem State.modPeers_sns (f : List Peer → List Peer) : (State.modPeers f s).sns = s.sns := rfl
@[simp] theorem State.modPeers_bau (f : List Peer → List Peer) : (State.modPeers f s).bau = s.bau := rfl
@[simp] theorem State.modPeers_trc (f : List Peer → List Peer) : (State.modPeers f s).trc = s.trc := rfl
@[simp] theorem State.modPeers_lva (f : List Peer → List Peer) : (State.modPeers f s).lva = s.lva := rfl
@[simp] theorem State.modPeers_tsq (f : List Peer → List Peer) : (State.modPeers f s).tsq = s.tsq := rfl
@[simp] theorem State.modPeers_vsm (f : List Peer → List Peer) : (State.modPeers f s).vsm = s.vsm := rfl
@[simp] theorem State.modPeers_hpi (f : List Peer → List Peer) : (State.modPeers f s).hpi = s.hpi := rfl
@[simp] theorem State.modPeers_pending (f : List Peer → List Peer) : (State.modPeers f s).pending = s.pending := rfl

@[simp] theorem State.modPvu_link (f : Pvu → Pvu) : (State.modPvu f s).link = s.link := rfl
@[simp] theorem State.modPvu_peers (f : Pvu → Pvu) : (State.modPvu f s).peers = s.peers := rfl
@[simp] theorem State.modPvu_pvu (f : Pvu → Pvu) : (State.modPvu f s).pvu = f s.pvu := rfl
@[simp] theorem State.modPvu_ftu (f : Pvu → Pvu) : (State.modPvu f s).ftu = s.ftu := rfl
@[simp] theorem State.modPvu_clu (f : Pvu → Pvu) : (State.modPvu f s).clu = s.clu := rfl
@[simp] theorem State.modPvu_sns (f : Pvu → Pvu) : (State.modPvu f s).sns = s.sns := rfl
@[simp] theorem State.modPvu_bau (f : Pvu → Pvu) : (State.modPvu f s).bau = s.bau := rfl
@[simp] theorem State.modPvu_trc (f : Pvu → Pvu) : (State.modPvu f s).trc = s.trc := rfl
@[simp] theorem State.modPvu_lva (f : Pvu → Pvu) : (State.modPvu f s).lva = s.lva := rfl
@[simp] theorem State.modPvu_tsq (f : Pvu → Pvu) : (State.modPvu f s).tsq = s.tsq := rfl
@[simp] theorem State.modPvu_vsm (f : Pvu → Pvu) : (State.modPvu f s).vsm = s.vsm := rfl
@[simp] theorem State.modPvu_hpi (f : Pvu → Pvu) : (State.modPvu f s).hpi = s.hpi := rfl
@[simp] theorem State.modPvu_pending (f : Pvu → Pvu) : (State.modPvu f s).pending = s.pending := rfl

@[simp] theorem State.modFtu_link (f : Ftu → Ftu) : (State.modFtu f s).link = s.link := rfl
@[simp] theorem State.modFtu_peers (f : Ftu → Ftu) : (State.modFtu f s).peers = s.peers := rfl
@[simp] theorem State.modFtu_pvu (f : Ftu → Ftu) : (State.modFtu f s).pvu = s.pvu := rfl
@[simp] theorem State.modFtu_ftu (f : Ftu → Ftu) : (State.modFtu f s).ftu = f s.ftu := rfl
@[simp] theorem State.modFtu_clu (f : Ftu → Ftu) : (State.modFtu f s).clu = s.clu := rfl
@[simp] theorem State.modFtu_sns (f : Ftu → Ftu) : (State.modFtu f s).sns = s.sns := rfl
@[simp] theorem State.modFtu_bau (f : Ftu → Ftu) : (State.modFtu f s).bau = s.bau := rfl
@[simp] theorem State.modFtu_trc (f : Ftu → Ftu) : (State.modFtu f s).trc = s.trc := rfl
@[simp] theorem State.modFtu_lva (f : Ftu → Ftu) : (State.modFtu f s).lva = s.lva := rfl
@[simp] theorem State.modFtu_tsq (f : Ftu → Ftu) : (State.modFtu f s).tsq = s.tsq := rfl
@[simp] theorem State.modFtu_vsm (f : Ftu → Ftu) : (State.modFtu f s).vsm = s.vsm := rfl
@[simp] theorem State.modFtu_hpi (f : Ftu → Ftu) : (State.modFtu f s).hpi = s.hpi := rfl
@[simp] theorem State.modFtu_pending (f : Ftu → Ftu) : (State.modFtu f s).pending = s.pending := rfl

@[simp] theorem State.modClu_link (f : Clu → Clu) : (State.modClu f s).link = s.link := rfl
@[simp] theorem State.modClu_peers (f : Clu → Clu) : (State.modClu f s).peers = s.peers := rfl
@[simp] theorem State.modClu_pvu (f : Clu → Clu) : (State.modClu f s).pvu = s.pvu := rfl
@[simp] theorem State.modClu_ftu (f : Clu → Clu) : (State.modClu f s).ftu = s.ftu := rfl
@[simp] theorem State.modClu_clu (f : Clu → Clu) : (State.modClu f s).clu = f s.clu := rfl
@[simp] theorem State.modClu_sns (f : Clu → Clu) : (State.modClu f s).sns = s.sns := rfl
@[simp] theorem State.modClu_bau (f : Clu → Clu) : (State.modClu f s).bau = s.bau := rfl
@[simp] theorem State.modClu_trc (f : Clu → Clu) : (State.modClu f s).trc = s.trc := rfl
@[simp] theorem State.modClu_lva (f : Clu → Clu) : (State.modClu f s).lva = s.lva := rfl
@[simp] theorem State.modClu_tsq (f : Clu → Clu) : (State.modClu f s).tsq = s.tsq := rfl
@[simp] theorem State.modClu_vsm (f : Clu → Clu) : (State.modClu f s).vsm = s.vsm := rfl
@[simp] theorem State.modClu_hpi (f : Clu → Clu) : (State.modClu f s).hpi = s.hpi := rfl
@[simp] theorem State.modClu_pending (f : Clu → Clu) : (State.modClu f s).pending = s.pending := rfl

@[simp] theorem State.modSns_link (f : Sns → Sns) : (State.modSns f s).link = s.link := rfl
@[simp] theorem State.modSns_peers (f : Sns → Sns) : (State.modSns f s).peers = s.peers := rfl
@[simp] theorem State.modSns_pvu (f : Sns → Sns) : (State.modSns f s).pvu = s.pvu := rfl
@[simp] theorem State.modSns_ftu (f : Sns → Sns) : (State.modSns f s).ftu = s.ftu := rfl
@[simp] theorem State.modSns_clu (f : Sns → Sns) : (State.modSns f s).clu = s.clu := rfl
@[simp] theorem State.modSns_sns (f : Sns → Sns) : (State.modSns f s).sns = f s.sns := rfl
@[simp] theorem State.modSns_bau (f : Sns → Sns) : (State.modSns f s).bau = s.bau := rfl
@[simp] theorem State.modSns_trc (f : Sns → Sns) : (State.modSns f s).trc = s.trc := rfl
@[simp] theorem State.modSns_lva (f : Sns → Sns) : (State.modSns f s).lva = s.lva := rfl
@[simp] theorem State.modSns_tsq (f : Sns → Sns) : (State.modSns f s).tsq = s.tsq := rfl
@[simp] theorem State.modSns_vsm (f : Sns → Sns) : (State.modSns f s).vsm = s.vsm := rfl
@[simp] theorem State.modSns_hpi (f : Sns → Sns) : (State.modSns f s).hpi = s.hpi := rfl
@[simp] theorem State.modSns_pending (f : Sns → Sns) : (State.modSns f s).pending = s.pending := rfl

@[simp] theorem State.modBau_link (f : Bau → Bau) : (State.modBau f s).link = s.link := rfl
@[simp] theorem State.modBau_peers (f : Bau → Bau) : (State.modBau f s).peers = s.peers := rfl
@[simp] theorem State.modBau_pvu (f : Bau → Bau) : (State.modBau f s).pvu = s.pvu := rfl
@[simp] theorem State.modBau_ftu (f : Bau → Bau) : (State.modBau f s).ftu = s.ftu := rfl
@[simp] theorem State.modBau_clu (f : Bau → Bau) : (State.modBau f s).clu = s.clu := rfl
@[simp] theorem State.modBau_sns (f : Bau → Bau) : (State.modBau f s).sns = s.sns := rfl
@[simp] theorem State.modBau_bau (f : Bau → Bau) : (State.modBau f s).bau = f s.bau := rfl
@[simp] theorem State.modBau_trc (f : Bau → Bau) : (State.modBau f s).trc = s.trc := rfl
@[simp] theorem State.modBau_lva (f : Bau → Bau) : (State.modBau f s).lva = s.lva := rfl
@[simp] theorem State.modBau_tsq (f : Bau → Bau) : (State.modBau f s).tsq = s.tsq := rfl
@[simp] theorem State.modBau_vsm (f : Bau → Bau) : (State.modBau f s).vsm = s.vsm := rfl
@[simp] theorem State.modBau_hpi (f : Bau → Bau) : (State.modBau f s).hpi = s.hpi := rfl
@[simp] theorem State.modBau_pending (f : Bau → Bau) : (State.modBau f s).pending = s.pending := rfl

@[simp] theorem State.modTrc_link (f : Trc → Trc) : (State.modTrc f s).link = s.link := rfl
@[simp] theorem State.modTrc_peers (f : Trc → Trc) : (State.modTrc f s).peers = s.peers := rfl
@[simp] theorem State.modTrc_pvu (f : Trc → Trc) : (State.modTrc f s).pvu = s.pvu := rfl
@[simp] theorem State.modTrc_ftu (f : Trc → Trc) : (State.modTrc f s).ftu = s.ftu := rfl
@[simp] theorem State.modTrc_clu (f : Trc → Trc) : (State.modTrc f s).clu = s.clu := rfl
@[simp] theorem State.modTrc_sns (f : Trc → Trc) : (State.modTrc f s).sns = s.sns := rfl
@[simp] theorem State.modTrc_bau (f : Trc → Trc) : (State.modTrc f s).bau = s.bau := rfl
@[simp] theorem State.modTrc_trc (f : Trc → Trc) : (State.modTrc f s).trc = f s.trc := rfl
@[simp] theorem State.modTrc_lva (f : Trc → Trc) : (State.modTrc f s).lva = s.lva := rfl
@[simp] theorem State.modTrc_tsq (f : Trc → Trc) : (State.modTrc f s).tsq = s.tsq := rfl
@[simp] theorem State.modTrc_vsm (f : Trc → Trc) : (State.modTrc f s).vsm = s.vsm := rfl
@[simp] theorem State.modTrc_hpi (f : Trc → Trc) : (State.modTrc f s).hpi = s.hpi := rfl
@[simp] theorem State.modTrc_pending (f : Trc → Trc) : (State.modTrc f s).pending = s.pending := rfl

@[simp] theorem State.setLva_link (c : Option Claim) : (State.setLva c s).link = s.link := rfl
@[simp] theorem State.setLva_peers (c : Option Claim) : (State.setLva c s).peers = s.peers := rfl
@[simp] theorem State.setLva_pvu (c : Option Claim) : (State.setLva c s).pvu = s.pvu := rfl
@[simp] theorem State.setLva_ftu (c : Option Claim) : (State.setLva c s).ftu = s.ftu := rfl
@[simp] theorem State.setLva_clu (c : Option Claim) : (State.setLva c s).clu = s.clu := rfl
@[simp] theorem State.setLva_sns (c : Option Claim) : (State.setLva c s).sns = s.sns := rfl
@[simp] theorem State.setLva_bau (c : Option Claim) : (State.setLva c s).bau = s.bau := rfl
@[simp] theorem State.setLva_trc (c : Option Claim) : (State.setLva c s).trc = s.trc := rfl
@[simp] theorem State.setLva_lva (c : Option Claim) : (State.setLva c s).lva = c := rfl
@[simp] theorem State.setLva_tsq (c : Option Claim) : (State.setLva c s).tsq = s.tsq := rfl
@[simp] theorem State.setLva_vsm (c : Option Claim) : (State.setLva c s).vsm = s.vsm := rfl
@[simp] theorem State.setLva_hpi (c : Option Claim) : (State.setLva c s).hpi = s.hpi := rfl
@[simp] theorem State.setLva_pending (c : Option Claim) : (State.setLva c s).pending = s.pending := rfl

@[simp] theorem State.modTsq_link (f : Tsq → Tsq) : (State.modTsq f s).link = s.link := rfl
@[simp] theorem State.modTsq_peers (f : Tsq → Tsq) : (State.modTsq f s).peers = s.peers := rfl
@[simp] theorem State.modTsq_pvu (f : Tsq → Tsq) : (State.modTsq f s).pvu = s.pvu := rfl
@[simp] theorem State.modTsq_ftu (f : Tsq → Tsq) : (State.modTsq f s).ftu = s.ftu := rfl
@[simp] theorem State.modTsq_clu (f : Tsq → Tsq) : (State.modTsq f s).clu = s.clu := rfl
@[simp] theorem State.modTsq_sns (f : Tsq → Tsq) : (State.modTsq f s).sns = s.sns := rfl
@[simp] theorem State.modTsq_bau (f : Tsq → Tsq) : (State.modTsq f s).bau = s.bau := rfl
@[simp] theorem State.modTsq_trc (f : Tsq → Tsq) : (State.modTsq f s).trc = s.trc := rfl
@[simp] theorem State.modTsq_lva (f : Tsq → Tsq) : (State.modTsq f s).lva = s.lva := rfl
@[simp] theorem State.modTsq_tsq (f : Tsq → Tsq) : (State.modTsq f s).tsq = f s.tsq := rfl
@[simp] theorem State.modTsq_vsm (f : Tsq → Tsq) : (State.modTsq f s).vsm = s.vsm := rfl
@[simp] theorem State.modTsq_hpi (f : Tsq → Tsq) : (State.modTsq f s).hpi = s.hpi := rfl
@[simp] theorem State.modTsq_pending (f : Tsq → Tsq) : (State.modTsq f s).pending = s.pending := rfl

@[simp] theorem State.modVsm_link (f : Vsm → Vsm) : (State.modVsm f s).link = s.link := rfl
@[simp] theorem State.modVsm_peers (f : Vsm → Vsm) : (State.modVsm f s).peers = s.peers := rfl
@[simp] theorem State.modVsm_pvu (f : Vsm → Vsm) : (State.modVsm f s).pvu = s.pvu := rfl
@[simp] theorem State.modVsm_ftu (f : Vsm → Vsm) : (State.modVsm f s).ftu = s.ftu := rfl
@[simp] theorem State.modVsm_clu (f : Vsm → Vsm) : (State.modVsm f s).clu = s.clu := rfl
@[simp] theorem State.modVsm_sns (f : Vsm → Vsm) : (State.modVsm f s).sns = s.sns := rfl
@[simp] theorem State.modVsm_bau (f : Vsm → Vsm) : (State.modVsm f s).bau = s.bau := rfl
@[simp] theorem State.modVsm_trc (f : Vsm → Vsm) : (State.modVsm f s).trc = s.trc := rfl
@[simp] theorem State.modVsm_lva (f : Vsm → Vsm) : (State.modVsm f s).lva = s.lva := rfl
@[simp] theorem State.modVsm_tsq (f : Vsm → Vsm) : (State.modVsm f s).tsq = s.tsq := rfl
@[simp] theorem State.modVsm_vsm (f : Vsm → Vsm) : (State.modVsm f s).vsm = f s.vsm := rfl
@[simp] theorem State.modVsm_hpi (f : Vsm → Vsm) : (State.modVsm f s).hpi = s.hpi := rfl
@[simp] theorem State.modVsm_pending (f : Vsm → Vsm) : (State.modVsm f s).pending = s.pending := rfl

@[simp] theorem State.modHpi_link (f : Hpi → Hpi) : (State.modHpi f s).link = s.link := rfl
@[simp] theorem State.modHpi_peers (f : Hpi → Hpi) : (State.modHpi f s).peers = s.peers := rfl
@[simp] theorem State.modHpi_pvu (f : Hpi → Hpi) : (State.modHpi f s).pvu = s.pvu := rfl
@[simp] theorem State.modHpi_ftu (f : Hpi → Hpi) : (State.modHpi f s).ftu = s.ftu := rfl
@[simp] theorem State.modHpi_clu (f : Hpi → Hpi) : (State.modHpi f s).clu = s.clu := rfl
@[simp] theorem State.modHpi_sns (f : Hpi → Hpi) : (State.modHpi f s).sns = s.sns := rfl
@[simp] theorem State.modHpi_bau (f : Hpi → Hpi) : (State.modHpi f s).bau = s.bau := rfl
@[simp] theorem State.modHpi_trc (f : Hpi → Hpi) : (State.modHpi f s).trc = s.trc := rfl
@[simp] theorem State.modHpi_lva (f : Hpi → Hpi) : (State.modHpi f s).lva = s.lva := rfl
@[simp] theorem State.modHpi_tsq (f : Hpi → Hpi) : (State.modHpi f s).tsq = s.tsq := rfl
@[simp] theorem State.modHpi_vsm (f : Hpi → Hpi) : (State.modHpi f s).vsm = s.vsm := rfl
@[simp] theorem State.modHpi_hpi (f : Hpi → Hpi) : (State.modHpi f s).hpi = f s.hpi := rfl
@[simp] theorem State.modHpi_pending (f : Hpi → Hpi) : (State.modHpi f s).pending = s.pending := rfl

@[simp] theorem State.setPending_link (q : List Instr) : (State.setPending q s).link = s.link := rfl
@[simp] theorem State.setPending_peers (q : List Instr) : (State.setPending q s).peers = s.peers := rfl
@[simp] theorem State.setPending_pvu (q : List Instr) : (State.setPending q s).pvu = s.pvu := rfl
@[simp] theorem State.setPending_ftu (q : List Instr) : (State.setPending q s).ftu = s.ftu := rfl
@[simp] theorem State.setPending_clu (q : List Instr) : (State.setPending q s).clu = s.clu := rfl
@[simp] theorem State.setPending_sns (q : List Instr) : (State.setPending q s).sns = s.sns := rfl
@[simp] theorem State.setPending_bau (q : List Instr) : (State.setPending q s).bau = s.bau := rfl
@[simp] theorem State.setPending_trc (q : List Instr) : (State.setPending q s).trc = s.trc := rfl
@[simp] theorem State.setPending_lva (q : List Instr) : (State.setPending q s).lva = s.lva := rfl
@[simp] theorem State.setPending_tsq (q : List Instr) : (State.setPending q s).tsq = s.tsq := rfl
@[simp] theorem State.setPending_vsm (q : List Instr) : (State.setPending q s).vsm = s.vsm := rfl
@[simp] theorem State.setPending_hpi (q : List Instr) : (State.setPending q s).hpi = s.hpi := rfl
@[simp] theorem State.setPending_pending (q : List Instr) : (State.setPending q s).pending = q := rfl

end Sys2Proof.Machine
end

