-- ==== Sys2Proof/Laws/Quiet.lean ====
section
/-! SUPPORT. What the shared operations can do: `Quiet s t` says what every operation between blocks leaves
as it was, and which bounds it keeps. One lemma per operation, in the form that chains. -/

namespace Sys2Proof.Machine

/-- `t` follows from `s` by operations of the blocks among themselves: no configuration, no input line, no
clock, no port buffer and no peer entry has changed, and the bounds of the queues and lists are kept. -/
structure Quiet (s t : State) : Prop where
  pending    : t.pending = s.pending
  running    : t.hpi.running = s.hpi.running
  configured : t.hpi.configured = s.hpi.configured
  floor      : t.hpi.floor = s.hpi.floor
  cab        : t.hpi.cab = s.hpi.cab
  command    : t.hpi.command = s.hpi.command
  response   : t.hpi.response = s.hpi.response
  waiting    : t.hpi.waiting = s.hpi.waiting
  shiftedOut : t.hpi.shiftedOut = s.hpi.shiftedOut
  supv       : t.clu.supv = s.clu.supv
  invFault   : t.clu.invFault = s.clu.invFault
  overload   : t.clu.overload = s.clu.overload
  bypOk      : t.clu.bypOk = s.clu.bypOk
  fb         : t.clu.fb = s.clu.fb
  input      : t.clu.input = s.clu.input
  bypassIn   : t.clu.bypassIn = s.clu.bypassIn
  output     : t.clu.output = s.clu.output
  battery    : t.clu.battery = s.clu.battery
  maint      : t.clu.maint = s.clu.maint
  alarmIn    : t.clu.alarmIn = s.clu.alarmIn
  alarmLatch : t.clu.alarmLatch = s.clu.alarmLatch
  station    : t.link.station = s.link.station
  rate       : t.link.rate = s.link.rate
  linkState  : t.link.state = s.link.state
  muteTimer  : t.link.muteTimer = s.link.muteTimer
  duplicate  : t.link.duplicateSeen = s.link.duplicateSeen
  lastTx     : t.link.lastTransmitter = s.link.lastTransmitter
  attempt    : t.link.attempt = s.link.attempt
  lineIdle   : t.link.lineIdle = s.link.lineIdle
  rx         : t.link.rx = s.link.rx
  peers      : t.peers = s.peers
  pvu        : t.pvu = s.pvu
  ftu        : t.ftu = s.ftu
  sns        : t.sns = s.sns
  profile    : t.tsq.profile = s.tsq.profile
  minutes    : t.bau.minutes = s.bau.minutes
  divider    : t.bau.divider = s.bau.divider
  ageing     : t.bau.ageing = s.bau.ageing
  events_le  : s.hpi.events.length ≤ eventDepth → t.hpi.events.length ≤ eventDepth
  coord_le   : s.link.coord.length ≤ coordDepth → t.link.coord.length ≤ coordDepth
  urgent_le  : s.link.urgent.length ≤ urgentDepth → t.link.urgent.length ≤ urgentDepth
  log_le     : s.vsm.log.length ≤ logDepth → t.vsm.log.length ≤ logDepth
  dues_nodup : (s.vsm.dues.map (·.kind)).Nodup → (t.vsm.dues.map (·.kind)).Nodup

namespace Quiet

theorem refl (s : State) : Quiet s s := by constructor <;> first | rfl | exact id

theorem trans {s t u : State} (h : Quiet s t) (k : Quiet t u) : Quiet s u where
  pending := k.pending.trans h.pending
  running := k.running.trans h.running
  configured := k.configured.trans h.configured
  floor := k.floor.trans h.floor
  cab := k.cab.trans h.cab
  command := k.command.trans h.command
  response := k.response.trans h.response
  waiting := k.waiting.trans h.waiting
  shiftedOut := k.shiftedOut.trans h.shiftedOut
  supv := k.supv.trans h.supv
  invFault := k.invFault.trans h.invFault
  overload := k.overload.trans h.overload
  bypOk := k.bypOk.trans h.bypOk
  fb := k.fb.trans h.fb
  input := k.input.trans h.input
  bypassIn := k.bypassIn.trans h.bypassIn
  output := k.output.trans h.output
  battery := k.battery.trans h.battery
  maint := k.maint.trans h.maint
  alarmIn := k.alarmIn.trans h.alarmIn
  alarmLatch := k.alarmLatch.trans h.alarmLatch
  station := k.station.trans h.station
  rate := k.rate.trans h.rate
  linkState := k.linkState.trans h.linkState
  muteTimer := k.muteTimer.trans h.muteTimer
  duplicate := k.duplicate.trans h.duplicate
  lastTx := k.lastTx.trans h.lastTx
  attempt := k.attempt.trans h.attempt
  lineIdle := k.lineIdle.trans h.lineIdle
  rx := k.rx.trans h.rx
  peers := k.peers.trans h.peers
  pvu := k.pvu.trans h.pvu
  ftu := k.ftu.trans h.ftu
  sns := k.sns.trans h.sns
  profile := k.profile.trans h.profile
  minutes := k.minutes.trans h.minutes
  divider := k.divider.trans h.divider
  ageing := k.ageing.trans h.ageing
  events_le := fun b => k.events_le (h.events_le b)
  coord_le := fun b => k.coord_le (h.coord_le b)
  urgent_le := fun b => k.urgent_le (h.urgent_le b)
  log_le := fun b => k.log_le (h.log_le b)
  dues_nodup := fun b => k.dues_nodup (h.dues_nodup b)

end Quiet

@[simp] theorem quiet_refl (s : State) : Quiet s s := Quiet.refl s

@[simp] theorem quiet_ite (s : State) (c : Prop) [Decidable c] (a b : State) :
    Quiet s (if c then a else b) ↔ (c → Quiet s a) ∧ (¬ c → Quiet s b) := by
  by_cases h : c <;> simp [h]

variable {r s : State}

/-! ## Leaves: one block changed -/

@[simp] theorem quiet_modTrc (f : Trc → Trc) (h : Quiet r s) : Quiet r (s.modTrc f) :=
  h.trans (by constructor <;> first | rfl | exact id)

@[simp] theorem quiet_setLva (c : Option Claim) (h : Quiet r s) : Quiet r (s.setLva c) :=
  h.trans (by constructor <;> first | rfl | exact id)

theorem quiet_modTsq (f : Tsq → Tsq) (hf : (f s.tsq).profile = s.tsq.profile) (h : Quiet r s) :
    Quiet r (s.modTsq f) :=
  h.trans (by constructor <;> first | rfl | exact id | exact hf)

theorem quiet_modBau (f : Bau → Bau) (hm : (f s.bau).minutes = s.bau.minutes)
    (hd : (f s.bau).divider = s.bau.divider) (ha : (f s.bau).ageing = s.bau.ageing) (h : Quiet r s) :
    Quiet r (s.modBau f) :=
  h.trans (by constructor <;> first | rfl | exact id | exact hm | exact hd | exact ha)

theorem quiet_modVsm (f : Vsm → Vsm) (hl : s.vsm.log.length ≤ logDepth → (f s.vsm).log.length ≤ logDepth)
    (hd : (s.vsm.dues.map (·.kind)).Nodup → ((f s.vsm).dues.map (·.kind)).Nodup) (h : Quiet r s) :
    Quiet r (s.modVsm f) :=
  h.trans (by constructor <;> first | rfl | exact id | exact hl | exact hd)

/-- A change of the VSM that touches neither the dues nor the log. -/
theorem quiet_modVsm_rest (f : Vsm → Vsm) (hl : (f s.vsm).log = s.vsm.log)
    (hd : (f s.vsm).dues = s.vsm.dues) (h : Quiet r s) : Quiet r (s.modVsm f) :=
  quiet_modVsm f (by rw [hl]; exact id) (by rw [hd]; exact id) h

@[simp] theorem quiet_testWd (b : Bool) (h : Quiet r s) :
    Quiet r (s.modClu fun c => { c with testWd := b }) :=
  h.trans (by constructor <;> first | rfl | exact id)

@[simp] theorem quiet_setModeCmd (m : Mode) (h : Quiet r s) : Quiet r (setModeCmd m s) := by
  refine h.trans ?_
  unfold setModeCmd
  constructor <;> first | exact id | (simp only [State.modClu]; split <;> rfl) | rfl

/-! ## Events and the horn -/

@[simp] theorem quiet_soundHorn (h : Quiet r s) : Quiet r (soundHorn s) :=
  h.trans (by constructor <;> first | rfl | exact id)

@[simp] theorem quiet_queueEvent (e : EventRec) (h : Quiet r s) : Quiet r (queueEvent e s) := by
  refine h.trans ?_
  unfold queueEvent
  split
  · constructor
    case events_le => intro _; simp_all
    all_goals first | rfl | exact id
  · constructor <;> first | rfl | exact id

@[simp] theorem quiet_raise (k : EventKind) (d : List Byte) (h : Quiet r s) : Quiet r (raise k d s) := by
  unfold raise
  exact quiet_queueEvent _ (by split <;> simp [h])

/-! ## Transmit queues -/

theorem settleCongestion_coord (l : Link) : (settleCongestion l).coord = l.coord := by
  unfold settleCongestion; split <;> rfl

/-- A change of the COORD queue that keeps its bound. -/
theorem quiet_coord (f : Link → Link)
    (hc : s.link.coord.length ≤ coordDepth → (f s.link).coord.length ≤ coordDepth)
    (hr : { f s.link with coord := s.link.coord, congestionReported := s.link.congestionReported } = s.link)
    (h : Quiet r s) : Quiet r (s.modLink f) := by
  have e := fun {α} (g : Link → α) => congrArg g hr
  refine h.trans ?_
  constructor
  case coord_le => exact hc
  case urgent_le => intro b; have := e (·.urgent); simp_all
  case station => exact e (·.station)
  case rate => exact e (·.rate)
  case linkState => exact e (·.state)
  case muteTimer => exact e (·.muteTimer)
  case duplicate => exact e (·.duplicateSeen)
  case lastTx => exact e (·.lastTransmitter)
  case attempt => exact e (·.attempt)
  case lineIdle => exact e (·.lineIdle)
  case rx => exact e (·.rx)
  all_goals first | rfl | exact id

@[simp] theorem quiet_congest (m : Msg) (h : Quiet r s) : Quiet r (congest m s) := by
  unfold congest
  split
  · exact h
  · exact quiet_coord (fun l => { l with congestionReported := true }) id rfl (quiet_raise _ _ h)

@[simp] theorem quiet_queueCoord (m : Msg) (h : Quiet r s) : Quiet r (queueCoord m s).1 := by
  unfold queueCoord
  split
  · exact h
  · split
    · refine quiet_coord (fun l => { l with coord := l.coord ++ [freshEntry m] }) ?_ rfl h
      intro _; simp_all
    · exact quiet_congest m h

@[simp] theorem quiet_postCoord (m : Msg) (h : Quiet r s) : Quiet r (postCoord m s) :=
  quiet_queueCoord m h

@[simp] theorem quiet_postForce (c : ForceCause) (h : Quiet r s) : Quiet r (postForce c s) := by
  unfold postForce
  split
  · exact h
  · split
    · refine h.trans ?_
      constructor
      case urgent_le => intro _; simp_all
      all_goals first | rfl | exact id
    · exact h

/-- What a withdrawal leaves of the COORD queue is no longer than it was. -/
theorem withdraw_coord_length (which : Msg → Bool) (b : Byte) (s : State) :
    (withdraw which b s).link.coord.length ≤ s.link.coord.length := by
  unfold withdraw
  simp only [State.modLink_link, settleCongestion_coord]
  split
  · simp_all
  · rename_i e rest he
    rw [he]
    split
    · simpa using List.length_filter_le _ rest
    · exact List.length_filter_le _ _

@[simp] theorem quiet_withdraw (which : Msg → Bool) (b : Byte) (h : Quiet r s) :
    Quiet r (withdraw which b s) := by
  refine h.trans ?_
  have hlen := withdraw_coord_length which b s
  have rest : ∀ l : Link, { settleCongestion l with
      coord := s.link.coord, congestionReported := s.link.congestionReported } =
      { l with coord := s.link.coord, congestionReported := s.link.congestionReported } := by
    intro l; unfold settleCongestion; split <;> rfl
  unfold withdraw at hlen ⊢
  refine quiet_coord _ (fun k => le_trans hlen k) ?_ (Quiet.refl s)
  rw [rest]
  split
  · rfl
  · split <;> rfl

/-- A change of the STATUS slot alone. -/
theorem quiet_status (f : Link → Link)
    (hr : { f s.link with status := s.link.status, heldStatus := s.link.heldStatus } = s.link)
    (h : Quiet r s) : Quiet r (s.modLink f) := by
  have e := fun {α} (g : Link → α) => congrArg g hr
  refine h.trans ?_
  constructor
  case coord_le => intro b; have := e (·.coord); simp_all
  case urgent_le => intro b; have := e (·.urgent); simp_all
  case station => exact e (·.station)
  case rate => exact e (·.rate)
  case linkState => exact e (·.state)
  case muteTimer => exact e (·.muteTimer)
  case duplicate => exact e (·.duplicateSeen)
  case lastTx => exact e (·.lastTransmitter)
  case attempt => exact e (·.attempt)
  case lineIdle => exact e (·.lineIdle)
  case rx => exact e (·.rx)
  all_goals first | rfl | exact id

@[simp] theorem quiet_queueStatus (h : Quiet r s) : Quiet r (queueStatus s) := by
  unfold queueStatus
  split
  · exact quiet_status _ (by split <;> rfl) h
  · exact h

@[simp] theorem quiet_setActivity (a : Activity) (h : Quiet r s) : Quiet r (setActivity a s) :=
  quiet_modTrc _ h

@[simp] theorem quiet_setOwnMode (m : Mode) (h : Quiet r s) : Quiet r (setOwnMode m s) := quiet_modTrc _ h

/-! ## Dues -/

@[simp] theorem quiet_raiseDue (k : DueKind) (d : List Byte) (h : Quiet r s) : Quiet r (raiseDue k d s) := by
  unfold raiseDue
  split
  · exact h
  · rename_i hk
    refine quiet_raise _ _ (quiet_modVsm _ id ?_ h)
    intro hn
    simp only [holdsDue, List.any_eq_true, decide_eq_true_eq, not_exists, not_and] at hk
    simp only [List.map_append, List.map_cons, List.map_nil]
    refine List.Nodup.append hn (by simp) ?_
    intro x hx hx'
    simp only [List.mem_map, List.mem_singleton] at hx hx'
    obtain ⟨d, hd, rfl⟩ := hx
    exact hk d hd hx'

@[simp] theorem quiet_clearDue (k : DueKind) (d : List Byte) (h : Quiet r s) : Quiet r (clearDue k d s) := by
  unfold clearDue
  split
  · refine quiet_raise _ _ (quiet_modVsm _ id ?_ h)
    intro hn
    exact hn.sublist ((List.filter_sublist (l := s.vsm.dues)).map _)
  · exact h

/-- A change of the arm flags alone. -/
theorem quiet_arm (f : Vsm → Vsm) (hf : ∀ v, (f v).log = v.log ∧ (f v).dues = v.dues) (h : Quiet r s) :
    Quiet r (s.modVsm f) := quiet_modVsm_rest f (hf _).1 (hf _).2 h

@[simp] theorem quiet_evaluateReplace (h : Quiet r s) : Quiet r (evaluateReplace s) := by
  unfold evaluateReplace
  split
  · split
    · exact quiet_raiseDue _ _ (quiet_arm _ (fun _ => ⟨rfl, rfl⟩) h)
    · exact h
  · exact quiet_arm _ (fun _ => ⟨rfl, rfl⟩) h

@[simp] theorem quiet_evaluateInspect (h : Quiet r s) : Quiet r (evaluateInspect s) := by
  unfold evaluateInspect
  split
  · split
    · exact quiet_raiseDue _ _ (quiet_arm _ (fun _ => ⟨rfl, rfl⟩) h)
    · exact h
  · exact quiet_arm _ (fun _ => ⟨rfl, rfl⟩) h

@[simp] theorem quiet_evaluateDues (h : Quiet r s) : Quiet r (evaluateDues s) := by
  have h₂ := quiet_evaluateInspect (quiet_evaluateReplace h)
  have h₃ : Quiet r (evaluateOverdue (evaluateInspect (evaluateReplace s))) := by
    unfold evaluateOverdue; split
    · exact quiet_raiseDue _ _ h₂
    · exact h₂
  show Quiet r (evaluatePeriodic _)
  unfold evaluatePeriodic
  split
  · exact quiet_raiseDue _ _ h₃
  · exact h₃

@[simp] theorem quiet_faultFollowup (c : Byte) (h : Quiet r s) : Quiet r (faultFollowup c s) :=
  quiet_raiseDue _ _ h

/-! ## The battery account -/

@[simp] theorem quiet_refreshRuntime (h : Quiet r s) : Quiet r (refreshRuntime s) :=
  quiet_modBau _ rfl rfl rfl h

@[simp] theorem quiet_refreshWeak (h : Quiet r s) : Quiet r (refreshWeak s) := quiet_modBau _ rfl rfl rfl h

@[simp] theorem quiet_recomputeHealth (h : Quiet r s) : Quiet r (recomputeHealth s) := by
  unfold recomputeHealth
  simp only
  split
  · exact quiet_modBau _ rfl rfl rfl h
  · exact quiet_refreshWeak (quiet_refreshRuntime
      (quiet_modBau _ rfl rfl rfl (quiet_modBau _ rfl rfl rfl h)))

@[simp] theorem quiet_previewHealth (h : Quiet r s) : Quiet r (previewHealth s) :=
  quiet_refreshWeak (quiet_modBau _ rfl rfl rfl h)

@[simp] theorem quiet_addLife (n : Nat) (h : Quiet r s) : Quiet r (addLife n s) :=
  quiet_modBau _ rfl rfl rfl h

@[simp] theorem quiet_setCharge (n : Nat) (h : Quiet r s) : Quiet r (setCharge n s) :=
  quiet_modBau _ rfl rfl rfl h

@[simp] theorem quiet_takeTemperature (f : SenseFrame) (h : Quiet r s) : Quiet r (takeTemperature f s) := by
  unfold takeTemperature
  split
  · exact h
  · refine quiet_modBau _ ?_ ?_ ?_ h <;> split <;> rfl

@[simp] theorem quiet_countCharge (m : Nat) (i : Int) (h : Quiet r s) : Quiet r (countCharge m i s) :=
  quiet_modBau _ rfl rfl rfl h

@[simp] theorem quiet_countFloat (f : SenseFrame) (g m : Nat) (h : Quiet r s) :
    Quiet r (countFloat f g m s) := by
  unfold countFloat
  simp only
  generalize (if floatHolds f s = true then _ else 0 : Nat) = n
  split
  · exact quiet_modBau _ rfl rfl rfl h
  · exact quiet_modBau _ rfl rfl rfl h

@[simp] theorem quiet_countDischarge (m : Nat) (i : Int) (h : Quiet r s) :
    Quiet r (countDischarge m i s) := by
  unfold countDischarge
  split
  · exact quiet_addLife _ (quiet_modBau _ rfl rfl rfl h)
  · exact h

@[simp] theorem quiet_recountHealth (h : Quiet r s) : Quiet r (recountHealth s) := by
  have h₁ := quiet_recomputeHealth h
  unfold recountHealth
  simp only
  split
  · exact h₁
  · exact quiet_evaluateDues h₁

@[simp] theorem quiet_accountFrame (f : SenseFrame) (g m : Nat) (h : Quiet r s) :
    Quiet r (accountFrame f g m s) := by
  have h₁ := quiet_takeTemperature f h
  have h₂ := quiet_countDischarge m f.i (quiet_countFloat f g m (quiet_countCharge m f.i h₁))
  unfold accountFrame
  simp only
  split
  · refine quiet_refreshRuntime ?_
    split
    · exact h₂
    · exact quiet_recountHealth h₂
  · exact h₁

@[simp] theorem quiet_verdictUpdate (g : Bool) (x : Option Nat) (h : Quiet r s) :
    Quiet r (verdictUpdate g x s) := by
  unfold verdictUpdate
  exact quiet_evaluateDues (quiet_clearDue _ _ (quiet_refreshWeak (quiet_recomputeHealth
    (quiet_modBau _ rfl rfl rfl h))))

@[simp] theorem quiet_renewAccount (h : Quiet r s) : Quiet r (renewAccount s) := by
  unfold renewAccount
  exact quiet_refreshRuntime (quiet_setCharge _ (quiet_refreshWeak (quiet_recomputeHealth
    (quiet_modBau _ rfl rfl rfl h))))

@[simp] theorem quiet_replaceBattery (h : Quiet r s) : Quiet r (replaceBattery s) := by
  unfold replaceBattery
  exact quiet_evaluateDues (quiet_arm _ (fun _ => ⟨rfl, rfl⟩) (quiet_renewAccount h))

@[simp] theorem quiet_takeUpRecord (h : Quiet r s) : Quiet r (takeUpRecord s) := by
  unfold takeUpRecord
  exact quiet_refreshRuntime (quiet_modBau _ rfl rfl rfl (quiet_setCharge _ (quiet_previewHealth
    (quiet_modBau _ rfl rfl rfl h))))

end Sys2Proof.Machine
end

