-- ==== Sys2Proof/Laws/QuietOps.lean ====
section
/-! SUPPORT. `Quiet` for the operations that run through several blocks, up to `settle`: one lemma per
operation. -/

namespace Sys2Proof.Machine

variable {r s : State}

/-! ## The own claim and the test run -/

@[simp] theorem quiet_releaseClaim (h : Quiet r s) : Quiet r (releaseClaim s) := by
  unfold releaseClaim
  split
  · exact h
  · simp (maxDischargeDepth := 12) [h]

@[simp] theorem quiet_releaseKind (k : ClaimKind) (h : Quiet r s) : Quiet r (releaseKind k s) := by
  unfold releaseKind
  simp (maxDischargeDepth := 12) [h]

@[simp] theorem quiet_fixClaim (h : Quiet r s) : Quiet r (fixClaim s) := by
  unfold fixClaim
  split <;> simp (maxDischargeDepth := 12) [h]

@[simp] theorem quiet_enterStep (n : Nat) (h : Quiet r s) : Quiet r (enterStep n s) := by
  unfold enterStep
  split
  · exact h
  · exact quiet_testWd _ (quiet_modTsq _ rfl h)

@[simp] theorem quiet_takeCapture (n : Nat) (h : Quiet r s) : Quiet r (takeCapture n s) := by
  unfold takeCapture
  split
  · exact quiet_modTsq _ rfl h
  · exact h

@[simp] theorem quiet_endRun (c : EndCause) (h : Quiet r s) : Quiet r (endRun c s) := by
  unfold endRun
  simp only
  split
  · exact quiet_raise _ _ (quiet_modTsq _ rfl (by simp (maxDischargeDepth := 12) [h]))
  · exact quiet_verdictUpdate _ _ (quiet_raise _ _ (quiet_modTsq _ rfl (by simp (maxDischargeDepth := 12) [h])))

@[simp] theorem quiet_abortRun (c : EndCause) (h : Quiet r s) : Quiet r (abortRun c s) := by
  unfold abortRun
  simp (maxDischargeDepth := 12) [h]

@[simp] theorem quiet_abortUnderway (c : EndCause) (h : Quiet r s) : Quiet r (abortUnderway c s) := by
  unfold abortUnderway
  simp (maxDischargeDepth := 12) [h]

/-! ## The visit record -/

@[simp] theorem quiet_modVisit (f : Visit → Visit) (h : Quiet r s) : Quiet r (modVisit f s) :=
  quiet_modVsm_rest _ rfl rfl h

@[simp] theorem quiet_tellVisit (v : Visit) (n : Nat) (c : List Byte) (h : Quiet r s) :
    Quiet r (tellVisit v n c s) := quiet_raise _ _ h

@[simp] theorem quiet_enterVisitState (st : VisitState) (h : Quiet r s) : Quiet r (enterVisitState st s) := by
  unfold enterVisitState
  split
  · exact h
  · simp (maxDischargeDepth := 12) [h]

theorem quiet_clearDues (l : List DueKind) (d : List Byte) (h : Quiet r s) :
    Quiet r (l.foldl (fun s k => clearDue k d s) s) := by
  induction l generalizing s with
  | nil => exact h
  | cons k l ih => exact ih (quiet_clearDue k d h)

@[simp] theorem quiet_completeVisit (v : Visit) (h : Quiet r s) : Quiet r (completeVisit v s) := by
  unfold completeVisit
  have h₁ := quiet_clearDues (clearedDues v s) (u16 v.number) h
  simp only
  split
  · split
    · exact quiet_replaceBattery (quiet_modBau _ rfl rfl rfl h₁)
    · exact quiet_replaceBattery h₁
  · split
    · exact quiet_modBau _ rfl rfl rfl h₁
    · exact h₁

@[simp] theorem quiet_appendLog (x : LogRec) (h : Quiet r s) : Quiet r (appendLog x s) := by
  refine quiet_modVsm _ ?_ id h
  intro hl
  simp only [List.length_append, List.length_singleton]
  split
  · rename_i hk; exact hk
  · simp only [List.length_drop]; simp only [logDepth] at *; omega

@[simp] theorem quiet_closeVisit (o : VisitOutcome) (c : List Byte) (h : Quiet r s) :
    Quiet r (closeVisit o c s) := by
  unfold closeVisit
  split
  · exact h
  · have h₁ : Quiet r (s.modVsm fun m => { m with visit := none }) := quiet_modVsm_rest _ rfl rfl h
    simp (maxDischargeDepth := 12) [h₁]

@[simp] theorem quiet_wrapLog (h : Quiet r s) : Quiet r (wrapLog s) := by
  unfold wrapLog
  split
  · exact quiet_modVsm _ (by simp) id h
  · exact h

@[simp] theorem quiet_noteVisitNumber (n : Nat) (h : Quiet r s) : Quiet r (noteVisitNumber n s) :=
  quiet_modBau _ rfl rfl rfl (quiet_wrapLog h)

@[simp] theorem quiet_joinEnded (h : Quiet r s) : Quiet r (joinEnded s) := by
  unfold joinEnded
  split <;> simp (maxDischargeDepth := 12) [h]

/-! ## Mode control -/

@[simp] theorem quiet_clearProposal (w : Msg → Bool) (b : Byte) (h : Quiet r s) :
    Quiet r (clearProposal w b s) := by
  simp (maxDischargeDepth := 12) [clearProposal, h]

@[simp] theorem quiet_dropOwn (i : PropId) (x : Option Reason) (m : List Byte) (h : Quiet r s) :
    Quiet r (dropOwn i x m s) := by
  unfold dropOwn
  cases x <;> simp (maxDischargeDepth := 12) [h]

@[simp] theorem quiet_dropFollowed (i : PropId) (h : Quiet r s) : Quiet r (dropFollowed i s) :=
  quiet_clearProposal _ _ h

@[simp] theorem quiet_dropProposal (x : Option Reason) (m : List Byte) (h : Quiet r s) :
    Quiet r (dropProposal x m s) := by
  unfold dropProposal
  split <;> simp (maxDischargeDepth := 12) [h]

@[simp] theorem quiet_beginSwitch (m : Mode) (o : Origin) (h : Quiet r s) : Quiet r (beginSwitch m o s) := by
  simp (maxDischargeDepth := 12) [beginSwitch, h]

@[simp] theorem quiet_tellDone (m : Mode) (h : Quiet r s) : Quiet r (tellDone m s) := by
  unfold tellDone
  split <;> simp (maxDischargeDepth := 12) [h]

@[simp] theorem quiet_reportEnd (m : Mode) (o : Origin) (h : Quiet r s) : Quiet r (reportEnd m o s) := by
  unfold reportEnd
  split <;> simp (maxDischargeDepth := 12) [h]

@[simp] theorem quiet_endSwitchCore (m : Mode) (o : Origin) (h : Quiet r s) :
    Quiet r (endSwitchCore m o s) := by
  simp (maxDischargeDepth := 12) [endSwitchCore, h]

@[simp] theorem quiet_switchAway (m : Mode) (o : Origin) (h : Quiet r s) : Quiet r (switchAway m o s) := by
  simp (maxDischargeDepth := 12) [switchAway, h]

@[simp] theorem quiet_startHold (h : Quiet r s) : Quiet r (startHold s) := quiet_modTrc _ h

@[simp] theorem quiet_clearForForce (h : Quiet r s) : Quiet r (clearForForce s) := by
  simp (maxDischargeDepth := 12) [clearForForce, h]

@[simp] theorem quiet_actOnForce (p : Station) (b : Bool) (h : Quiet r s) : Quiet r (actOnForce p b s) := by
  simp (maxDischargeDepth := 12) [actOnForce, h]

@[simp] theorem quiet_force (c : ForceCause) (h : Quiet r s) : Quiet r (force c s) := by
  unfold force
  cases c <;> simp (maxDischargeDepth := 12) [h]

@[simp] theorem quiet_tellDropout (h : Quiet r s) : Quiet r (tellDropout s) := quiet_raise _ _ h

@[simp] theorem quiet_dropOut (h : Quiet r s) : Quiet r (dropOut s) := by simp (maxDischargeDepth := 12) [dropOut, h]

@[simp] theorem quiet_inverterFault (h : Quiet r s) : Quiet r (inverterFault s) := by
  simp (maxDischargeDepth := 12) [inverterFault, h]

@[simp] theorem quiet_failSwitch (h : Quiet r s) : Quiet r (failSwitch s) := by simp (maxDischargeDepth := 12) [failSwitch, h]

@[simp] theorem quiet_startOverload (h : Quiet r s) : Quiet r (startOverload s) := by
  simp (maxDischargeDepth := 12) [startOverload, h]

@[simp] theorem quiet_checkOverload (h : Quiet r s) : Quiet r (checkOverload s) := by
  simp (maxDischargeDepth := 12) [checkOverload, h]

@[simp] theorem quiet_tellInterlock (n : Nat) (h : Quiet r s) : Quiet r (tellInterlock n s) :=
  quiet_raise _ _ h

@[simp] theorem quiet_checkMaint (h : Quiet r s) : Quiet r (checkMaint s) := by simp (maxDischargeDepth := 12) [checkMaint, h]

@[simp] theorem quiet_endSwitch (m : Mode) (o : Origin) (h : Quiet r s) : Quiet r (endSwitch m o s) := by
  simp (maxDischargeDepth := 12) [endSwitch, h]

@[simp] theorem quiet_switchTo (m : Mode) (o : Origin) (h : Quiet r s) : Quiet r (switchTo m o s) := by
  simp (maxDischargeDepth := 12) [switchTo, h]

@[simp] theorem quiet_enterMismatch (h : Quiet r s) : Quiet r (enterMismatch s) := by
  simp (maxDischargeDepth := 12) [enterMismatch, h]

@[simp] theorem quiet_joinFloor (h : Quiet r s) : Quiet r (joinFloor s) := quiet_switchTo _ _ h

@[simp] theorem quiet_requestOff (h : Quiet r s) : Quiet r (requestOff s) := by
  unfold requestOff
  simp only
  split <;> simp (maxDischargeDepth := 12) [h]

@[simp] theorem quiet_executeTransfer (i : PropId) (d : Direction) (h : Quiet r s) :
    Quiet r (executeTransfer i d s) := by
  simp (maxDischargeDepth := 12) [executeTransfer, h]

@[simp] theorem quiet_modProposal (f : ProposalRec → ProposalRec) (h : Quiet r s) :
    Quiet r (modProposal f s) := quiet_modTrc _ h

@[simp] theorem quiet_arm_transfer (i : PropId) (d : Direction) (t : FloorTime) (h : Quiet r s) :
    Quiet r (arm i d t s) := by
  simp (maxDischargeDepth := 12) [arm, h]

@[simp] theorem quiet_cancelProposal (i : PropId) (x : Reason) (m : List Byte) (h : Quiet r s) :
    Quiet r (cancelProposal i x m s) := by
  simp (maxDischargeDepth := 12) [cancelProposal, h]

@[simp] theorem quiet_queueOrder (i : PropId) (h : Quiet r s) : Quiet r (queueOrder i s) := by
  have hq : Quiet r (queueCoord (.order i)
      (modProposal (fun r => { r with phase := some .ordering, window := none }) s)).1 := by simp (maxDischargeDepth := 12) [h]
  unfold queueOrder
  simp only
  split <;> rename_i e <;> rw [e] at hq <;> simp (maxDischargeDepth := 12) [hq]

@[simp] theorem quiet_checkConsents (h : Quiet r s) : Quiet r (checkConsents s) := by
  unfold checkConsents
  split <;> simp (maxDischargeDepth := 12) [h]

@[simp] theorem quiet_excuseMember (p : Station) (h : Quiet r s) : Quiet r (excuseMember p s) := by
  unfold excuseMember
  split <;> simp (maxDischargeDepth := 12) [h]

@[simp] theorem quiet_beginProposal (d : Direction) (h : Quiet r s) : Quiet r (beginProposal d s) := by
  unfold beginProposal
  simp only
  split
  · simp (maxDischargeDepth := 12) [h]
  · split <;> rename_i e <;> replace e := congrArg Prod.fst e <;> simp only at e <;> subst e <;> simp (maxDischargeDepth := 12) [h]

/-! ## Visits, claims and what follows a change of the view -/

@[simp] theorem quiet_requestJoin (h : Quiet r s) : Quiet r (requestJoin s) := by
  unfold requestJoin
  split <;> simp (maxDischargeDepth := 12) [h]

@[simp] theorem quiet_joinTurnedAway (v : Visit) (x : Reason) (h : Quiet r s) :
    Quiet r (joinTurnedAway v x s) := by
  simp (maxDischargeDepth := 12) [joinTurnedAway, h]

@[simp] theorem quiet_tryJoin (h : Quiet r s) : Quiet r (tryJoin s) := by
  unfold tryJoin
  split
  · exact h
  · split
    · split <;> simp (maxDischargeDepth := 12) [h]
    · exact h

@[simp] theorem quiet_enterIsolated (h : Quiet r s) : Quiet r (enterIsolated s) := by
  simp (maxDischargeDepth := 12) [enterIsolated, h]

@[simp] theorem quiet_enterIsolating (h : Quiet r s) : Quiet r (enterIsolating s) := by
  simp (maxDischargeDepth := 12) [enterIsolating, h]

@[simp] theorem quiet_enterRestoring (h : Quiet r s) : Quiet r (enterRestoring s) := by
  simp (maxDischargeDepth := 12) [enterRestoring, h]

@[simp] theorem quiet_enterMaintOn (h : Quiet r s) : Quiet r (enterMaintOn s) := by
  simp (maxDischargeDepth := 12) [enterMaintOn, h]

@[simp] theorem quiet_leaveIsolating (o : VisitOutcome) (c : List Byte) (h : Quiet r s) :
    Quiet r (leaveIsolating o c s) := by
  simp (maxDischargeDepth := 12) [leaveIsolating, h]

@[simp] theorem quiet_tellGrant (k : ClaimKind) (h : Quiet r s) : Quiet r (tellGrant k s) := by
  unfold tellGrant
  split <;> simp (maxDischargeDepth := 12) [h]

@[simp] theorem quiet_tellDenial (k : ClaimKind) (b : Byte) (h : Quiet r s) : Quiet r (tellDenial k b s) := by
  unfold tellDenial
  split <;> simp (maxDischargeDepth := 12) [h]

@[simp] theorem quiet_tellLoss (k : ClaimKind) (x : Reason) (h : Quiet r s) : Quiet r (tellLoss k x s) := by
  unfold tellLoss
  split <;> simp (maxDischargeDepth := 12) [h]

@[simp] theorem quiet_grantClaim (h : Quiet r s) : Quiet r (grantClaim s) := by
  unfold grantClaim
  split <;> simp (maxDischargeDepth := 12) [h]

@[simp] theorem quiet_denialOf (k : ClaimKind) (b : Byte) (p : Station) (h : Quiet r s) :
    Quiet r (denialOf k b p s) := by
  simp (maxDischargeDepth := 12) [denialOf, h]

@[simp] theorem quiet_denyClaim (b : Byte) (p : Station) (h : Quiet r s) : Quiet r (denyClaim b p s) := by
  unfold denyClaim
  split <;> simp (maxDischargeDepth := 12) [h]

@[simp] theorem quiet_loseClaim (x : Reason) (h : Quiet r s) : Quiet r (loseClaim x s) := by
  unfold loseClaim
  split <;> simp (maxDischargeDepth := 12) [h]

@[simp] theorem quiet_claimLocally (k : ClaimKind) (h : Quiet r s) : Quiet r (claimLocally k s) := by
  unfold claimLocally
  split <;> simp (maxDischargeDepth := 12) [h]

@[simp] theorem quiet_takeClaimRequest (k : ClaimKind) (h : Quiet r s) : Quiet r (takeClaimRequest k s) := by
  unfold takeClaimRequest
  simp only
  split
  · simp (maxDischargeDepth := 12) [h]
  · split <;> rename_i e <;> replace e := congrArg Prod.fst e <;> simp only at e <;> subst e <;> simp (maxDischargeDepth := 12) [h]

@[simp] theorem quiet_noteFloorMode (h : Quiet r s) : Quiet r (noteFloorMode s) := by
  simp (maxDischargeDepth := 12) [noteFloorMode, h]

@[simp] theorem quiet_reevaluate (h : Quiet r s) : Quiet r (reevaluate s) := by
  unfold reevaluate
  split
  · exact h
  · split
    · split <;> simp (maxDischargeDepth := 12) [h]
    · exact h

@[simp] theorem quiet_settle (h : Quiet r s) : Quiet r (settle s) := by
  simp (maxDischargeDepth := 12) [settle, h]

end Sys2Proof.Machine
end

