-- ==== Sys2Proof/Laws/Settle.lean ====
section
/-! SUPPORT. What the re-evaluation of the own claim reads, and what `settle` does where it keeps the claim
(R122, R109). -/

namespace Sys2Proof.Machine

variable {s t : State}

/-- The values that tests 3 and 4 read when the own claim is judged again (R118, R119, R122): of the own station its
number, own mode, isolated flag and last frame, of the others what the view counts, and the two settings. The own
weak flag, sense-lost flag and capacities are not among them, since the claimant has left. -/
structure SameView (s t : State) : Prop where
  station  : t.link.station = s.link.station
  mode     : t.trc.ownMode = s.trc.ownMode
  isolated : isolatedFlag t = isolatedFlag s
  frame    : t.sns.last = s.sns.last
  others   : (presentPeers t).map Peer.counted = (presentPeers s).map Peer.counted
  margin   : t.hpi.floor.margin = s.hpi.floor.margin
  minInv   : t.hpi.floor.minInv = s.hpi.floor.minInv

namespace SameView

theorem refl (s : State) : SameView s s := ⟨rfl, rfl, rfl, rfl, rfl, rfl, rfl⟩

theorem trans {u : State} (h : SameView s t) (k : SameView t u) : SameView s u :=
  ⟨k.station.trans h.station, k.mode.trans h.mode, k.isolated.trans h.isolated, k.frame.trans h.frame,
    k.others.trans h.others, k.margin.trans h.margin, k.minInv.trans h.minInv⟩

theorem source (h : SameView s t) : ownSource t = ownSource s := by simp only [ownSource, h.frame]

theorem load (h : SameView s t) : ownLoad t = ownLoad s := by simp only [ownLoad, h.frame]

theorem onBattery (h : SameView s t) : onBattery t = onBattery s := by
  simp only [Machine.onBattery, countedStations, List.any_cons, ownCounted, ownReport, h.isolated, h.source, h.others]

theorem floorLoad (h : SameView s t) : floorLoad t = floorLoad s := by
  simp only [Machine.floorLoad, countedStations, List.filter_cons, ownCounted, ownReport, h.isolated, h.mode, h.load,
    h.others]
  split <;> simp [sumOf]

theorem remaining (h : SameView s t) (time : FloorTime) :
    remaining t t.link.station time = remaining s s.link.station time := by
  have others : ∀ r : State, Machine.remaining r r.link.station time
      = ((presentPeers r).map Peer.counted).filter
          fun c => !c.report.isolated && c.inverting && !hasLeft c r.link.station time := fun r => by
    simp [Machine.remaining, countedStations, hasLeft, ownCounted, State.own]
  rw [others, others, h.others, h.station]

/-- The own claim is judged alike on two states of the same view. -/
theorem keepCheck (h : SameView s t) (time : FloorTime) :
    keepCheck t t.link.station time = keepCheck s s.link.station time := by
  have thin : marginFails t t.link.station time = marginFails s s.link.station time := by
    unfold marginFails sparedBacked
    rw [h.remaining, h.floorLoad, h.margin, h.minInv]
  unfold Machine.keepCheck
  rw [h.onBattery, thin]

/-- A claim that the view keeps is kept on every state of the same view. -/
theorem claimKept (h : SameView s t) (l : t.lva = s.lva) (k : ClaimKept s) : ClaimKept t := by
  intro c hc
  rw [l] at hc
  exact (k c hc).imp id (Or.imp id fun e => (h.keepCheck c.time).trans e)

end SameView

theorem reevaluate_of_kept (h : ClaimKept s) : reevaluate s = s := by
  unfold reevaluate
  split
  · rfl
  · rename_i c hc
    have k := h c hc
    have own : s.own = s.link.station := rfl
    split
    · rename_i g
      simp only [Bool.and_eq_true, Bool.not_eq_true'] at g
      simp only [g.1, g.2, Bool.true_eq_false, Bool.false_eq_true, false_or] at k
      rw [own, k]
    · rfl

/-- The last-known floor mode is no part of the view. -/
theorem sameView_noteFloorMode (s : State) : SameView s (noteFloorMode s) := by
  unfold noteFloorMode
  split
  · exact ⟨rfl, rfl, rfl, rfl, rfl, rfl, rfl⟩
  · exact .refl s

/-- Where the claim is kept, `settle` changes the last-known floor mode alone. -/
theorem settle_of_kept (h : ClaimKept s) : ∃ m, settle s = s.modTrc fun t => { t with lastKnown := m } := by
  have lva : (noteFloorMode s).lva = s.lva := by unfold noteFloorMode; split <;> rfl
  have kept : ClaimKept (noteFloorMode s) := (sameView_noteFloorMode s).claimKept lva h
  unfold settle
  split
  · rename_i r
    rw [reevaluate_of_kept kept]
    have twice : (noteFloorMode s).hpi.running = true := by unfold noteFloorMode; split <;> exact r
    rw [noteFloorMode, if_pos twice, noteFloorMode, if_pos r]
    exact ⟨_, rfl⟩
  · exact ⟨s.trc.lastKnown, rfl⟩

/-! ## A TEST claim that is lost -/

theorem raise_lva (k : EventKind) (detail : List Byte) (s : State) : (raise k detail s).lva = s.lva := by
  dsimp only [raise, queueEvent, soundHorn]
  repeat' split
  all_goals rfl

theorem raise_tsq (k : EventKind) (detail : List Byte) (s : State) : (raise k detail s).tsq = s.tsq := by
  dsimp only [raise, queueEvent, soundHorn]
  repeat' split
  all_goals rfl

theorem queueStatus_lva (s : State) : (queueStatus s).lva = s.lva := by unfold queueStatus; split <;> rfl

/-- The own TEST claim is gone once it has been released. -/
theorem releaseKind_test_lva {c : Claim} (l : s.lva = some c) (k : c.kind = .test) :
    (releaseKind .test s).lva = none := by
  simp only [releaseKind, l, Option.map_some, k, if_true, releaseClaim, queueStatus_lva, State.setLva_lva]

/-- A run that ends with no verdict leaves no TEST claim. -/
theorem endRun_lva {c : Claim} {cause : EndCause} (l : s.lva = some c) (k : c.kind = .test)
    (v : verdictOf cause (testResistance s.tsq.profile s.tsq.run.captures) s = none) :
    (endRun cause s).lva = none := by
  simp only [endRun, v, raise_lva, State.modTsq_lva]
  exact releaseKind_test_lva (by simpa using l) k

theorem verdictOf_lossCause (r : Reason) (resistance : Option Nat) (s : State) :
    verdictOf (lossCause r) resistance s = none := by unfold lossCause; split <;> rfl

/-- The loss of the TEST claim of a run under way is CLAIM_LOST and the end of the run, which releases the claim
(R125). -/
theorem loseClaim_of_run {c : Claim} (r : Reason) (l : s.lva = some c) (k : c.kind = .test)
    (u : s.tsq.state.underway = true) :
    loseClaim r s = endRun (lossCause r) (raise .claimLost (u8 c.kind.code ++ [r.byte]) s) := by
  have told : tellLoss .test r (raise .claimLost (u8 c.kind.code ++ [r.byte]) s)
      = endRun (lossCause r) (raise .claimLost (u8 c.kind.code ++ [r.byte]) s) := by
    simp only [tellLoss, abortUnderway, raise_tsq, u, if_true, lossCause]
  have gone := endRun_lva (cause := lossCause r) ((raise_lva .claimLost (u8 c.kind.code ++ [r.byte]) s).trans l) k
    (verdictOf_lossCause _ _ _)
  rw [k] at told gone
  simp only [loseClaim, l, k, told, releaseKind, gone]
  rfl

/-- Where the claim of a run under way fails, `settle` loses it, and beside that changes the last-known floor mode
alone. -/
theorem settle_of_testClaimFails {c : Claim} {r : Reason} (run : s.hpi.running = true) (h : TestClaimFails c r s) :
    ∃ m, settle s = noteFloorMode (endRun (lossCause r) (raise .claimLost (u8 c.kind.code ++ [r.byte])
      (s.modTrc fun t => { t with lastKnown := m }))) := by
  obtain ⟨l, k, g, f, u, e⟩ := h
  refine ⟨knownFloorMode s, ?_⟩
  have note : noteFloorMode s = s.modTrc fun t => { t with lastKnown := knownFloorMode s } := by
    rw [noteFloorMode, if_pos run]
  have fails := (sameView_noteFloorMode s).keepCheck c.time
  rw [e, note] at fails
  have lost : reevaluate (s.modTrc fun t => { t with lastKnown := knownFloorMode s })
      = loseClaim r (s.modTrc fun t => { t with lastKnown := knownFloorMode s }) := by
    unfold reevaluate
    simp only [State.modTrc_lva, l, g, f, State.own, Bool.not_false, Bool.and_self, if_true, fails]
  rw [settle, if_pos run, note, lost]
  exact congrArg noteFloorMode (loseClaim_of_run (s := s.modTrc fun t => { t with lastKnown := knownFloorMode s }) r l k u)

end Sys2Proof.Machine
end

