-- ==== Sys2Proof/Laws/Windows.lean ====
section
/-! SUPPORT. What the waiting slot of the host port can do (R167). -/

namespace Sys2Proof.Machine

/-- The slot stays empty exactly where it was empty and no window carries a command frame. -/
theorem fillSlot_eq_none {slot : Option (List Byte)} {windows : List (List Byte)} :
    fillSlot slot windows = none ↔ slot = none ∧ ∀ w ∈ windows, isCommandFrame w = false := by
  cases slot <;> simp [fillSlot]

/-- A frame that fills an empty slot carries a command and is one of the windows. -/
theorem fillSlot_some {windows : List (List Byte)} {w : List Byte} (h : fillSlot none windows = some w) :
    w ∈ windows ∧ isCommandFrame w = true :=
  List.mem_filter.mp (List.mem_of_head? h)

@[simp] theorem takeUnanswered_waiting (frame next : List Byte) (s : State) :
    (takeUnanswered frame next s).hpi.waiting = none := rfl

@[simp] theorem takeUnanswered_response (frame next : List Byte) (s : State) :
    (takeUnanswered frame next s).hpi.response = none := rfl

/-- What every command taken keeps, a whole row of the waiting slot keeps: the last command of the row is taken
with the slot empty, and each one before it goes unanswered. -/
theorem takeRounds_keeps {P : State → Prop}
    (last : ∀ frame s, s.hpi.waiting = none → P s → P (takeWindow frame s))
    (unanswered : ∀ frame next s, P s → P (takeUnanswered frame next s))
    (closed : List (List (List Byte))) (frame : List Byte) (s : State) (h : P s) :
    P (takeRounds frame closed s) := by
  induction closed generalizing frame s with
  | nil =>
    unfold takeRounds
    split
    · exact last _ _ ‹_› h
    · exact last _ _ (by simp) (unanswered _ _ _ h)
  | cons windows more ih =>
    unfold takeRounds
    split
    · exact last _ _ (fillSlot_eq_none.mp ‹_›).1 h
    · exact ih _ _ (unanswered _ _ _ h)

end Sys2Proof.Machine
end

