-- ==== Sys2Proof/Tests/Slice0.lean ====
section
/-! SUPPORT. Tests: ill-formed commands that are refused, worked figures of the manual, and for every
statement with hypotheses a state and operands that meet them. -/

namespace Sys2Proof.Machine

set_option Elab.async false

/-! ## Ill-formed commands -/

theorem test_wf_refuses_long_slot_frame :
    (Instr.waitingSlotTake ⟨[0x10#8, 0#8], [[List.replicate 258 0#8]]⟩).wf = false := by decide +kernel

theorem test_wf_refuses_known_code_as_unknown : (Instr.unknownCommand 0x10#8 [0#8]).wf = false := by decide

theorem test_wf_refuses_read_code_as_unknown : (Instr.unknownCommand 0xFF#8 [0#8]).wf = false := by decide

theorem test_wf_refuses_long_window : (Instr.restart (List.replicate 257 0#8)).wf = false := by decide +kernel

theorem test_wf_refuses_other_kind : (Instr.orderReceived [0xA5#8, 0x60#8, 3#8]).wf = false := by decide

theorem test_wf_refuses_missing_start : (Instr.statusReceived [0xA4#8, 0x10#8, 3#8]).wf = false := by decide

theorem test_wf_refuses_long_frame :
    (Instr.forceReceived (0xA5#8 :: 0x70#8 :: List.replicate 36 0#8)).wf = false := by decide +kernel

theorem test_wf_refuses_own_status_as_other :
    (Instr.ownMessageHeard [0xA5#8, 0x10#8, 0#8]).wf = false := by decide

theorem test_wf_refuses_claim_subject_as_transfer :
    (Instr.transferObjectReceived [0xA5#8, 0x40#8, 6#8, 2#8]).wf = false := by decide

theorem test_wf_refuses_transfer_subject_as_claim :
    (Instr.claimObjectReceived [0xA5#8, 0x40#8, 4#8, 1#8]).wf = false := by decide

theorem test_wf_refuses_short_sense_frame : (Instr.validSenseFrame [0xC3#8]).wf = false := by decide

theorem test_wf_accepts_restart : (Instr.restart [0#8]).wf = true := by decide

/-! ## States -/

def high : LineIn := ⟨true, true, none⟩

def frameAt (mains ready : Bool) : SenseFrame := ⟨5#8, 40000, 10, 50, some 250, none, none, none, mains, ready⟩

/-- Station 0, RUNNING and settled on inverter, ALIGNED, with station 1 PRESENT on inverter; a message is being
received. -/
def inverting : State :=
  { State.reset with
    link := { State.reset.link with state := .active, rx := some 4900#32 }
    peers := State.reset.peers.map fun e =>
      if e.station = 1 then
        { e with
          presence := .present, presTimer := some 3000
          report := { e.report with
            mode := .inv, align := .aligned, carrying := 100, ready := 100, load := 40, health := 900 } }
      else e
    ftu := { State.reset.ftu with align := .aligned, streak := 3, floorTime := 5000#32 }
    clu := { State.reset.clu with
      supv := true, modeCmd := .inv, fb := ⟨true, false, .inv, none⟩, bypOk := high, input := high
      bypassIn := high, output := high, battery := high }
    sns := ⟨.live, some (frameAt true true), some 5#8, some 0⟩
    bau := { State.reset.bau with q := 7200000 }
    trc := { State.reset.trc with ownMode := .inv, lastKnown := some .inv }
    hpi := { State.reset.hpi with
      running := true, configured := true
      cab := { State.reset.hpi.cab with rated := some 100, cRated := some 100, vNom := some 400 } } }

def bypassed : State :=
  { inverting with
    clu := { inverting.clu with modeCmd := .byp, fb := ⟨false, true, .byp, none⟩ }
    trc := { inverting.trc with ownMode := .byp, lastKnown := some .byp } }

def standing : State :=
  { inverting with
    clu := { inverting.clu with modeCmd := .off, fb := ⟨false, false, .off, none⟩ }
    trc := { inverting.trc with ownMode := .off } }

def withVisit (v : Visit) (s : State) : State := { s with vsm := { s.vsm with visit := some v } }

def visitIn (kind : VisitKind) (state : VisitState) : Visit :=
  ⟨1, kind, 7, 0, state, [], false, none, false, none, false, false⟩

def peer1 (f : Peer → Peer) (s : State) : State :=
  { s with peers := s.peers.map fun e => if e.station = 1 then f e else e }

def atTime (now : FloorTime) (s : State) : State := { s with ftu := { s.ftu with floorTime := now } }

def invHolds (s : State) : Bool :=
  decide (s.hpi.events.length ≤ 32) && decide (s.link.urgent.length ≤ 2) && decide (s.link.coord.length ≤ 8)
    && decide (s.link.congestionReported = true → s.link.coord.length = 8)
    && decide (s.vsm.log.length ≤ 16) && decide (s.vsm.dues.map (·.kind)).Nodup
    && decide (s.clu.supv = s.hpi.running) && decide (s.link.state = .listen ↔ s.hpi.running = false)
    && decide (s.link.state = .listen → s.link.attempt = none)
    && decide (s.peers.map (·.station) = (List.finRange 16).filter fun p => decide (p ≠ s.link.station))
    && decide (s.hpi.waiting = none)
    && decide (s.hpi.floor.elevated ≠ some .restarted) && decide (s.bau.carry.u ≤ 4294967295)

theorem inv_of_invHolds {s : State} (h : invHolds s = true) : Inv s := by
  simp only [invHolds, Bool.and_eq_true, decide_eq_true_eq] at h
  obtain ⟨⟨⟨⟨⟨⟨⟨⟨⟨⟨⟨⟨h₁, h₂⟩, h₃⟩, h₄⟩, h₅⟩, h₆⟩, h₇⟩, h₈⟩, h₉⟩, h₁₀⟩, h₁₁⟩, h₁₂⟩, h₁₃⟩ := h
  exact ⟨h₁, h₂, h₃, h₄, h₅, h₆, h₇, h₈, h₉, h₁₀, h₁₁, h₁₂, h₁₃⟩

theorem test_inverting_has_inv : Inv inverting := inv_of_invHolds (by decide +kernel)

/-! ## Worked figures of the manual -/

/-- R61: T_f 240 and T_max 301 with k = 8 give 255, and −50 with −30 gives −45. -/
theorem test_filter_rounds_toward_minus_infinity :
    filterTemp 8 301 240 = 255 ∧ filterTemp 8 (-30) (-50) = -45 := by decide

/-- R66: with C_rated of 1, one addition of 131,072 makes 91 steps and leaves 32. -/
theorem test_discharge_makes_91_steps :
    let s := { inverting with
      hpi := { inverting.hpi with cab := { inverting.hpi.cab with cRated := some 1 } } }
    stepsMade 4 (-32768) s = 91 ∧ (countDischarge 4 (-32768) s).bau.carry.d = 32 := by decide +kernel

/-- The example of section 2.4.1, seen by station 2. -/
def sixCabinets : State :=
  let entry := fun (e : Peer) (presence : Presence) (report : Report) (claim : Option ShownClaim) =>
    { e with presence := presence, report := report, claim := claim }
  let at_ := fun load => { Report.blank with mode := .inv, load := load, carrying := 1200, ready := 1200 }
  { inverting with
    link := { inverting.link with station := 2 }
    peers := (blankPeers 2).map fun e =>
      match e.station.val with
      | 0 => entry e .present (at_ 740) none
      | 1 => entry e .present (at_ 750) (some ⟨.test, 7#32, false⟩)
      | 3 => entry e .stale (at_ 770) none
      | 4 => entry e .present { at_ 780 with weak := true } none
      | 5 => entry e .present { Report.blank with isolated := true } none
      | _ => e
    sns := { inverting.sns with last := some { frameAt true true with p := 760 } }
    hpi := { inverting.hpi with cab := { inverting.hpi.cab with rated := some 1200 } } }

theorem test_floor_figures_of_six_cabinets :
    inverterCount sixCabinets = 4 ∧ floorLoad sixCabinets = 3030 ∧ carryingCapacity sixCabinets = 4800
      ∧ readyCapacity sixCabinets = 4800 ∧ backedCapacity sixCabinets = 2400 := by decide +kernel

/-! ## States that meet the hypotheses of the statements: the host -/

theorem test_meets_StepTakesFrontCommand :
    ({ inverting with pending := [.floorTick] } : State).pending = .floorTick :: [] ∧ inverting.pending = [] := by
  decide +kernel

theorem test_meets_EveryStepKeepsInv :
    Inv { inverting with pending := [.startBitSensed] }
      ∧ ∃ t, step { inverting with pending := [.startBitSensed] } = .next t :=
  ⟨inv_of_invHolds (by decide +kernel), _, rfl⟩

theorem test_meets_FloorMessageReadsBack :
    MsgFits (.status ⟨3#8, some 9#32, { Report.blank with mode := .inv, carrying := 100 }, none⟩) ∧ MsgFits (.objectOther 5#8 [1, 2, 3]) := by
  refine ⟨?_, ?_⟩
  · show _ ∧ _
    decide +kernel
  · show _ ∧ _
    decide

theorem test_meets_HostChecksRefuseInOrder :
    (namesCommand 0x2B#8 = false ∧ decodeWindow [0x2B#8, 0#8] = some (.unknownCommand 0x2B#8 [0#8]))
      ∧ (namesCommand 0x1A#8 = true ∧ decodeWindow [0x1A#8] = some (.restart []))
      ∧ (lengthAllowedFor 0x1A 1 = false ∧ decodeWindow [0x1A#8, 1#8, 0#8] = some (.restart [1#8, 0#8]))
      ∧ (lengthAllowedFor 0x20 1 = true ∧ acceptedIn 0x20 State.reset.hpi.running = false
        ∧ decodeWindow [0x20#8, 1#8, 1#8] = some (.transfer [1#8, 1#8])) := by
  decide +kernel

theorem test_meets_SetFloorStoresClampedSettings :
    State.reset.hpi.running = false ∧ (none : Option EventKind) ≠ some .restarted
      ∧ ∀ k : Option EventKind, k ≠ some .restarted → (0x26#8 : Byte) ≠ byteOf ((k.map EventKind.code).getD 0) := by
  refine ⟨rfl, by decide, ?_⟩
  intro k hk
  cases k with
  | none => decide
  | some k => cases k <;> first | decide | exact absurd rfl hk

theorem test_meets_SetCabinetStoresAndPreviews :
    State.reset.hpi.running = false ∧ State.reset.hpi.cab.alarmMode = .level
      ∧ ((1#16 : BitVec 16) ≠ 0 ∧ ((1#8 : Byte) = 1#8 ∨ (1#8 : Byte) = 2#8)) := by
  decide +kernel

theorem test_meets_AgeingTableAndProfileReplaced :
    State.reset.hpi.running = false ∧ State.reset.bau.ageing.length = 16 ∧ [256#16].length ≤ 16
      ∧ (15#8 : Byte).toNat ≤ 15 ∧ 15 < (16#8 : Byte).toNat
      ∧ [(StepKind.rest, 0#16, 0#16, 1#8)] ≠ [] ∧ [(StepKind.rest, 0#16, 0#16, 1#8)].length ≤ 8 := by
  decide +kernel

theorem test_meets_LoadCarryRecordReplacesRecord :
    State.reset.hpi.running = false ∧ 2 < (3#8 : Byte).toNat ∧ (2#8 : Byte) = byteOf Verdict.weak.code := by
  decide +kernel

def configured : State := { State.reset with hpi := { State.reset.hpi with configured := true } }

theorem test_meets_StartAdoptsStageAndRecord :
    (Inv configured ∧ configured.hpi.running = false ∧ configured.lva = none
        ∧ configured.hpi.configured = true ∧ configured.clu.fb.qual = Sys2Proof.Mode.off.feedback)
      ∧ (Inv State.reset ∧ State.reset.hpi.configured = false)
      ∧ (let s := { configured with
          clu := { configured.clu with fb := { configured.clu.fb with qual := .invalid } } }
         Inv s ∧ s.hpi.running = false ∧ s.clu.fb.qual = .invalid ∧ s.link.duplicateSeen = false
          ∧ s.hpi.events = []) :=
  ⟨⟨inv_of_invHolds (by decide +kernel), by decide +kernel⟩, ⟨inv_of_invHolds (by decide +kernel), rfl⟩,
    inv_of_invHolds (by decide +kernel), by decide +kernel⟩

/-- A configured station in CONFIGURING whose power stage is on inverter, with the input levels that `f` gives. -/
def adopting (f : Clu → Clu) : State :=
  { configured with clu := f { configured.clu with fb := ⟨true, false, .inv, none⟩, bypOk := high } }

theorem test_meets_StartAdoptsStageAndRecord_standing :
    let at_ := fun s : State => s.hpi.running = false ∧ s.lva = none ∧ s.hpi.configured = true ∧ s.clu.fb.qual = .inv
      ∧ s.link.duplicateSeen = false ∧ s.vsm.visit = none ∧ s.tsq.state.inProgress = false
      ∧ s.link.urgent.length < 2 ∧ s.clu.bypOk.qual = true
    let loaded := adopting fun c => { c with overload := high }
    let strict := { loaded with hpi := { loaded.hpi with floor := { loaded.hpi.floor with overloadTol := 0 } } }
    let closed := adopting fun c => { c with maint := high }
    let faulted := adopting fun c => { c with invFault := high }
    let heavy := { faulted with sns := inverting.sns }
    let adopted := fun s : State => { s with trc := { s.trc with ownMode := .inv, activity := .none } }
    (Inv loaded ∧ at_ loaded ∧ loaded.clu.overload.qual = true ∧ loaded.clu.maint.qual = false
        ∧ loaded.clu.invFault.qual = false ∧ 0 < loaded.hpi.floor.overloadTol)
      ∧ (Inv strict ∧ at_ strict ∧ strict.clu.overload.qual = true ∧ strict.clu.maint.qual = false
        ∧ strict.clu.invFault.qual = false ∧ strict.hpi.floor.overloadTol = 0)
      ∧ (Inv closed ∧ at_ closed ∧ closed.clu.overload.qual = false ∧ closed.clu.maint.qual = true
        ∧ closed.clu.invFault.qual = false)
      ∧ (Inv faulted ∧ at_ faulted ∧ faulted.clu.overload.qual = false ∧ faulted.clu.maint.qual = false
        ∧ faulted.clu.invFault.qual = true ∧ floorLoad (adopted faulted) ≤ carriedByOthers faulted)
      ∧ (Inv heavy ∧ at_ heavy ∧ heavy.clu.invFault.qual = true
        ∧ carriedByOthers heavy < floorLoad (adopted heavy)) :=
  ⟨⟨inv_of_invHolds (by decide +kernel), by decide +kernel⟩,
    ⟨inv_of_invHolds (by decide +kernel), by decide +kernel⟩,
    ⟨inv_of_invHolds (by decide +kernel), by decide +kernel⟩,
    ⟨inv_of_invHolds (by decide +kernel), by decide +kernel⟩,
    inv_of_invHolds (by decide +kernel), by decide +kernel⟩

theorem test_meets_ReadsAnswerFromState :
    (inverting.peers.find? fun e => decide (e.station.val = (1#8 : Byte).toNat)).isSome = true
      ∧ (inverting.peers.find? fun e => decide (e.station.val = (0#8 : Byte).toNat)) = none := by
  decide +kernel

theorem test_meets_HostClearsMarkersHornAndLatch :
    (Inv inverting ∧ inverting.link.station.val = (0#8 : Byte).toNat
        ∧ inverting.link.station.val ≠ (1#8 : Byte).toNat ∧ (1#8 : Byte).toNat ≤ 15)
      ∧ inverting.hpi.running = true ∧ inverting.hpi.cab.alarmMode = .level
      ∧ ({ inverting with hpi := { inverting.hpi with
          cab := { inverting.hpi.cab with alarmMode := .edge } } } : State).hpi.cab.alarmMode = .edge :=
  ⟨⟨inv_of_invHolds (by decide +kernel), by decide +kernel⟩, by decide +kernel⟩

theorem test_meets_ReadEventTakesOldestOfHighestClass :
    let info : EventRec := ⟨.peerChange, .info, 0, 0#32, []⟩
    let loud : EventRec := ⟨.mismatch, .alarm, 0, 0#32, []⟩
    inverting.hpi.events = []
      ∧ (let s := { inverting with hpi := { inverting.hpi with events := [info] ++ loud :: [info] } }
         s.hpi.events = [info] ++ loud :: [info] ∧ ∀ x ∈ [info], x.cls ≠ loud.cls)
      ∧ (let s := { inverting with hpi := { inverting.hpi with events := [] ++ info :: [info] } }
         ∀ x ∈ s.hpi.events, x.cls = .info) := by
  decide +kernel

theorem test_meets_WaitingFrameIsTaken :
    let noFrame := fun w : List Byte => w = [] ∨ w.head? = some 0xFF#8
    let frame : List Byte := [0x10#8, 0#8]
    inverting.hpi.waiting = none ∧ noFrame [] ∧ noFrame [0xFF#8, 1#8]
      ∧ ¬ noFrame frame ∧ decodeWindow frame = some (.readStatus [0#8])
      ∧ (∀ windows ∈ ([] : List (List (List Byte))).head?, ∀ w ∈ windows, noFrame w)
      ∧ (∀ windows ∈ [[[], [0xFF#8]]].head?, ∀ w ∈ windows, noFrame w)
      ∧ [[[], [0xFF#8], [0x19#8, 0#8]], []] = ([[], [0xFF#8]] ++ [0x19#8, 0#8] :: []) :: [[]]
      ∧ (∀ w ∈ [[], [0xFF#8]], noFrame w) ∧ ¬ noFrame [0x19#8, 0#8] := by
  decide +kernel

/-! ## Transfers, runs and visits asked by the host -/

def alone (s : State) : State :=
  { s with ftu := { s.ftu with align := .alone }, peers := s.peers.map fun e => Peer.blank e.station }

theorem test_meets_TransferIsCheckedAndBegun :
    (inverting.hpi.running = true ∧ firstFailing (transferChecks .toInverter inverting) = some .wrongMode)
      ∧ (Inv inverting ∧ OnLine inverting ∧ ClaimKept inverting ∧ inverting.link.coord.length < 8
        ∧ firstFailing (transferChecks .toBypass inverting) = none ∧ inverting.ftu.align = .aligned)
      ∧ (Inv (alone bypassed) ∧ OnLine (alone bypassed) ∧ ClaimKept (alone bypassed) ∧ (alone bypassed).tsq.state.inProgress = false
        ∧ firstFailing (transferChecks .toInverter (alone bypassed)) = none
        ∧ (alone bypassed).ftu.align = .alone
        ∧ (alone bypassed).clu.fb.qual ≠ Sys2Proof.Mode.inv.feedback) :=
  ⟨by decide +kernel, ⟨test_inverting_has_inv, by decide +kernel⟩,
    inv_of_invHolds (by decide +kernel), by decide +kernel⟩

theorem test_meets_ForceBypassForcesFloor :
    (OnLine inverting ∧ Inv inverting ∧ isolatedFlag inverting = false ∧ inverting.lva = none
        ∧ inverting.tsq.state.inProgress = false ∧ inverting.link.urgent.length < 2
        ∧ inverting.trc.activity = .none ∧ inverting.trc.ownMode = .inv ∧ inverting.clu.bypOk.qual = true
        ∧ inverting.clu.fb.qual ≠ .byp)
      ∧ (OnLine standing ∧ Inv standing ∧ standing.trc.ownMode ≠ .inv ∧ standing.trc.activity = .none)
      ∧ (let s := { inverting with clu := { inverting.clu with bypOk := LineIn.low } }
         OnLine s ∧ isolatedFlag s = false ∧ s.clu.bypOk.qual = false ∧ s.trc.ownMode = .inv)
      ∧ (let s := withVisit (visitIn .isolation .isolated) standing
         OnLine s ∧ isolatedFlag s = true) :=
  ⟨⟨by decide +kernel, inv_of_invHolds (by decide +kernel), by decide +kernel⟩,
    ⟨by decide +kernel, inv_of_invHolds (by decide +kernel), by decide +kernel⟩, by decide +kernel⟩

theorem test_meets_JoinSwitchesToFloorMode :
    (Inv standing ∧ OnLine standing ∧ ClaimKept standing ∧ firstFailing (joinChecks standing) = none
        ∧ standing.trc.lastKnown = some .inv ∧ standing.clu.fb.qual ≠ Sys2Proof.Mode.inv.feedback)
      ∧ firstFailing (joinChecks inverting) = some .wrongMode :=
  ⟨⟨inv_of_invHolds (by decide +kernel), by decide +kernel⟩, by decide +kernel⟩

theorem test_meets_RunTestBeginsClaiming :
    (Inv inverting ∧ OnLine inverting ∧ inverting.tsq.state = .idle ∧ inverting.vsm.visit = none
        ∧ inverting.lva = none ∧ firstFailing (claimChecks inverting) = none ∧ inverting.ftu.align = .aligned
        ∧ inverting.link.coord.length < 8)
      ∧ firstFailing (claimChecks bypassed) = some .wrongMode
      ∧ ({ inverting with tsq := { inverting.tsq with state := .ended } } : State).tsq.state = .ended
      ∧ ({ inverting with tsq := { inverting.tsq with state := .paused 1 } } : State).tsq.state.inProgress
        = true :=
  ⟨⟨test_inverting_has_inv, by decide +kernel⟩, by decide +kernel⟩

def testClaim : Claim := ⟨.test, 4000#32, true, false, none, none, false⟩

/-- A run in its first step, its claim GRANTED, on a floor that two others back. -/
def testing (state : RunState) : State :=
  { inverting with
    lva := some testClaim
    tsq := { inverting.tsq with
      state := state, run := { RunRec.blank with number := 1, stepTimer := some 0, pauseTimer := some 0 } }
    peers := inverting.peers.map fun e =>
      if e.station = 2 ∨ e.station = 1 then
        { e with
          presence := .present
          report := { Report.blank with mode := .inv, carrying := 100, load := 40, align := .aligned } }
      else e }

/-- Two others carry the floor, so that station 1 can leave. -/
def covered (s : State) : State :=
  { s with
    sns := { s.sns with last := some { frameAt true true with p := 10 } }
    peers := s.peers.map fun e =>
      if e.station.val ∈ [1, 2, 3] then
        { e with
          presence := .present
          report := { Report.blank with mode := .inv, carrying := 100, load := 10, align := .aligned } }
      else e }

/-- A GRANTED claim that the floor can spare, not fixed. -/
def granted (c : Claim) (s : State) : State := { covered s with lva := some { c with granted := true } }

/-- A run whose claim the floor can no longer spare. -/
def unbacked (s : State) : State := { testing (.running 1) with peers := s.peers }

theorem test_meets_RestartClearsAndKeeps :
    let alarmed := { inverting with
      clu := { inverting.clu with alarmIn := high }
      hpi := { inverting.hpi with floor := { inverting.hpi.floor with elevated := some .alarmInput } } }
    (alarmed.hpi.floor.elevated ≠ some .restarted ∧ alarmed.hpi.cab.alarmMode = .level
        ∧ alarmed.clu.alarmIn.qual = true)
      ∧ (inverting.hpi.floor.elevated ≠ some .restarted ∧ inverting.hpi.floor.elevated ≠ some .alarmInput
        ∧ inverting.tsq.state = .idle ∧ inverting.vsm.visit = none)
      ∧ (testing (.running 1)).tsq.state.inProgress = true
      ∧ (withVisit (visitIn .inspection .opened) inverting).vsm.visit = some (visitIn .inspection .opened) := by
  decide +kernel

theorem test_meets_ContinueAndAbortMoveRun :
    let asked := fun window : Bool => { testing .claiming with
      lva := some { testClaim with granted := false, inWindow := window } }
    ((testing (.paused 1)).hpi.running = true ∧ (testing (.paused 1)).tsq.state = .paused 1
        ∧ (testing (.paused 1)).tsq.profile[1]? = some ⟨.discharge, 300, 0, true⟩)
      ∧ (OnLine (testing (.running 1)) ∧ Inv (testing (.running 1))
        ∧ (testing (.running 1)).tsq.state.inProgress = true ∧ (testing (.running 1)).lva = some testClaim
        ∧ testClaim.kind = .test ∧ testClaim.granted = true ∧ (testing (.running 1)).link.coord.length < 8)
      ∧ (Inv inverting ∧ inverting.tsq.state.inProgress = false)
      ∧ (OnLine (asked true) ∧ Inv (asked true) ∧ (asked true).tsq.state = .claiming)
      ∧ (OnLine (asked false) ∧ Inv (asked false) ∧ (asked false).link.coord.length < 8) :=
  ⟨by decide +kernel, ⟨by decide +kernel, inv_of_invHolds (by decide +kernel), by decide +kernel⟩,
    ⟨inv_of_invHolds (by decide +kernel), by decide +kernel⟩,
    ⟨by decide +kernel, inv_of_invHolds (by decide +kernel), by decide +kernel⟩,
    by decide +kernel, inv_of_invHolds (by decide +kernel), by decide +kernel⟩

theorem test_meets_OpenVisitRefusedInOrder :
    (inverting.hpi.running = true ∧ ∀ kind : VisitKind, (4#8 : Byte) ≠ byteOf kind.code)
      ∧ ((withVisit (visitIn .inspection .opened) inverting).vsm.visit ≠ none)
      ∧ (bypassed.vsm.visit = none ∧ bypassed.trc.ownMode = .byp)
      ∧ (let s := { standing with trc := { standing.trc with activity := .mismatch .inv .join } }
         s.vsm.visit = none ∧ s.trc.ownMode = .off ∧ s.trc.activity ≠ .none)
      ∧ ((testing (.running 1)).trc.ownMode = .inv ∧ (testing (.running 1)).lva ≠ none)
      ∧ (let s := { inverting with ftu := { inverting.ftu with align := .aligning } }
         s.trc.ownMode = .inv ∧ s.lva = none ∧ firstFailing (claimChecks s) = some .notAligned)
      ∧ inverting.trc.ownMode ≠ .byp :=
  ⟨⟨rfl, fun k => by cases k <;> decide⟩, by decide +kernel⟩

theorem test_meets_OpenVisitEntersFirstState :
    (Inv inverting ∧ inverting.hpi.running = true ∧ ClaimKept inverting ∧ inverting.vsm.visit = none)
      ∧ (Inv bypassed ∧ ClaimKept bypassed ∧ bypassed.vsm.visit = none ∧ bypassed.trc.ownMode = .byp)
      ∧ (OnLine inverting ∧ inverting.lva = none ∧ inverting.trc.ownMode = .inv
        ∧ firstFailing (claimChecks inverting) = none ∧ inverting.ftu.align = .aligned
        ∧ inverting.link.coord.length < 8)
      ∧ (Inv standing ∧ OnLine standing ∧ standing.lva = none ∧ standing.vsm.visit = none
        ∧ standing.trc.ownMode = .off ∧ standing.trc.activity = .none ∧ standing.clu.fb.qual = .off) :=
  ⟨⟨inv_of_invHolds (by decide +kernel), by decide +kernel⟩,
    ⟨inv_of_invHolds (by decide +kernel), by decide +kernel⟩, by decide +kernel,
    inv_of_invHolds (by decide +kernel), by decide +kernel⟩

theorem test_meets_RecordTaskAppendsOnce :
    State.reset.hpi.running = false
      ∧ (inverting.hpi.running = true ∧ ∀ k : Task, (8#8 : Byte) ≠ byteOf k.code)
      ∧ (inverting.vsm.visit = none ∧ (1#8 : Byte) = byteOf Task.batteryReplaced.code)
      ∧ ((visitIn .inspection .opened).state ≠ .isolated)
      ∧ ((visitIn .isolation .isolated).state = .isolated ∧ standing.clu.battery.qual = true)
      ∧ (let s := { standing with clu := { standing.clu with battery := LineIn.low } }
         (withVisit (visitIn .isolation .isolated) s).vsm.visit = some (visitIn .isolation .isolated)
          ∧ s.clu.battery.qual = false) :=
  ⟨rfl, ⟨rfl, fun k => by cases k <;> decide⟩, by decide +kernel⟩

def serviceClaim : Claim := ⟨.service, 4000#32, false, false, none, some 5, false⟩

theorem test_meets_CloseAndCancelActByState :
    (let s := withVisit (visitIn .inspection .opened) inverting
     Inv s ∧ OnLine s ∧ s.vsm.visit = some (visitIn .inspection .opened) ∧ ClaimKept s ∧ s.vsm.dues = []
      ∧ (visitIn .inspection .opened).kind ≠ .isolation
      ∧ Task.batteryReplaced ∉ (visitIn .inspection .opened).tasks)
      ∧ (let s := { withVisit (visitIn .isolation .isolated) standing with
          clu := { standing.clu with output := LineIn.low } }
         Inv s ∧ ClaimKept s ∧ s.vsm.visit = some (visitIn .isolation .isolated)
          ∧ (s.clu.input.qual && s.clu.battery.qual && s.clu.output.qual) = false)
      ∧ (let s := { withVisit (visitIn .isolation .requested) inverting with lva := some serviceClaim }
         Inv s ∧ OnLine s ∧ s.vsm.visit = some (visitIn .isolation .requested) ∧ serviceClaim.granted = false
          ∧ serviceClaim.inWindow = false ∧ s.link.congestionReported = false)
      ∧ (let s := { withVisit (visitIn .isolation .isolating) inverting with
          lva := some { serviceClaim with granted := true } }
         Inv s ∧ OnLine s ∧ s.link.coord.length < 8
          ∧ firstFailing ((joinChecks s).drop 1) = some .wrongMode)
      ∧ inverting.hpi.running = true ∧ inverting.vsm.visit = none :=
  ⟨⟨inv_of_invHolds (by decide +kernel), by decide +kernel⟩,
    ⟨inv_of_invHolds (by decide +kernel), by decide +kernel⟩,
    ⟨inv_of_invHolds (by decide +kernel), by decide +kernel⟩,
    ⟨inv_of_invHolds (by decide +kernel), by decide +kernel⟩, rfl, rfl⟩

theorem test_meets_CloseAndCancelActByState_completed :
    let granted := some { serviceClaim with granted := true }
    let replaced := { visitIn .isolation .restoring with tasks := [.batteryReplaced, .periodicDone], joinRequested := true }
    let joined := { withVisit replaced standing with
      lva := granted
      clu := { standing.clu with modeCmd := .inv, fb := ⟨true, false, .off, some 0⟩ }
      trc := { standing.trc with activity := .switching .inv .join, switchTimer := some 9 }
      vsm := { standing.vsm with visit := some replaced, dues := [⟨.periodic, 3⟩, ⟨.batteryReplace, 5⟩] } }
    let inspected := withVisit { visitIn .inspection .opened with tasks := [.faultCleared] } inverting
    let maintained := { withVisit (visitIn .floorMaintenance .maintOn) bypassed with clu :=
      { bypassed.clu with maint := LineIn.low } }
    let leaving := { withVisit { visitIn .isolation .isolating with stepTimer := some 0 } standing with lva := granted }
    (Inv inspected ∧ OnLine inspected ∧ ClaimKept inspected)
      ∧ (Inv maintained ∧ OnLine maintained ∧ ClaimKept maintained ∧ maintained.clu.maint.qual = false
        ∧ maintained.clu.output.qual = true)
      ∧ (Inv joined ∧ OnLine joined ∧ joined.trc.activity = .switching .inv .join ∧ joined.clu.fb.timer = some 0
        ∧ rawFeedback joined.clu.fb = Sys2Proof.Mode.inv.feedback ∧ joined.clu.overload.qual = false
        ∧ joined.clu.maint.qual = false ∧ joined.link.coord.length < 8)
      ∧ (Inv leaving ∧ OnLine leaving ∧ firstFailing ((joinChecks leaving).drop 1) = none
        ∧ leaving.link.coord.length < 8 ∧ leaving.clu.fb.qual ≠ (floorModeFor leaving).feedback) :=
  ⟨⟨inv_of_invHolds (by decide +kernel), by decide +kernel⟩,
    ⟨inv_of_invHolds (by decide +kernel), by decide +kernel⟩,
    ⟨inv_of_invHolds (by decide +kernel), by decide +kernel⟩,
    inv_of_invHolds (by decide +kernel), by decide +kernel⟩

theorem test_meets_CloseAndCancelActByState_restoring :
    let closing := fun s : State => withVisit (visitIn .isolation .isolated) s
    let ready := fun s : State => s.hpi.running = true ∧ ClaimKept s ∧ s.vsm.visit = some (visitIn .isolation .isolated)
      ∧ (s.clu.input.qual && s.clu.battery.qual && s.clu.output.qual) = true
    let held := closing { standing with trc := { standing.trc with holdTimer := some 5 } }
    (Inv held ∧ ready held ∧ firstFailing ((joinChecks held).drop 1) = some .hold)
      ∧ (Inv (closing standing) ∧ ready (closing standing)
        ∧ firstFailing ((joinChecks (closing standing)).drop 1) = none
        ∧ (closing standing).clu.fb.qual ≠ (floorModeFor (closing standing)).feedback) :=
  ⟨⟨inv_of_invHolds (by decide +kernel), by decide +kernel⟩,
    inv_of_invHolds (by decide +kernel), by decide +kernel⟩

/-! ## The floor line and the peer table -/

/-- `e` stands alone in the queue of its class and is being driven. -/
def driving (cls : TxClass) (e : TxEntry) (s : State) : State :=
  let l := { s.link with attempt := some ⟨cls, 4000#32, frameOf s.link.station e.msg⟩, rx := none }
  { s with link := match cls with
    | .urgent => { l with urgent := [e] }
    | .coord => { l with coord := [e] }
    | .status => { l with status := some e } }

def sentStatus : StatusMsg := ⟨4#8, some 3000#32, { Report.blank with mode := .inv }, none⟩

/-- A proposal of station 0 to go to bypass, in the given phase. -/
def proposing (phase : Phase) (consentSet consents : List Station) (window : Option Ticks) (s : State) : State :=
  { s with trc := { s.trc with
      activity := .proposed ⟨0, 5#8⟩ .toBypass
      proposal := some ⟨0, 4990#32, 8000#32, some phase, consentSet, consents, window⟩ } }

/-- A proposal of station 1 to go to bypass is followed. -/
def following (s : State) : State :=
  { s with trc := { s.trc with
      activity := .following ⟨1, 7#8⟩ .toBypass, proposal := some (heardProposal 1 4990#32 8000#32) } }

def armed (executeAt : FloorTime) (dir : Direction) (s : State) : State :=
  { s with trc := { s.trc with
      activity := .armed ⟨1, 7#8⟩ dir executeAt, proposal := some (heardProposal 1 4990#32 executeAt) } }

def switching (target : Sys2Proof.Mode) (origin : Origin) (s : State) : State :=
  { s with
    clu := { s.clu with modeCmd := target }
    trc := { s.trc with activity := .switching target origin, switchTimer := some 0 } }

theorem test_meets_LineAndDiscardedFrames :
    inverting.link.attempt = none ∧ State.reset.link.rx = none
      ∧ (driving .urgent (queued (.force 1#8)) inverting).link.attempt ≠ none := by
  decide +kernel

theorem test_meets_FailedAttemptCountsThenMutes :
    let early := fun m : Msg => ({ msg := m, attempts := 14, withdrawn := none } : TxEntry)
    let held := { inverting with link := { inverting.link with heldStatus := some sentStatus } }
    let ready := fun s : State => s.link.attempt.isSome = true ∧ ClaimKept s
    (ready (driving .urgent (early (.force 1#8)) inverting)
        ∧ ready (driving .coord (early (.consent ⟨1, 2#8⟩)) inverting)
        ∧ ready (driving .status (early (.status sentStatus)) inverting) ∧ inverting.link.heldStatus = none
        ∧ ready (driving .status (early (.status sentStatus)) held) ∧ held.link.heldStatus = some sentStatus)
      ∧ (let s := driving .coord { early (.propose 5#8 .toBypass 4990#32 8000#32) with withdrawn := some 9#8 } inverting
         Inv s ∧ ready s) :=
  ⟨by decide +kernel, inv_of_invHolds (by decide +kernel), by decide +kernel⟩

/-- The 16th attempt of a message is being driven. -/
def drivingLast (cls : TxClass) (m : Msg) (s : State) : State := driving cls ⟨m, 15, none⟩ s

theorem test_meets_FailedAttemptCountsThenMutes_last :
    let held := { inverting with link := { inverting.link with heldStatus := some sentStatus } }
    let ready := fun s : State => Inv s ∧ s.link.attempt.isSome = true ∧ ClaimKept s
    ready (drivingLast .urgent (.force 1#8) inverting)
      ∧ ready (drivingLast .status (.status sentStatus) inverting)
      ∧ ready (drivingLast .status (.status sentStatus) held)
      ∧ ready (drivingLast .coord (.consent ⟨1, 2#8⟩) inverting)
      ∧ ready (drivingLast .coord (.objectTransfer ⟨1, 2#8⟩ 8#8) inverting)
      ∧ ready (drivingLast .coord (.objectClaim 1 9#32 8#8) inverting)
      ∧ ready (drivingLast .coord (.cancel ⟨0, 5#8⟩ 8#8) inverting)
      ∧ ready (drivingLast .coord (.release .test 9#32) inverting) :=
  ⟨⟨inv_of_invHolds (by decide +kernel), by decide +kernel⟩,
    ⟨inv_of_invHolds (by decide +kernel), by decide +kernel⟩,
    ⟨inv_of_invHolds (by decide +kernel), by decide +kernel⟩,
    ⟨inv_of_invHolds (by decide +kernel), by decide +kernel⟩,
    ⟨inv_of_invHolds (by decide +kernel), by decide +kernel⟩,
    ⟨inv_of_invHolds (by decide +kernel), by decide +kernel⟩,
    ⟨inv_of_invHolds (by decide +kernel), by decide +kernel⟩,
    inv_of_invHolds (by decide +kernel), by decide +kernel⟩

theorem test_meets_FailedAttemptCountsThenMutes_standing :
    let ready := fun s : State => Inv s ∧ s.link.attempt.isSome = true ∧ ClaimKept s
    let propose := Msg.propose 5#8 .toBypass 4990#32 8000#32
    let claiming := { inverting with
      lva := some { testClaim with granted := false }, tsq := { inverting.tsq with state := .claiming } }
    let requested := withVisit (visitIn .isolation .requested) { inverting with lva := some serviceClaim }
    ready (drivingLast .coord propose inverting)
      ∧ ready (drivingLast .coord (.order ⟨0, 5#8⟩) inverting)
      ∧ ready (drivingLast .coord (.claim .test 4000#32) inverting)
      ∧ ready (driving .coord ⟨propose, 15, some 9#8⟩ (proposing .queued [] [] none inverting))
      ∧ ready (drivingLast .coord propose (proposing .queued [] [] none inverting))
      ∧ ready (drivingLast .coord (.order ⟨0, 5#8⟩) (proposing .ordering [] [] none inverting))
      ∧ ready (drivingLast .coord (.claim .test 4000#32) claiming)
      ∧ ready (drivingLast .coord (.claim .service 4000#32) requested)
      ∧ (serviceClaim.granted = false ∧ serviceClaim.inWindow = false
        ∧ inverting.trc.activity = .none ∧ inverting.lva = none) :=
  ⟨⟨inv_of_invHolds (by decide +kernel), by decide +kernel⟩,
    ⟨inv_of_invHolds (by decide +kernel), by decide +kernel⟩,
    ⟨inv_of_invHolds (by decide +kernel), by decide +kernel⟩,
    ⟨inv_of_invHolds (by decide +kernel), by decide +kernel⟩,
    ⟨inv_of_invHolds (by decide +kernel), by decide +kernel⟩,
    ⟨inv_of_invHolds (by decide +kernel), by decide +kernel⟩,
    ⟨inv_of_invHolds (by decide +kernel), by decide +kernel⟩,
    ⟨inv_of_invHolds (by decide +kernel), by decide +kernel⟩, by decide +kernel⟩

theorem test_meets_CompletedAttemptIsReported_informing :
    let held := { inverting with link := { inverting.link with heldStatus := some sentStatus } }
    let ready := fun s : State => Inv s ∧ s.link.attempt.isSome = true ∧ ClaimKept s ∧ s.hpi.running = true
    ready (driving .urgent (queued (.force 1#8)) inverting)
      ∧ ready (driving .coord (queued (.release .test 9#32)) inverting)
      ∧ ready (driving .status (queued (.status sentStatus)) inverting)
      ∧ ready (driving .status (queued (.status sentStatus)) held) :=
  ⟨⟨inv_of_invHolds (by decide +kernel), by decide +kernel⟩,
    ⟨inv_of_invHolds (by decide +kernel), by decide +kernel⟩,
    ⟨inv_of_invHolds (by decide +kernel), by decide +kernel⟩,
    inv_of_invHolds (by decide +kernel), by decide +kernel⟩

theorem test_meets_CompletedAttemptIsReported_acting :
    let ready := fun s : State => Inv s ∧ s.hpi.running = true ∧ s.link.attempt.isSome = true
      ∧ ClaimKept s
    let propose := Msg.propose 5#8 .toBypass 4990#32 8000#32
    (let s := driving .coord (queued propose) (proposing .queued [] [] none inverting)
     ready s ∧ Ahead (8000#32 - BitVec.ofNat 32 (10 * s.hpi.floor.respWindow)) s ∧ sourcePeers .toBypass s ≠ [])
      ∧ (let s := driving .coord (queued propose) (proposing .queued [] [] none (alone inverting))
         ready s ∧ Ahead (8000#32 - BitVec.ofNat 32 (10 * s.hpi.floor.respWindow)) s
          ∧ sourcePeers .toBypass s = [])
      ∧ ready (driving .coord { queued propose with withdrawn := some 9#8 } inverting)
      ∧ (let s := driving .coord (queued (.order ⟨0, 5#8⟩)) (proposing .ordering [] [] none inverting)
         ready s ∧ Ahead 8000#32 s)
      ∧ ready (driving .coord (queued (.claim .test 4000#32))
          { inverting with lva := some { testClaim with granted := false } })
      ∧ ready (driving .coord (queued (.claim .test 4000#32)) inverting) :=
  ⟨⟨⟨inv_of_invHolds (by decide +kernel), by decide +kernel⟩, by decide +kernel⟩,
    ⟨⟨inv_of_invHolds (by decide +kernel), by decide +kernel⟩, by decide +kernel⟩,
    ⟨inv_of_invHolds (by decide +kernel), by decide +kernel⟩,
    ⟨⟨inv_of_invHolds (by decide +kernel), by decide +kernel⟩, by decide +kernel⟩,
    ⟨inv_of_invHolds (by decide +kernel), by decide +kernel⟩,
    inv_of_invHolds (by decide +kernel), by decide +kernel⟩

theorem test_meets_CompletedAttemptIsReported_late :
    let late := atTime 7000#32 (driving .coord (queued (.propose 5#8 .toBypass 4990#32 8000#32))
      (proposing .queued [] [] none (granted serviceClaim inverting)))
    let ordered := fun s : State => atTime 8000#32 (driving .coord (queued (.order ⟨0, 5#8⟩))
      (proposing .ordering [] [] none s))
    let ready := fun s : State => s.hpi.running = true ∧ s.link.attempt.isSome = true ∧ RunHoldsClaim s
      ∧ s.clu.fb.qual ≠ Sys2Proof.Mode.byp.feedback
    (Inv late ∧ ready late ∧ ClaimKept late
        ∧ ¬ Ahead (8000#32 - BitVec.ofNat 32 (10 * late.hpi.floor.respWindow)) late)
      ∧ (let s := ordered (granted serviceClaim inverting)
         Inv s ∧ ready s ∧ ClaimKept s ∧ ¬ Ahead 8000#32 s)
      ∧ (let s := ordered (testing (.running 1))
         Inv s ∧ ready s ∧ s.tsq.state.inProgress = true ∧ ¬ Ahead 8000#32 s)
      ∧ (let s := ordered bypassed
         let held := { s with trc := { s.trc with
           activity := .proposed ⟨0, 5#8⟩ .toInverter, holdTimer := some 9 } }
         Inv held ∧ RunHoldsClaim held ∧ ClaimKept held ∧ ¬ Ahead 8000#32 held) :=
  ⟨⟨inv_of_invHolds (by decide +kernel), by decide +kernel⟩,
    ⟨inv_of_invHolds (by decide +kernel), by decide +kernel⟩,
    ⟨inv_of_invHolds (by decide +kernel), by decide +kernel⟩,
    inv_of_invHolds (by decide +kernel), by decide +kernel⟩

theorem test_meets_LinkMutesAndRestores :
    let muted := fun (st : LinkState) (timer : Option Ticks) =>
      { inverting with link := { inverting.link with state := st, muteTimer := timer } }
    let listening := fun seen : Bool =>
      { State.reset with link := { State.reset.link with rx := some 0#32, duplicateSeen := seen } }
    parseFloorFrame (encodeFloorFrame 0 (.status sentStatus)) = .accepted 0 (.status sentStatus)
      ∧ ((listening false).link.state = .listen ∧ (listening false).link.rx ≠ none ∧ Inv (listening false))
      ∧ ((listening true).link.state = .listen ∧ (listening true).link.rx ≠ none)
      ∧ (inverting.link.state = .active ∧ inverting.link.rx ≠ none ∧ Inv inverting)
      ∧ (muted .mutedDuplicate none).link.state = .mutedDuplicate
      ∧ (Inv (muted .mutedFailures (some 0)) ∧ (muted .mutedFailures (some 0)).link.muteTimer = some 0)
      ∧ (muted .mutedFailures (some 1)).link.muteTimer ≠ some 0 :=
  ⟨by decide +kernel, ⟨rfl, by decide, inv_of_invHolds (by decide +kernel)⟩, ⟨rfl, by decide⟩,
    ⟨rfl, by decide, inv_of_invHolds (by decide +kernel)⟩, rfl, ⟨inv_of_invHolds (by decide +kernel), rfl⟩, by decide +kernel⟩

theorem test_meets_StatusFillsEntry :
    let s := inverting
    Inv s ∧ s.link.rx = some 4900#32 ∧ ClaimKept s ∧ (1 : Station) ≠ s.link.station
      ∧ parseFloorFrame (encodeFloorFrame 1 (.status sentStatus)) = .accepted 1 (.status sentStatus)
      ∧ (∃ e ∈ s.peers, e.station = 1) ∧ sentStatus.report.mode ≠ .byp :=
  ⟨inv_of_invHolds (by decide +kernel), by decide +kernel⟩

theorem test_meets_StatusFillsEntry_reevaluated :
    let shown := fun (source : Source) (n : Nat) =>
      { sentStatus with report := { sentStatus.report with source := source, carrying := n } }
    let view := fun m : StatusMsg => peer1 (fun e => { e with
      seq := m.seq, rxStart := 4900#32, offset := none, fresh := 0, report := m.report, presTimer := some 3500 })
      (testing (.running 1))
    (Inv (testing (.running 1)) ∧ OnLine (testing (.running 1)) ∧ (testing (.running 1)).link.coord.length < 8
        ∧ (testing (.running 1)).link.rx = some 4900#32)
      ∧ (∃ e ∈ (testing (.running 1)).peers, e.station = 1 ∧ e.presence = .present ∧ e.seq ≠ 3#8
        ∧ e.markers = Markers.clear ∧ e.claim = none ∧ e.report.mode = .inv)
      ∧ (∀ x ∈ ([(.mains, 100), (.battery, 100), (.mains, 0)] : List (Source × Nat)),
        parseFloorFrame (encodeFloorFrame 1 (.status (shown x.1 x.2))) = .accepted 1 (.status (shown x.1 x.2)))
      ∧ ClaimKept (view (shown .mains 100))
      ∧ TestClaimFails testClaim .onBattery (view (shown .battery 100))
      ∧ TestClaimFails testClaim .margin (view (shown .mains 0)) :=
  ⟨⟨inv_of_invHolds (by decide +kernel), by decide +kernel⟩, by decide +kernel⟩

def bypassStatus : StatusMsg := ⟨4#8, some 3000#32, { Report.blank with mode := .byp }, none⟩

/-- Station 1 is shown on bypass, `n` times so far. -/
def splitSeen (n : Nat) : State :=
  peer1 (fun e => { e with report := { e.report with mode := .byp } })
    { inverting with trc := { inverting.trc with splits := inverting.trc.splits.set 1 n } }

theorem test_meets_SecondBypassStatusForcesSplit :
    let ready := fun s : State =>
      OnLine s ∧ s.link.rx ≠ none ∧ s.lva = none ∧ isolatedFlag s = false ∧ s.trc.ownMode = .inv
        ∧ s.trc.activity = .none ∧ s.tsq.state.inProgress = false ∧ s.link.urgent.length < 2
        ∧ s.clu.bypOk.qual = true ∧ s.clu.fb.qual ≠ .byp
        ∧ ∃ e ∈ s.peers, e.station = 1 ∧ e.presence = .present ∧ e.claim = none ∧ e.report.isolated = false
          ∧ e.report.mode = .byp ∧ bypassStatus.report.weak = e.report.weak
    parseFloorFrame (encodeFloorFrame 1 (.status bypassStatus)) = .accepted 1 (.status bypassStatus)
      ∧ (Inv (splitSeen 0) ∧ ready (splitSeen 0) ∧ (splitSeen 0).trc.splits[1] = 0)
      ∧ (Inv (splitSeen 1) ∧ ready (splitSeen 1) ∧ 1 ≤ (splitSeen 1).trc.splits[1]) :=
  ⟨by decide +kernel, ⟨inv_of_invHolds (by decide +kernel), by decide +kernel⟩,
    inv_of_invHolds (by decide +kernel), by decide +kernel⟩

theorem test_meets_EntryTimersClear :
    let entry := fun (s : State) (f : Peer → Bool) => ∃ e ∈ s.peers, e.station = 1 ∧ f e = true
    let timed := fun presence => peer1 (fun e => { e with presence := presence, presTimer := some 0 }) inverting
    (Inv inverting ∧ entry inverting (fun e => decide (e.presTimer ≠ some 0) && decide (e.staleTimer ≠ some 0)
        && decide (e.claimTimer ≠ some 0)))
      ∧ (Inv (timed .joining) ∧ ClaimKept (timed .joining)
        ∧ entry (timed .joining) fun e => decide (e.presence = .joining) && decide (e.presTimer = some 0))
      ∧ (Inv (timed .present) ∧ (timed .present).trc.proposal = none
        ∧ entry (timed .present) fun e => decide (e.presence = .present) && decide (e.presTimer = some 0))
      ∧ (let s := proposing .window [1, 2] [2] (some 9) (timed .present)
         Inv s ∧ s.link.state ≠ .listen ∧ s.link.coord.length < 8
          ∧ ∀ q ∈ ([1, 2] : List Station), q = 1 ∨ q ∈ ([2] : List Station))
      ∧ (let s := proposing .window [1, 2] [] (some 9) (timed .present)
         Inv s ∧ s.link.state ≠ .listen ∧ s.link.coord.length < 8
          ∧ ∃ q ∈ ([1, 2] : List Station), q ≠ 1 ∧ q ∉ ([] : List Station))
      ∧ (let s := peer1 (fun e => { e with presence := .stale, presTimer := none, staleTimer := some 0 }) inverting
         Inv s ∧ entry s fun e => decide (e.presence = .stale) && decide (e.staleTimer = some 0))
      ∧ (let s := peer1 (fun e => { e with claim := some ⟨.test, 9#32, false⟩, claimTimer := some 0 }) inverting
         Inv s ∧ ClaimKept s
          ∧ entry s fun e => decide (e.claim = some ⟨.test, 9#32, false⟩) && decide (e.claimTimer = some 0)) :=
  ⟨⟨inv_of_invHolds (by decide +kernel), by decide +kernel⟩,
    ⟨inv_of_invHolds (by decide +kernel), by decide +kernel⟩,
    ⟨inv_of_invHolds (by decide +kernel), by decide +kernel⟩,
    ⟨inv_of_invHolds (by decide +kernel), by decide +kernel⟩,
    ⟨inv_of_invHolds (by decide +kernel), by decide +kernel⟩,
    ⟨inv_of_invHolds (by decide +kernel), by decide +kernel⟩,
    inv_of_invHolds (by decide +kernel), by decide +kernel⟩

/-! ## Proposals, orders, FORCE and claims heard -/

theorem test_meets_ProposeIsAnsweredByState :
    let m := Msg.propose 7#8 .toBypass 4980#32 8000#32
    let ready := fun s : State => Hears 1 m (encodeFloorFrame 1 m) s ∧ ClaimKept s ∧ s.link.coord.length < 8
    let noBypass := { inverting with clu := { inverting.clu with bypOk := LineIn.low } }
    (ready bypassed ∧ inSource .toBypass bypassed = false)
      ∧ (ready (armed 8000#32 .toBypass inverting) ∧ isolatedFlag (armed 8000#32 .toBypass inverting) = false)
      ∧ (ready noBypass ∧ firstFailing (readinessChecks .toBypass noBypass) = some .bypassUnavailable)
      ∧ (ready inverting ∧ isolatedFlag inverting = false ∧ inSource .toBypass inverting = true
        ∧ inverting.trc.activity = .none ∧ firstFailing (readinessChecks .toBypass inverting) = none) := by
  decide +kernel

theorem test_meets_EarlierProposalWins :
    let early := Msg.propose 7#8 .toBypass 4980#32 8000#32
    let late := Msg.propose 7#8 .toBypass 4995#32 8000#32
    let ready := fun (p : Station) (m : Msg) (s : State) =>
      Hears p m (encodeFloorFrame p m) s ∧ ClaimKept s ∧ s.link.attempt = none ∧ s.link.coord.length < 7
        ∧ isolatedFlag s = false ∧ inSource .toBypass s = true
        ∧ firstFailing (readinessChecks .toBypass s) = none ∧ s.trc.proposal.isSome = true
    let own := proposing .window [1] [] (some 9) inverting
    (Inv (following inverting) ∧ ready 2 late (following inverting)
        ∧ ¬ wins 2 4995#32 (heardProposal 1 4990#32 8000#32))
      ∧ (ready 2 early (following inverting) ∧ wins 2 4980#32 (heardProposal 1 4990#32 8000#32))
      ∧ ready 1 (.propose 8#8 .toBypass 4995#32 8000#32) (following inverting)
      ∧ (Inv own ∧ ready 1 late own ∧ ¬ wins 1 4995#32 ⟨0, 4990#32, 8000#32, some .window, [1], [], some 9⟩)
      ∧ (ready 1 early own ∧ wins 1 4980#32 ⟨0, 4990#32, 8000#32, some .window, [1], [], some 9⟩) :=
  ⟨⟨inv_of_invHolds (by decide +kernel), by decide +kernel⟩, by decide +kernel, by decide +kernel,
    ⟨inv_of_invHolds (by decide +kernel), by decide +kernel⟩, by decide +kernel⟩

theorem test_meets_AnswersDecideProposal :
    let ready := fun (i : PropId) (s : State) =>
      OnLine s ∧ ClaimKept s ∧ s.link.coord.length < 8
        ∧ Hears 1 (.consent i) (encodeFloorFrame 1 (.consent i)) s
        ∧ Hears 1 (.objectTransfer i 8#8) (encodeFloorFrame 1 (.objectTransfer i 8#8)) s
        ∧ s.trc.activity = .proposed ⟨0, 5#8⟩ .toBypass
    let last := proposing .window [1, 2] [2] (some 9) inverting
    let first := proposing .window [1, 2] [] (some 9) inverting
    let closed := proposing .ordering [1] [1] none inverting
    (Inv last ∧ ready ⟨0, 5#8⟩ last ∧ ∀ q ∈ ([1, 2] : List Station), q ∈ ([2] ++ [1] : List Station))
      ∧ (Inv first ∧ ready ⟨0, 5#8⟩ first ∧ ∃ q ∈ ([1, 2] : List Station), q ∉ ([] ++ [1] : List Station))
      ∧ (Inv closed ∧ ready ⟨0, 5#8⟩ closed) ∧ ready ⟨0, 6#8⟩ first :=
  ⟨⟨inv_of_invHolds (by decide +kernel), by decide +kernel⟩,
    ⟨inv_of_invHolds (by decide +kernel), by decide +kernel⟩,
    ⟨inv_of_invHolds (by decide +kernel), by decide +kernel⟩, by decide +kernel⟩

theorem test_meets_OrderArmsAndCancelDrops :
    let ready := fun s : State =>
      Hears 1 (.order ⟨1, 7#8⟩) (encodeFloorFrame 1 (.order ⟨1, 7#8⟩)) s
        ∧ Hears 1 (.cancel ⟨1, 7#8⟩ 9#8) (encodeFloorFrame 1 (.cancel ⟨1, 7#8⟩ 9#8)) s
        ∧ ClaimKept s ∧ s.link.attempt = none ∧ s.link.coord.length < 8
    (Inv (following inverting) ∧ ready (following inverting) ∧ Ahead 8000#32 (following inverting)
        ∧ (following inverting).trc.activity = .following ⟨1, 7#8⟩ .toBypass)
      ∧ (Inv inverting ∧ ready inverting ∧ inverting.trc.activity = .none)
      ∧ (let s := atTime 8000#32 (following (granted serviceClaim inverting))
         Inv s ∧ ready s ∧ ¬ Ahead 8000#32 s ∧ RunHoldsClaim s ∧ s.clu.fb.qual ≠ Sys2Proof.Mode.byp.feedback)
      ∧ (let s := atTime 8000#32 (following (testing (.running 1)))
         Inv s ∧ ready s ∧ ¬ Ahead 8000#32 s ∧ RunHoldsClaim s ∧ s.tsq.state.inProgress = true)
      ∧ (let s := following bypassed
         let held := atTime 8000#32 { s with trc := { s.trc with
           activity := .following ⟨1, 7#8⟩ .toInverter, holdTimer := some 9 } }
         Inv held ∧ ready held ∧ ¬ Ahead 8000#32 held ∧ RunHoldsClaim held) :=
  ⟨⟨inv_of_invHolds (by decide +kernel), by decide +kernel⟩,
    ⟨inv_of_invHolds (by decide +kernel), by decide +kernel⟩,
    ⟨inv_of_invHolds (by decide +kernel), by decide +kernel⟩,
    ⟨inv_of_invHolds (by decide +kernel), by decide +kernel⟩,
    inv_of_invHolds (by decide +kernel), by decide +kernel⟩

theorem test_meets_HeardForceMovesStation :
    let ready := fun s : State => Hears 1 (.force 1#8) (encodeFloorFrame 1 (.force 1#8)) s
    let settled := fun s : State => ready s ∧ ClaimKept s ∧ s.lva = none ∧ s.tsq.state.inProgress = false
      ∧ isolatedFlag s = false ∧ s.trc.ownMode = .inv
    let isolated := withVisit (visitIn .isolation .isolated) standing
    let noBypass := { inverting with clu := { inverting.clu with bypOk := LineIn.low } }
    (Inv isolated ∧ ready isolated ∧ ClaimKept isolated ∧ isolatedFlag isolated = true)
      ∧ (Inv bypassed ∧ ready bypassed ∧ ClaimKept bypassed ∧ isolatedFlag bypassed = false
        ∧ bypassed.trc.ownMode ≠ .inv ∧ bypassed.trc.activity = .none)
      ∧ (Inv inverting ∧ settled inverting ∧ inverting.trc.activity = .none
        ∧ inverting.clu.bypOk.qual = true ∧ inverting.clu.fb.qual ≠ Sys2Proof.Mode.byp.feedback)
      ∧ (Inv noBypass ∧ settled noBypass ∧ noBypass.clu.bypOk.qual = false
        ∧ noBypass.clu.fb.qual ≠ Sys2Proof.Mode.off.feedback)
      ∧ (Inv (switching .byp .planned inverting) ∧ settled (switching .byp .planned inverting)
        ∧ (switching .byp .planned inverting).clu.fb.qual ≠ Sys2Proof.Mode.byp.feedback) :=
  ⟨⟨inv_of_invHolds (by decide +kernel), by decide +kernel⟩,
    ⟨inv_of_invHolds (by decide +kernel), by decide +kernel⟩,
    ⟨inv_of_invHolds (by decide +kernel), by decide +kernel⟩,
    ⟨inv_of_invHolds (by decide +kernel), by decide +kernel⟩,
    inv_of_invHolds (by decide +kernel), by decide +kernel⟩

/-- An own proposal that has its consents stands ARMED. -/
def armedOwn (s : State) : State :=
  { s with trc := { s.trc with
      activity := .armed ⟨0, 5#8⟩ .toBypass 8000#32, proposal := some (heardProposal 0 4990#32 8000#32) } }

theorem test_meets_HeardForceMovesStation_planned :
    let ready := fun s : State => Hears 1 (.force 1#8) (encodeFloorFrame 1 (.force 1#8)) s
      ∧ isolatedFlag s = false ∧ s.link.attempt = none ∧ s.clu.bypOk.qual = true ∧ s.clu.fb.qual ≠ .byp
    let settled := fun s : State => ready s ∧ ClaimKept s ∧ s.lva = none ∧ s.tsq.state.inProgress = false
    (Inv (proposing .queued [] [] none inverting) ∧ settled (proposing .queued [] [] none inverting))
      ∧ (Inv (armedOwn inverting) ∧ settled (armedOwn inverting) ∧ (armedOwn inverting).link.station = 0)
      ∧ (Inv (following inverting) ∧ settled (following inverting))
      ∧ (Inv (armed 8000#32 .toBypass inverting) ∧ settled (armed 8000#32 .toBypass inverting)
        ∧ (armed 8000#32 .toBypass inverting).link.station = 0)
      ∧ (Inv (testing (.running 1)) ∧ ready (testing (.running 1))
        ∧ (testing (.running 1)).tsq.state.inProgress = true ∧ (testing (.running 1)).trc.activity = .none
        ∧ (testing (.running 1)).trc.ownMode = .inv ∧ (testing (.running 1)).link.coord.length < 8) :=
  ⟨⟨inv_of_invHolds (by decide +kernel), by decide +kernel⟩,
    ⟨inv_of_invHolds (by decide +kernel), by decide +kernel⟩,
    ⟨inv_of_invHolds (by decide +kernel), by decide +kernel⟩,
    ⟨inv_of_invHolds (by decide +kernel), by decide +kernel⟩,
    inv_of_invHolds (by decide +kernel), by decide +kernel⟩

theorem test_meets_HeardClaimAndReleaseChangeRecord :
    let m := Msg.claim .test 4500#32
    let ready := fun s : State => Hears 1 m (encodeFloorFrame 1 m) s ∧ ClaimKept s ∧ s.lva = none
      ∧ s.link.coord.length < 8 ∧ ∃ e ∈ s.peers, e.station = 1
    let shown := peer1 (fun e => { e with claim := some ⟨.test, 4500#32, true⟩ }) inverting
    (Inv (alone inverting) ∧ ready (alone inverting)
        ∧ ∀ e ∈ (alone inverting).peers, e.presence ≠ .present)
      ∧ (Inv bypassed ∧ ready bypassed ∧ leaveCheck bypassed 1 .test 4500#32 = some .floorBusy)
      ∧ (Inv (covered inverting) ∧ ready (covered inverting)
        ∧ leaveCheck (covered inverting) 1 .test 4500#32 = none)
      ∧ (Inv shown ∧ ClaimKept shown
        ∧ Hears 1 (.release .test 4500#32) (encodeFloorFrame 1 (.release .test 4500#32)) shown)
      ∧ (let s := granted testClaim inverting
         let after := peer1 (fun e => { e with
           claim := some ⟨.service, 4500#32, false⟩, claimTimer := some 7000
           markers := { e.markers with claim := true } }) s
         Inv s ∧ Hears 1 (.claim .service 4500#32) (encodeFloorFrame 1 (.claim .service 4500#32)) s
          ∧ leaveCheck s 1 .service 4500#32 = none ∧ ClaimKept after) :=
  ⟨⟨inv_of_invHolds (by decide +kernel), by decide +kernel⟩,
    ⟨inv_of_invHolds (by decide +kernel), by decide +kernel⟩,
    ⟨inv_of_invHolds (by decide +kernel), by decide +kernel⟩,
    ⟨inv_of_invHolds (by decide +kernel), by decide +kernel⟩,
    inv_of_invHolds (by decide +kernel), by decide +kernel⟩

theorem test_meets_LeaveCheckTestsInOrder :
    leaveCheck (peer1 (fun e => { e with claim := some ⟨.test, 1#32, true⟩ }) (covered inverting)) 2 .test 4500#32
        = some .testBusy
      ∧ leaveCheck bypassed 1 .test 4500#32 = some .floorBusy
      ∧ leaveCheck (peer1 (fun e => { e with report := { e.report with source := .battery } }) (covered inverting))
          2 .test 4500#32 = some .onBattery
      ∧ leaveCheck inverting 1 .test 4500#32 = some .margin
      ∧ leaveCheck (covered inverting) 1 .test 4500#32 = none := by
  decide +kernel

theorem test_meets_ObjectDeniesOwnClaim :
    let m := fun p : Station => Msg.objectClaim p 4000#32 8#8
    let s := { inverting with
      lva := some { testClaim with granted := false, queueTimer := some 5 }
      tsq := { inverting.tsq with state := .claiming } }
    let visiting := { withVisit (visitIn .isolation .requested) inverting with lva := some serviceClaim }
    let held := granted testClaim inverting
    let ready := fun s : State => OnLine s ∧ Hears 1 (m 0) (encodeFloorFrame 1 (m 0)) s
      ∧ Hears 1 (m 2) (encodeFloorFrame 1 (m 2)) s ∧ s.link.station = 0
    (Inv s ∧ ready s ∧ ClaimKept s ∧ s.tsq.state = .claiming)
      ∧ (Inv visiting ∧ ready visiting ∧ serviceClaim.granted = false ∧ serviceClaim.time = 4000#32)
      ∧ (Inv held ∧ ready held ∧ ClaimKept held ∧ testClaim.time = 4000#32 ∧ testClaim.fixed = false)
      ∧ ready inverting ∧ inverting.lva = none :=
  ⟨⟨inv_of_invHolds (by decide +kernel), by decide +kernel⟩,
    ⟨inv_of_invHolds (by decide +kernel), by decide +kernel⟩,
    ⟨inv_of_invHolds (by decide +kernel), by decide +kernel⟩, by decide +kernel⟩

/-! ## Floor time and the terms of transfers -/

def counted (n : Nat) (slew : Int) : State :=
  { inverting with ftu := { inverting.ftu with tickCount := n, slew := slew } }

theorem test_meets_SlewTickMovesFloorTime :
    ((counted 99 4).ftu.tickCount = 99 ∧ 0 < (counted 99 4).ftu.slew)
      ∧ (counted 99 (-4)).ftu.slew < 0 ∧ (counted 99 0).ftu.slew = 0 ∧ (counted 98 4).ftu.tickCount ≠ 99 := by
  decide +kernel

theorem test_meets_TickMovesEveryTimer :
    (counted 99 4).ftu.tickCount = 99 ∧ (counted 98 4).ftu.tickCount ≠ 99 := by
  decide +kernel

theorem test_meets_BoundaryEvaluationAligns :
    let due := { inverting with ftu := { inverting.ftu with boundaryDue := true } }
    let idle := { State.reset with ftu := { State.reset.ftu with boundaryDue := true } }
    (Inv inverting ∧ ClaimKept inverting ∧ inverting.link.attempt = none ∧ inverting.ftu.boundaryDue = false)
      ∧ (Inv due ∧ ClaimKept due ∧ due.trc.activity = .none ∧ due.hpi.running = true)
      ∧ (Inv idle ∧ idle.lva = none ∧ idle.trc.activity = .none ∧ idle.hpi.running = false)
      ∧ (let s := { granted testClaim inverting with ftu := due.ftu }
         Inv s ∧ ClaimKept s ∧ s.link.attempt = none ∧ s.trc.activity = .none ∧ testClaim.fixed = false)
      ∧ (let s := { unbacked inverting with ftu := due.ftu }
         Inv s ∧ OnLine s ∧ s.link.coord.length < 8 ∧ s.trc.activity = .none ∧ TestClaimFails testClaim .margin s) :=
  ⟨⟨inv_of_invHolds (by decide +kernel), by decide +kernel⟩,
    ⟨inv_of_invHolds (by decide +kernel), by decide +kernel⟩,
    ⟨inv_of_invHolds (by decide +kernel), by decide +kernel⟩,
    ⟨inv_of_invHolds (by decide +kernel), by decide +kernel⟩,
    inv_of_invHolds (by decide +kernel), by decide +kernel⟩

/-- A boundary is due at 5000, and the one fresh offset, 1200, has a mean of 600: floor time steps to 5600. -/
def stepped (s : State) : State :=
  peer1 (fun e => { e with presence := .present, fresh := 2, offset := some 1200#32 })
    { s with ftu := { s.ftu with boundaryDue := true } }

theorem test_meets_BoundaryEvaluationAligns_planned :
    let due := fun s : State => OnLine s ∧ s.ftu.boundaryDue = true ∧ RunHoldsClaim s ∧ s.link.coord.length < 8
    let after := fun s : State => atTime 5600#32 s
    let reached := stepped (armed 5600#32 .toBypass inverting)
    let run := stepped (armed 5600#32 .toBypass (testing (.running 1)))
    let fails := fun u : FloorTime => stepped (armed u .toBypass (unbacked inverting))
    (∀ s ∈ [reached, run, fails 5600#32],
        (s.peers.filterMap fun e => if e.presence = .present ∧ 0 < e.fresh then e.offset.map (·.toInt) else none) = [1200]
          ∧ s.ftu.floorTime = 5000#32)
      ∧ (Inv (stepped (following inverting)) ∧ due (stepped (following inverting))
        ∧ ClaimKept (stepped (following inverting)))
      ∧ (Inv (stepped (armed 5601#32 .toBypass inverting)) ∧ due (stepped (armed 5601#32 .toBypass inverting))
        ∧ Ahead 5601#32 (after (stepped (armed 5601#32 .toBypass inverting))))
      ∧ (Inv reached ∧ due reached ∧ ClaimKept reached ∧ ¬ Ahead 5600#32 (after reached)
        ∧ reached.clu.fb.qual ≠ Sys2Proof.Mode.byp.feedback)
      ∧ (Inv run ∧ due run ∧ ClaimKept run ∧ ¬ Ahead 5600#32 (after run) ∧ run.tsq.state.inProgress = true)
      ∧ (Inv (fails 5600#32) ∧ due (fails 5600#32) ∧ TestClaimFails testClaim .margin (fails 5600#32)
        ∧ ¬ Ahead 5600#32 (after (fails 5600#32)))
      ∧ (Inv (fails 5601#32) ∧ due (fails 5601#32) ∧ TestClaimFails testClaim .margin (fails 5601#32)
        ∧ Ahead 5601#32 (after (fails 5601#32))) :=
  ⟨by decide +kernel, ⟨inv_of_invHolds (by decide +kernel), by decide +kernel⟩,
    ⟨inv_of_invHolds (by decide +kernel), by decide +kernel⟩,
    ⟨inv_of_invHolds (by decide +kernel), by decide +kernel⟩,
    ⟨inv_of_invHolds (by decide +kernel), by decide +kernel⟩,
    ⟨inv_of_invHolds (by decide +kernel), by decide +kernel⟩,
    inv_of_invHolds (by decide +kernel), by decide +kernel⟩

theorem test_meets_PlannedTransferTerms :
    let ready := fun s : State => OnLine s ∧ ClaimKept s ∧ s.link.coord.length < 8
    let early := fun s : State => Ahead 7000#32 s ∧ Ahead 9000#32 s
    let late := fun s : State => ¬ Ahead 7000#32 s ∧ ¬ Ahead 9000#32 s
    let inPhase := fun (phase : Phase) (window : Option Ticks) => proposing phase [1] [] window inverting
    let passed := fun s : State => atTime 9500#32 s
    (Inv (inPhase .queued none) ∧ ready (inPhase .queued none) ∧ early (inPhase .queued none)
        ∧ late (passed (inPhase .queued none)))
      ∧ (Inv (inPhase .ordering none) ∧ ready (passed (inPhase .ordering none))
        ∧ late (passed (inPhase .ordering none)))
      ∧ (Inv (inPhase .window (some 0)) ∧ ready (inPhase .window (some 0)))
      ∧ (Inv (following inverting) ∧ ready (passed (following inverting)) ∧ early (following inverting)
        ∧ late (passed (following inverting)))
      ∧ (Inv (armed 8000#32 .toBypass inverting) ∧ Ahead 8000#32 (armed 8000#32 .toBypass inverting)
        ∧ (armed 8000#32 .toBypass inverting).tsq.state.inProgress = false)
      ∧ (let s := armed 4000#32 .toInverter bypassed
         let held := { s with trc := { s.trc with holdTimer := some 5 } }
         Inv s ∧ ClaimKept s ∧ ¬ Ahead 4000#32 s ∧ s.trc.holdTimer = none
          ∧ (invReadyFlag s && !s.clu.invFault.qual) = true ∧ s.clu.fb.qual ≠ Sys2Proof.Mode.inv.feedback
          ∧ held.trc.holdTimer ≠ none)
      ∧ (let s := armed 4000#32 .toBypass inverting
         Inv s ∧ ¬ Ahead 4000#32 s ∧ RunHoldsClaim s ∧ s.clu.fb.qual ≠ Sys2Proof.Mode.byp.feedback)
      ∧ (let s := armed 4000#32 .toBypass (testing (.running 1))
         Inv s ∧ OnLine s ∧ ¬ Ahead 4000#32 s ∧ RunHoldsClaim s ∧ s.tsq.state.inProgress = true
          ∧ s.link.coord.length < 8 ∧ s.clu.fb.qual ≠ Sys2Proof.Mode.byp.feedback) :=
  ⟨⟨inv_of_invHolds (by decide +kernel), by decide +kernel⟩,
    ⟨inv_of_invHolds (by decide +kernel), by decide +kernel⟩,
    ⟨inv_of_invHolds (by decide +kernel), by decide +kernel⟩,
    ⟨inv_of_invHolds (by decide +kernel), by decide +kernel⟩,
    ⟨inv_of_invHolds (by decide +kernel), by decide +kernel⟩,
    ⟨inv_of_invHolds (by decide +kernel), by decide +kernel⟩,
    ⟨inv_of_invHolds (by decide +kernel), by decide +kernel⟩,
    inv_of_invHolds (by decide +kernel), by decide +kernel⟩

theorem test_meets_ModeTimersEnd :
    let held := { inverting with trc := { inverting.trc with holdTimer := some 0 } }
    let tolerated := { inverting with trc := { inverting.trc with overloadTimer := some 0 } }
    (Inv (switching .byp .planned inverting) ∧ ClaimKept (switching .byp .planned inverting)
        ∧ (switching .byp .planned inverting).trc.switchTimer = some 0)
      ∧ (Inv held ∧ held.trc.holdTimer = some 0 ∧ held.trc.switchTimer ≠ some 0)
      ∧ (inverting.trc.holdTimer ≠ some 0 ∧ inverting.trc.overloadTimer ≠ some 0)
      ∧ (Inv tolerated ∧ OnLine tolerated ∧ tolerated.lva = none ∧ tolerated.trc.ownMode = .inv
        ∧ tolerated.trc.activity = .none ∧ isolatedFlag tolerated = false
        ∧ tolerated.tsq.state.inProgress = false ∧ tolerated.link.urgent.length < 2
        ∧ tolerated.clu.bypOk.qual = true ∧ tolerated.clu.fb.qual ≠ .byp) :=
  ⟨⟨inv_of_invHolds (by decide +kernel), by decide +kernel⟩,
    ⟨inv_of_invHolds (by decide +kernel), by decide +kernel⟩, by decide +kernel,
    inv_of_invHolds (by decide +kernel), by decide +kernel⟩

/-! ## Lines -/

theorem test_meets_LinesAreTimedAndTold :
    let alarmed := { inverting with clu := { inverting.clu with alarmIn := ⟨true, false, some 0⟩ } }
    let loud := { inverting with clu := { inverting.clu with horn := true, hornTimer := some 0 } }
    (Inv inverting ∧ inverting.clu.alarmIn.timer ≠ some 0 ∧ inverting.clu.hornTimer ≠ some 0)
      ∧ (Inv alarmed ∧ alarmed.clu.alarmIn.timer = some 0) ∧ (Inv loud ∧ loud.clu.hornTimer = some 0) :=
  ⟨⟨inv_of_invHolds (by decide +kernel), by decide +kernel⟩,
    ⟨inv_of_invHolds (by decide +kernel), by decide +kernel⟩,
    inv_of_invHolds (by decide +kernel), by decide +kernel⟩

def ending (raw : Bool) : LineIn := ⟨raw, !raw, some 0⟩

def withFollowup (s : State) : State := { s with vsm := { s.vsm with dues := [⟨.faultFollowup, 0⟩] } }

def faulting (s : State) : State := withFollowup { s with clu := { s.clu with invFault := ending true } }

theorem test_meets_StageInputIsTaken :
    let fault := ending true
    let off := { State.reset with clu := { State.reset.clu with overload := fault } }
    let loaded := { inverting with clu := { inverting.clu with overload := fault } }
    let fine := { inverting with clu := { inverting.clu with bypOk := ending false } }
    let settled := { bypassed with clu := { bypassed.clu with invFault := fault } }
    let ready := fun s : State => ClaimKept s ∧ s.lva = none ∧ s.trc.ownMode = .inv ∧ s.trc.activity = .none
      ∧ s.tsq.state.inProgress = false ∧ isolatedFlag s = false ∧ s.link.state ≠ .listen ∧ s.link.attempt = none
      ∧ s.link.urgent.length < 2 ∧ ∃ d ∈ s.vsm.dues, d.kind = .faultFollowup
    (Inv inverting ∧ (inverting.clu.stageLine .overload).timer ≠ some 0)
      ∧ (Inv off ∧ (off.clu.stageLine .overload).timer = some 0 ∧ ClaimKept off ∧ off.hpi.running = false)
      ∧ (Inv loaded ∧ (loaded.clu.stageLine .overload).timer = some 0 ∧ 0 < loaded.hpi.floor.overloadTol)
      ∧ (Inv fine ∧ (fine.clu.stageLine .bypOk).timer = some 0)
      ∧ (Inv settled ∧ settled.trc.ownMode ≠ .inv ∧ settled.trc.activity = .none)
      ∧ (Inv (faulting (covered inverting)) ∧ ready (faulting (covered inverting))
        ∧ floorLoad (faulting (covered inverting)) ≤ 300 ∧ (faulting (covered inverting)).clu.fb.qual ≠ .off)
      ∧ (Inv (faulting (alone inverting)) ∧ ready (faulting (alone inverting))
        ∧ 0 < floorLoad (faulting (alone inverting)) ∧ (faulting (alone inverting)).clu.bypOk.qual = true
        ∧ (faulting (alone inverting)).clu.fb.qual ≠ .byp) :=
  ⟨⟨inv_of_invHolds (by decide +kernel), by decide +kernel⟩,
    ⟨inv_of_invHolds (by decide +kernel), by decide +kernel⟩,
    ⟨inv_of_invHolds (by decide +kernel), by decide +kernel⟩,
    ⟨inv_of_invHolds (by decide +kernel), by decide +kernel⟩,
    ⟨inv_of_invHolds (by decide +kernel), by decide +kernel⟩,
    ⟨inv_of_invHolds (by decide +kernel), by decide +kernel⟩,
    inv_of_invHolds (by decide +kernel), by decide +kernel⟩

theorem test_meets_StageInputIsTaken_followup :
    let ready := fun s : State => OnLine s ∧ ClaimKept s ∧ s.lva = none ∧ s.tsq.state.inProgress = false
      ∧ isolatedFlag s = false ∧ s.link.urgent.length < 2 ∧ s.vsm.dues = []
    let settled := fun s : State => ready s ∧ s.trc.activity = .none ∧ s.trc.ownMode = .inv
    let fault := fun s : State => { s with clu := { s.clu with invFault := ending true } }
    let noBypass := { fault inverting with clu := { (fault inverting).clu with bypOk := LineIn.low } }
    let strict := { inverting with
      clu := { inverting.clu with overload := ending true }
      hpi := { inverting.hpi with floor := { inverting.hpi.floor with overloadTol := 0 } } }
    (Inv (fault (covered inverting)) ∧ settled (fault (covered inverting))
        ∧ floorLoad (fault (covered inverting)) ≤ carriedByOthers (fault (covered inverting))
        ∧ (fault (covered inverting)).clu.fb.qual ≠ .off)
      ∧ (Inv (fault (alone inverting)) ∧ settled (fault (alone inverting))
        ∧ carriedByOthers (fault (alone inverting)) < floorLoad (fault (alone inverting))
        ∧ (fault (alone inverting)).clu.bypOk.qual = true ∧ (fault (alone inverting)).clu.fb.qual ≠ .byp)
      ∧ (Inv (alone noBypass) ∧ settled (alone noBypass)
        ∧ carriedByOthers (alone noBypass) < floorLoad (alone noBypass)
        ∧ (alone noBypass).clu.bypOk.qual = false ∧ (alone noBypass).clu.fb.qual ≠ .off)
      ∧ (let s := fault (switching .inv .join inverting)
         Inv s ∧ ready s ∧ s.trc.activity = .switching .inv .join ∧ s.clu.fb.qual ≠ .off)
      ∧ (Inv strict ∧ settled strict ∧ strict.hpi.floor.overloadTol = 0 ∧ strict.clu.bypOk.qual = true
        ∧ strict.clu.fb.qual ≠ .byp) :=
  ⟨⟨inv_of_invHolds (by decide +kernel), by decide +kernel⟩,
    ⟨inv_of_invHolds (by decide +kernel), by decide +kernel⟩,
    ⟨inv_of_invHolds (by decide +kernel), by decide +kernel⟩,
    ⟨inv_of_invHolds (by decide +kernel), by decide +kernel⟩,
    inv_of_invHolds (by decide +kernel), by decide +kernel⟩

theorem test_meets_StageInputIsTaken_planned :
    let fault := fun s : State => { s with clu := { s.clu with invFault := ending true } }
    let ready := fun s : State => OnLine s ∧ RunHoldsClaim s ∧ ClaimKept s ∧ s.trc.ownMode = .inv
      ∧ isolatedFlag s = false ∧ s.link.urgent.length < 2 ∧ s.link.coord.length < 8
    let proposed := fault (proposing .ordering [1] [] none (covered inverting))
    let followed := fault (following (alone inverting))
    let run := fault (covered (testing (.running 1)))
    (Inv proposed ∧ ready proposed ∧ (∃ id dir, proposed.trc.activity = .proposed id dir)
        ∧ floorLoad proposed ≤ carriedByOthers proposed ∧ proposed.clu.fb.qual ≠ .off)
      ∧ (Inv followed ∧ ready followed ∧ (∃ id dir, followed.trc.activity = .following id dir)
        ∧ carriedByOthers followed < floorLoad followed ∧ followed.clu.bypOk.qual = true
        ∧ followed.clu.fb.qual ≠ .byp)
      ∧ (Inv run ∧ ready run ∧ run.trc.activity = .none ∧ run.tsq.state.inProgress = true
        ∧ floorLoad run ≤ carriedByOthers run ∧ run.clu.fb.qual ≠ .off) :=
  ⟨⟨inv_of_invHolds (by decide +kernel), by decide +kernel, ⟨_, _, rfl⟩, by decide +kernel⟩,
    ⟨inv_of_invHolds (by decide +kernel), by decide +kernel, ⟨_, _, rfl⟩, by decide +kernel⟩,
    inv_of_invHolds (by decide +kernel), by decide +kernel⟩

def contactEnding (k : Contact) (closed : Bool) (s : State) : State :=
  { s with clu := s.clu.contact k fun _ => ending closed }

theorem test_meets_ContactChangeIsTaken :
    let due := fun (k : Contact) (s : State) => (s.clu.contactLine k).timer = some 0
    let quiet := contactEnding .maint true State.reset
    let opened := contactEnding .output false inverting
    let interlocked := contactEnding .maint true inverting
    let isolating := contactEnding .output false (withVisit (visitIn .isolation .isolating) standing)
    let waiting := contactEnding .maint true (withVisit (visitIn .floorMaintenance .maintWait) bypassed)
    (Inv inverting ∧ (inverting.clu.contactLine .maint).timer ≠ some 0)
      ∧ (Inv quiet ∧ due .maint quiet ∧ quiet.hpi.running = false)
      ∧ (Inv opened ∧ due .output opened ∧ ClaimKept opened ∧ opened.vsm.visit = none)
      ∧ (Inv interlocked ∧ due .maint interlocked ∧ interlocked.vsm.visit = none ∧ interlocked.trc.ownMode = .inv
        ∧ interlocked.lva = none ∧ interlocked.trc.activity = .none ∧ interlocked.tsq.state.inProgress = false
        ∧ interlocked.link.urgent.length < 2 ∧ interlocked.clu.bypOk.qual = true
        ∧ interlocked.clu.fb.qual ≠ .byp)
      ∧ (Inv isolating ∧ due .output isolating ∧ isolating.hpi.running = true ∧ isolating.lva = none)
      ∧ (Inv waiting ∧ due .maint waiting ∧ waiting.hpi.running = true ∧ ClaimKept waiting
        ∧ waiting.trc.ownMode ≠ .inv) :=
  ⟨⟨inv_of_invHolds (by decide +kernel), by decide +kernel⟩,
    ⟨inv_of_invHolds (by decide +kernel), by decide +kernel⟩,
    ⟨inv_of_invHolds (by decide +kernel), by decide +kernel⟩,
    ⟨inv_of_invHolds (by decide +kernel), by decide +kernel⟩,
    ⟨inv_of_invHolds (by decide +kernel), by decide +kernel⟩,
    inv_of_invHolds (by decide +kernel), by decide +kernel⟩

theorem test_meets_ContactChangeIsTaken_visit :
    let at_ := fun (k : Contact) (s : State) =>
      OnLine s ∧ ClaimKept s ∧ (s.clu.contactLine k).timer = some 0
        ∧ ¬ (k = .maint ∧ (s.clu.contactLine k).raw = true ∧ s.trc.ownMode = .inv)
    let three := fun c : Clu => c.input.qual && c.battery.qual && c.output.qual
    let restoring := visitIn .isolation .restoring
    let opens := contactEnding .output false (withVisit restoring standing)
    let closes := contactEnding .bypassIn true (withVisit restoring standing)
    let asked := contactEnding .bypassIn true (withVisit { restoring with joinRequested := true } standing)
    let faulted := { closes with clu := { closes.clu with invFault := high } }
    let maintOn := contactEnding .output false (withVisit (visitIn .floorMaintenance .maintOn) bypassed)
    (Inv opens ∧ at_ .output opens ∧ (opens.clu.contactLine .output).raw = false)
      ∧ (Inv asked ∧ at_ .bypassIn asked ∧ (asked.clu.contactLine .bypassIn).raw = true)
      ∧ (Inv faulted ∧ at_ .bypassIn faulted ∧ three faulted.clu = true
        ∧ firstFailing ((joinChecks faulted).drop 1) = some .notReady)
      ∧ (Inv closes ∧ at_ .bypassIn closes ∧ three closes.clu = true
        ∧ firstFailing ((joinChecks closes).drop 1) = none
        ∧ closes.clu.fb.qual ≠ (floorModeFor closes).feedback)
      ∧ (Inv maintOn ∧ at_ .output maintOn) :=
  ⟨⟨inv_of_invHolds (by decide +kernel), by decide +kernel⟩,
    ⟨inv_of_invHolds (by decide +kernel), by decide +kernel⟩,
    ⟨inv_of_invHolds (by decide +kernel), by decide +kernel⟩,
    ⟨inv_of_invHolds (by decide +kernel), by decide +kernel⟩,
    inv_of_invHolds (by decide +kernel), by decide +kernel⟩

theorem test_meets_ContactChangeIsTaken_standing :
    let at_ := fun (k : Contact) (s : State) => OnLine s ∧ (s.clu.contactLine k).timer = some 0 ∧ ClaimKept s
      ∧ ClaimKept { s with clu := s.clu.contact k fun l => ⟨l.raw, l.raw, none⟩ }
    let requested := contactEnding .output false
      { withVisit (visitIn .isolation .requested) inverting with lva := some serviceClaim }
    let isolating := contactEnding .battery false (withVisit (visitIn .isolation .isolating) standing)
    let waiting := contactEnding .maint false (withVisit (visitIn .floorMaintenance .maintWait) bypassed)
    let forced := fun s : State => s.trc.ownMode = .inv ∧ s.link.urgent.length < 2
    let onto := fun v : Visit => contactEnding .maint true (withVisit v inverting)
    let run := contactEnding .maint true (withVisit (visitIn .inspection .opened) (testing (.running 1)))
    (Inv requested ∧ at_ .output requested ∧ (requested.clu.contactLine .output).raw = false)
      ∧ (Inv isolating ∧ at_ .battery isolating) ∧ (Inv waiting ∧ at_ .maint waiting)
      ∧ (Inv (onto (visitIn .isolation .restoring)) ∧ at_ .maint (onto (visitIn .isolation .restoring))
        ∧ forced (onto (visitIn .isolation .restoring)) ∧ isolatedFlag (onto (visitIn .isolation .restoring)) = true)
      ∧ (Inv (onto (visitIn .floorMaintenance .maintWait)) ∧ at_ .maint (onto (visitIn .floorMaintenance .maintWait))
        ∧ forced (onto (visitIn .floorMaintenance .maintWait))
        ∧ RunHoldsClaim (onto (visitIn .floorMaintenance .maintWait))
        ∧ (onto (visitIn .floorMaintenance .maintWait)).clu.fb.qual ≠ .byp)
      ∧ (Inv run ∧ OnLine run ∧ forced run ∧ RunHoldsClaim run ∧ run.tsq.state.inProgress = true
        ∧ isolatedFlag run = false ∧ run.trc.activity = .none ∧ run.clu.fb.qual ≠ .byp) :=
  ⟨⟨inv_of_invHolds (by decide +kernel), by decide +kernel⟩,
    ⟨inv_of_invHolds (by decide +kernel), by decide +kernel⟩,
    ⟨inv_of_invHolds (by decide +kernel), by decide +kernel⟩,
    ⟨inv_of_invHolds (by decide +kernel), by decide +kernel⟩,
    ⟨inv_of_invHolds (by decide +kernel), by decide +kernel⟩,
    inv_of_invHolds (by decide +kernel), by decide +kernel⟩

/-- Feedback that is qualified now from the raw levels `inv` and `byp`. -/
def fedBack (inv byp : Bool) (s : State) : State :=
  { s with clu := { s.clu with fb := ⟨inv, byp, s.clu.fb.qual, some 0⟩ } }

theorem test_meets_FeedbackIsTaken :
    let due := fun s : State => s.clu.fb.timer = some 0 ∧ s.hpi.running = true ∧ s.link.attempt = none
    let moving := switching .byp .planned { inverting with trc :=
      { inverting.trc with executing := some (⟨1, 7#8⟩, .toBypass) } }
    let isolating := fedBack false false (switching .off .isolate
      (withVisit (visitIn .isolation .isolating) (granted serviceClaim inverting)))
    (Inv inverting ∧ inverting.clu.fb.timer ≠ some 0)
      ∧ (Inv (fedBack true false State.reset) ∧ (fedBack true false State.reset).clu.fb.timer = some 0
        ∧ State.reset.hpi.running = false)
      ∧ (Inv (fedBack false false moving) ∧ due (fedBack false false moving) ∧ ClaimKept (fedBack false false moving)
        ∧ rawFeedback (fedBack false false moving).clu.fb ≠ Sys2Proof.Mode.byp.feedback)
      ∧ (Inv (fedBack false true moving) ∧ due (fedBack false true moving) ∧ (fedBack false true moving).lva = none
        ∧ rawFeedback (fedBack false true moving).clu.fb = Sys2Proof.Mode.byp.feedback
        ∧ (fedBack false true moving).trc.executing = some (⟨1, 7#8⟩, .toBypass))
      ∧ (Inv isolating ∧ due isolating ∧ rawFeedback isolating.clu.fb = .off ∧ serviceClaim.fixed = false
        ∧ ClaimKept { isolating with trc := { isolating.trc with ownMode := .off } }) :=
  ⟨⟨inv_of_invHolds (by decide +kernel), by decide +kernel⟩,
    ⟨inv_of_invHolds (by decide +kernel), by decide +kernel⟩,
    ⟨inv_of_invHolds (by decide +kernel), by decide +kernel⟩,
    ⟨inv_of_invHolds (by decide +kernel), by decide +kernel⟩,
    inv_of_invHolds (by decide +kernel), by decide +kernel⟩

/-- The station waits in MISMATCH for the feedback of `target`. -/
def mismatchedTo (target : Sys2Proof.Mode) (origin : Origin) (s : State) : State :=
  { s with trc := { s.trc with activity := .mismatch target origin } }

/-- A planned transfer of station 1 to inverter is being executed. -/
def executing (s : State) : State :=
  { s with trc := { s.trc with executing := some (⟨1, 7#8⟩, .toInverter) } }

/-- A visit in RESTORING whose JOIN was asked for, with its SERVICE claim. -/
def rejoining (s : State) : State :=
  { withVisit { visitIn .isolation .restoring with joinRequested := true } s with
    lva := some { serviceClaim with granted := true } }

theorem test_meets_FeedbackIsTaken_ended :
    let due := fun s : State => s.clu.fb.timer = some 0 ∧ s.hpi.running = true ∧ s.link.attempt = none
      ∧ rawFeedback s.clu.fb = .inv ∧ s.trc.ownMode ≠ .inv ∧ s.link.coord.length < 8
    let planned := fedBack true false (executing (switching .inv .planned bypassed))
    let joined := fedBack true false (switching .inv .join standing)
    let rejoined := rejoining joined
    let late := fedBack true false (executing (mismatchedTo .inv .planned bypassed))
    let lateJoined := fedBack true false (rejoining (mismatchedTo .inv .join standing))
    (Inv planned ∧ due planned ∧ planned.trc.activity = .switching .inv .planned ∧ planned.lva = none
        ∧ causesAtInv planned = [] ∧ planned.trc.executing = some (⟨1, 7#8⟩, .toInverter))
      ∧ (Inv joined ∧ due joined ∧ joined.trc.activity = .switching .inv .join ∧ joined.lva = none
        ∧ joinedVisit .join joined = none)
      ∧ (Inv rejoined ∧ due rejoined ∧ joinedVisit .join rejoined = rejoined.vsm.visit ∧ rejoined.vsm.visit ≠ none
        ∧ ∀ c ∈ rejoined.lva, c.kind = .service ∧ c.granted = true)
      ∧ (Inv late ∧ due late ∧ late.trc.activity = .mismatch .inv .planned ∧ late.lva = none
        ∧ late.trc.executing = some (⟨1, 7#8⟩, .toInverter))
      ∧ (Inv lateJoined ∧ due lateJoined ∧ lateJoined.trc.activity = .mismatch .inv .join
        ∧ joinedVisit .join lateJoined ≠ none)
      ∧ (let s := fedBack true false (mismatchedTo .byp .stage standing)
         Inv s ∧ s.lva = none ∧ s.trc.activity = .mismatch .byp .stage ∧ rawFeedback s.clu.fb ≠ .byp)
      ∧ (let s := fedBack true false (mismatchedTo .inv .forced inverting)
         Inv s ∧ s.lva = none ∧ rawFeedback s.clu.fb = .inv ∧ s.trc.ownMode = .inv) :=
  ⟨⟨inv_of_invHolds (by decide +kernel), by decide +kernel⟩,
    ⟨inv_of_invHolds (by decide +kernel), by decide +kernel⟩,
    ⟨inv_of_invHolds (by decide +kernel), by decide +kernel⟩,
    ⟨inv_of_invHolds (by decide +kernel), by decide +kernel⟩,
    ⟨inv_of_invHolds (by decide +kernel), by decide +kernel⟩,
    ⟨inv_of_invHolds (by decide +kernel), by decide +kernel⟩,
    inv_of_invHolds (by decide +kernel), by decide +kernel⟩

theorem test_meets_FeedbackIsTaken_onInverter :
    let due := fun s : State => s.clu.fb.timer = some 0 ∧ s.hpi.running = true ∧ s.link.attempt = none
      ∧ rawFeedback s.clu.fb = .inv ∧ s.trc.ownMode ≠ .inv ∧ s.link.urgent = [] ∧ s.tsq.state.inProgress = false
      ∧ s.link.coord.length < 8
    let loaded := fun s : State => { s with clu := { s.clu with overload := high } }
    let strict := fun s : State => { loaded s with
      hpi := { s.hpi with floor := { s.hpi.floor with overloadTol := 0 } } }
    let closed := fun s : State => { s with clu := { s.clu with maint := high } }
    let planned := fedBack true false (executing (switching .inv .planned bypassed))
    let joined := fedBack true false (switching .inv .join standing)
    let noBypass := { closed joined with clu := { (closed joined).clu with bypOk := LineIn.low } }
    (Inv (loaded planned) ∧ due (loaded planned) ∧ (loaded planned).clu.overload.qual = true
        ∧ causesAtInv (loaded planned) = [])
      ∧ (Inv (strict planned) ∧ due (strict planned) ∧ causesAtInv (strict planned) = [.overload]
        ∧ isolatedFlag (strict planned) = false ∧ (strict planned).lva = none)
      ∧ (Inv (closed planned) ∧ due (closed planned) ∧ causesAtInv (closed planned) = [.interlock]
        ∧ isolatedFlag (closed planned) = false)
      ∧ (Inv (strict (closed joined)) ∧ due (strict (closed joined))
        ∧ causesAtInv (strict (closed joined)) = [.overload, .interlock]
        ∧ isolatedFlag (strict (closed joined)) = false ∧ joinedVisit .join (strict (closed joined)) = none)
      ∧ (Inv noBypass ∧ due noBypass ∧ causesAtInv noBypass = [.interlock] ∧ noBypass.clu.bypOk.qual = false)
      ∧ (Inv (closed (rejoining joined)) ∧ due (closed (rejoining joined))
        ∧ causesAtInv (closed (rejoining joined)) = [.interlock]
        ∧ joinedVisit .join (closed (rejoining joined)) ≠ none) :=
  ⟨⟨inv_of_invHolds (by decide +kernel), by decide +kernel⟩,
    ⟨inv_of_invHolds (by decide +kernel), by decide +kernel⟩,
    ⟨inv_of_invHolds (by decide +kernel), by decide +kernel⟩,
    ⟨inv_of_invHolds (by decide +kernel), by decide +kernel⟩,
    ⟨inv_of_invHolds (by decide +kernel), by decide +kernel⟩,
    inv_of_invHolds (by decide +kernel), by decide +kernel⟩

theorem test_meets_FeedbackIsTaken_unsolicited :
    let due := fun s : State => OnLine s ∧ ClaimKept s ∧ s.clu.fb.timer = some 0 ∧ s.clu.fb.qual ≠ .inv
    let mixed := { inverting with clu := { inverting.clu with fb := ⟨true, true, .invalid, none⟩ } }
    let wrong := fun s : State => due s ∧ rawFeedback s.clu.fb ≠ s.clu.modeCmd.feedback
    let returned := fedBack false true { inverting with clu := { inverting.clu with
      modeCmd := .byp, fb := ⟨false, true, .invalid, none⟩ } }
    (Inv (fedBack true false standing) ∧ wrong (fedBack true false standing)
        ∧ (fedBack true false standing).trc.activity = .none)
      ∧ (Inv (fedBack false true (proposing .queued [] [] none mixed))
        ∧ wrong (fedBack false true (proposing .queued [] [] none mixed)))
      ∧ (Inv (fedBack false true (following mixed)) ∧ wrong (fedBack false true (following mixed)))
      ∧ (Inv (fedBack false true (armed 8000#32 .toBypass mixed))
        ∧ wrong (fedBack false true (armed 8000#32 .toBypass mixed)))
      ∧ (Inv (fedBack true false mixed) ∧ due (fedBack true false mixed)
        ∧ rawFeedback (fedBack true false mixed).clu.fb = (fedBack true false mixed).clu.modeCmd.feedback
        ∧ (fedBack true false mixed).trc.ownMode = (fedBack true false mixed).clu.modeCmd)
      ∧ (Inv returned ∧ due returned ∧ rawFeedback returned.clu.fb = returned.clu.modeCmd.feedback
        ∧ returned.clu.modeCmd ≠ .inv ∧ returned.lva = none ∧ returned.trc.ownMode ≠ returned.clu.modeCmd) :=
  ⟨⟨inv_of_invHolds (by decide +kernel), by decide +kernel⟩,
    ⟨inv_of_invHolds (by decide +kernel), by decide +kernel⟩,
    ⟨inv_of_invHolds (by decide +kernel), by decide +kernel⟩,
    ⟨inv_of_invHolds (by decide +kernel), by decide +kernel⟩,
    ⟨inv_of_invHolds (by decide +kernel), by decide +kernel⟩,
    inv_of_invHolds (by decide +kernel), by decide +kernel⟩

theorem test_meets_FeedbackIsTaken_falls :
    let falling := fun (after : FbMode) (s : State) => OnLine s ∧ s.clu.fb.timer = some 0 ∧ isolatedFlag s = false
      ∧ RunHoldsClaim s ∧ s.link.urgent.length < 2 ∧ s.link.coord.length < 8 ∧ s.trc.ownMode = .inv
      ∧ s.clu.fb.qual = .inv ∧ rawFeedback s.clu.fb = after
    let lost := fedBack false true inverting
    let carried := fedBack false false (covered inverting)
    let alone_ := fedBack false false (alone inverting)
    let noBypass := fun s : State => { s with clu := { s.clu with bypOk := LineIn.low } }
    let planned := fedBack false false (covered (proposing .ordering [1] [] none inverting))
    let run := fedBack false true (armed 8000#32 .toBypass (testing (.running 1)))
    (Inv lost ∧ falling .byp lost ∧ lost.lva = none ∧ lost.clu.bypOk.qual = true ∧ lost.vsm.dues = [])
      ∧ (Inv (noBypass lost) ∧ falling .byp (noBypass lost) ∧ (noBypass lost).lva = none
        ∧ (noBypass lost).clu.bypOk.qual = false)
      ∧ (Inv carried ∧ falling .off carried ∧ carried.lva = none ∧ floorLoad carried ≤ carriedByOthers carried)
      ∧ (Inv alone_ ∧ falling .off alone_ ∧ alone_.lva = none ∧ carriedByOthers alone_ < floorLoad alone_
        ∧ alone_.clu.bypOk.qual = true)
      ∧ (Inv (noBypass alone_) ∧ falling .off (noBypass alone_) ∧ (noBypass alone_).lva = none
        ∧ carriedByOthers (noBypass alone_) < floorLoad (noBypass alone_) ∧ (noBypass alone_).clu.bypOk.qual = false)
      ∧ (Inv planned ∧ falling .off planned ∧ planned.lva = none ∧ floorLoad planned ≤ carriedByOthers planned
        ∧ ∃ id dir, planned.trc.activity = .proposed id dir)
      ∧ (Inv run ∧ falling .byp run ∧ run.tsq.state.inProgress = true ∧ run.clu.bypOk.qual = true) :=
  ⟨⟨inv_of_invHolds (by decide +kernel), by decide +kernel⟩,
    ⟨inv_of_invHolds (by decide +kernel), by decide +kernel⟩,
    ⟨inv_of_invHolds (by decide +kernel), by decide +kernel⟩,
    ⟨inv_of_invHolds (by decide +kernel), by decide +kernel⟩,
    ⟨inv_of_invHolds (by decide +kernel), by decide +kernel⟩,
    ⟨inv_of_invHolds (by decide +kernel), by decide +kernel, by decide +kernel, by decide +kernel, _, _, rfl⟩,
    inv_of_invHolds (by decide +kernel), by decide +kernel⟩

/-! ## Measurements, minutes and the terms of claims, runs and visits -/

/-- The frame of sequence 6 with a voltage of 40000 mV, an output of 50 and probe 1 at 25.0 °C. -/
def senseBytes (current : BitVec 16) (flags : Byte) : List Byte :=
  let body := [6#8, 0x9C#8, 0x40#8] ++ be16 current ++ [0#8, 50#8, 0#8, 250#8, 0#8, 0#8, 0#8, 0#8, 0#8, 0#8, flags]
  0xC3#8 :: body ++ [crc8 body]

def taken (i : Int) (mainsOk : Bool) : SenseFrame :=
  ⟨6#8, 40000, i, 50, some 250, none, none, none, mainsOk, true⟩

theorem test_meets_SenseFrameIsCounted :
    let tiny := { inverting with hpi := { inverting.hpi with
      cab := { inverting.hpi.cab with cRated := some 1 } } }
    let drained := { tiny with bau := { tiny.bau with carry := { tiny.bau.carry with d := 1430 } } }
    (parseSenseFrame (senseBytes 10#16 0x31#8) = .valid (taken 10 true)
        ∧ parseSenseFrame (senseBytes (-10#16) 0x31#8) = .valid (taken (-10) true))
      ∧ (Inv State.reset ∧ State.reset.hpi.running = false ∧ State.reset.tsq.state.inProgress = false)
      ∧ (Inv inverting ∧ ClaimKept inverting ∧ inverting.hpi.running = true)
      ∧ (Inv drained ∧ ClaimKept drained ∧ drained.hpi.running = true ∧ drained.tsq.state.inProgress = false
        ∧ 0 < drained.hpi.cab.cRated.getD 0 * 1440
        ∧ drained.hpi.cab.cRated.getD 0 * 1440 ≤ drained.bau.carry.d + 1 * 10)
      ∧ (let s := granted serviceClaim inverting
         let heard := { s with sns := ⟨.live, some (taken 10 true), some 6#8, some 0⟩ }
         Inv s ∧ s.hpi.running = true ∧ s.tsq.state.inProgress = false ∧ ClaimKept heard
          ∧ serviceClaim.fixed = false) :=
  ⟨by decide +kernel, ⟨inv_of_invHolds (by decide +kernel), by decide +kernel⟩,
    ⟨inv_of_invHolds (by decide +kernel), by decide +kernel⟩,
    ⟨inv_of_invHolds (by decide +kernel), by decide +kernel⟩,
    inv_of_invHolds (by decide +kernel), by decide +kernel⟩

theorem test_meets_RunningTestTakesFrame :
    let heard := fun (f : SenseFrame) (s : State) => { s with sns := ⟨.live, some f, some f.seq, some 0⟩ }
    let ready := fun s : State => OnLine s ∧ s.sns.state = .live ∧ s.lva = some testClaim ∧ s.link.coord.length < 8
      ∧ 0 < dischargeStep s ∧ frameMultiplier 6#8 s = 1 ∧ s.tsq.run.floorCount = 0
    let repeated := { testing (.running 2) with sns := { (testing (.running 2)).sns with lastSeq := some 6#8 } }
    (Inv (testing (.running 2)) ∧ ready (testing (.running 2))
        ∧ (testing (.running 2)).tsq.profile[2 - 1]? = some ⟨.discharge, 300, 0, true⟩
        ∧ TestClaimHeld testClaim (heard (taken (-10) true) (testing (.running 2))))
      ∧ (Inv (testing (.paused 1)) ∧ ready (testing (.paused 1))
        ∧ TestClaimHeld testClaim (heard (taken (-10) true) (testing (.paused 1))))
      ∧ (Inv repeated ∧ OnLine repeated ∧ frameMultiplier 6#8 repeated = 0
        ∧ TestClaimHeld testClaim (heard (taken 10 true) repeated))
      ∧ parseSenseFrame (senseBytes (-10#16) 0x31#8) = .valid (taken (-10) true)
      ∧ parseSenseFrame (senseBytes 10#16 0x31#8) = .valid (taken 10 true)
      ∧ parseSenseFrame (senseBytes 10#16 0x21#8) = .valid (taken 10 false) :=
  ⟨⟨inv_of_invHolds (by decide +kernel), by decide +kernel⟩,
    ⟨inv_of_invHolds (by decide +kernel), by decide +kernel⟩,
    ⟨inv_of_invHolds (by decide +kernel), by decide +kernel⟩, by decide +kernel⟩

theorem test_meets_RunningTestTakesFrame_floor :
    let s := { testing (.running 2) with tsq := { (testing (.running 2)).tsq with
      profile := [⟨.rest, 60, 0, true⟩, ⟨.discharge, 300, 40000, true⟩]
      run := { (testing (.running 2)).tsq.run with floorCount := 1 } } }
    Inv s ∧ OnLine s ∧ parseSenseFrame (senseBytes 10#16 0x31#8) = .valid (taken 10 true)
      ∧ s.tsq.profile[2 - 1]? = some ⟨.discharge, 300, 40000, true⟩ ∧ (taken 10 true).v ≤ 40000
      ∧ s.tsq.run.floorCount = 1 ∧ s.sns.state = .live ∧ s.sns.lastSeq = some ((taken 10 true).seq - 1#8)
      ∧ s.lva = some testClaim ∧ testClaim.granted = true ∧ s.link.coord.length < 8 ∧ 0 ≤ (taken 10 true).i :=
  ⟨inv_of_invHolds (by decide +kernel), by decide +kernel⟩

theorem test_meets_SilenceTakesSenseToLost :
    let silent := fun (state : SenseState) (n : Nat) =>
      { inverting with sns := { inverting.sns with state := state, silence := some n } }
    (Inv (silent .live 10000) ∧ ClaimKept (silent .live 10000)
        ∧ (silent .live 10000).tsq.state.inProgress = false ∧ 10000 ≤ 10000)
      ∧ (Inv (silent .live 9999) ∧ (silent .live 9999).sns.silence = some 9999)
      ∧ (Inv (silent .stale 100000) ∧ ClaimKept (silent .stale 100000))
      ∧ (Inv (silent .stale 99999) ∧ (silent .stale 99999).sns.silence = some 99999)
      ∧ (let s := { testing (.running 1) with sns := (silent .live 10000).sns }
         Inv s ∧ OnLine s ∧ RunHoldsClaim s ∧ s.tsq.state.inProgress = true ∧ s.link.coord.length < 8) :=
  ⟨⟨inv_of_invHolds (by decide +kernel), by decide +kernel⟩,
    ⟨inv_of_invHolds (by decide +kernel), by decide +kernel⟩,
    ⟨inv_of_invHolds (by decide +kernel), by decide +kernel⟩,
    ⟨inv_of_invHolds (by decide +kernel), by decide +kernel⟩,
    inv_of_invHolds (by decide +kernel), by decide +kernel⟩

theorem test_meets_OperatingMinuteAges :
    let full := { inverting with bau := { inverting.bau with divider := 600000000 } }
    (Inv inverting ∧ inverting.bau.divider < 600000000)
      ∧ (Inv full ∧ full.hpi.running = true ∧ 600000000 ≤ full.bau.divider ∧ ClaimKept full)
      ∧ (let s := { granted testClaim inverting with bau := full.bau }
         Inv s ∧ s.hpi.running = true ∧ ClaimKept s ∧ testClaim.fixed = false)
      ∧ (let s := { unbacked inverting with bau := full.bau }
         Inv s ∧ OnLine s ∧ s.link.coord.length < 8 ∧ TestClaimFails testClaim .margin s) :=
  ⟨⟨inv_of_invHolds (by decide +kernel), by decide +kernel⟩,
    ⟨inv_of_invHolds (by decide +kernel), by decide +kernel⟩,
    ⟨inv_of_invHolds (by decide +kernel), by decide +kernel⟩,
    inv_of_invHolds (by decide +kernel), by decide +kernel⟩

theorem test_meets_ClaimTermsDecide :
    let claiming := fun (c : Claim) (s : State) =>
      { s with lva := some c, tsq := { s.tsq with state := .claiming } }
    let waits := { testClaim with granted := false, queueTimer := some 0 }
    let judged := { testClaim with granted := false, inWindow := true, windowTimer := some 0 }
    let service := { serviceClaim with queueTimer := some 0 }
    let requested := { withVisit (visitIn .isolation .requested) inverting with lva := some service }
    (Inv (claiming waits inverting) ∧ OnLine (claiming waits inverting) ∧ waits.inWindow = false
        ∧ (claiming waits inverting).link.coord.length < 8)
      ∧ (Inv requested ∧ OnLine requested ∧ service.inWindow = false ∧ service.queueTimer = some 0)
      ∧ (Inv (claiming judged inverting) ∧ OnLine (claiming judged inverting)
        ∧ leaveCheck (claiming judged inverting) 0 .test 4000#32 = some .margin)
      ∧ (Inv (claiming judged (covered inverting)) ∧ OnLine (claiming judged (covered inverting))
        ∧ (claiming judged (covered inverting)).tsq.profile[0]? = some ⟨.rest, 60, 0, true⟩
        ∧ leaveCheck (claiming judged (covered inverting)) 0 .test 4000#32 = none)
      ∧ (let s := { requested with lva := some { serviceClaim with inWindow := true, windowTimer := some 0 } }
         Inv s ∧ OnLine s ∧ s.vsm.visit = some (visitIn .isolation .requested) ∧ s.link.coord.length < 8
          ∧ leaveCheck s s.link.station .service 4000#32 = some .margin) :=
  ⟨⟨inv_of_invHolds (by decide +kernel), by decide +kernel⟩,
    ⟨inv_of_invHolds (by decide +kernel), by decide +kernel⟩,
    ⟨inv_of_invHolds (by decide +kernel), by decide +kernel⟩,
    ⟨inv_of_invHolds (by decide +kernel), by decide +kernel⟩,
    inv_of_invHolds (by decide +kernel), by decide +kernel⟩

theorem test_meets_TestStepTimerMovesRun :
    let stepping := fun (single : Bool) (s : State) =>
      { s with tsq := { s.tsq with run := { s.tsq.run with single := single } } }
    let ready := fun s : State => OnLine s ∧ TestClaimHeld testClaim s ∧ s.link.coord.length < 8
    let timed := fun (n : Option Ticks) (s : State) =>
      { s with tsq := { s.tsq with run := { s.tsq.run with stepTimer := n, pauseTimer := n } } }
    (Inv (testing (.running 1)) ∧ ready (testing (.running 1)) ∧ (testing (.running 1)).tsq.run.stepTimer = some 0
        ∧ (testing (.running 1)).tsq.profile[1]? = some ⟨.discharge, 300, 0, true⟩
        ∧ (testing (.running 1)).tsq.run.single = false)
      ∧ (Inv (stepping true (testing (.running 1))) ∧ ready (stepping true (testing (.running 1)))
        ∧ 1 < (testing (.running 1)).tsq.profile.length)
      ∧ (Inv (testing (.running 2)) ∧ ready (testing (.running 2))
        ∧ (testing (.running 2)).tsq.profile.length ≤ 2)
      ∧ (Inv (testing (.paused 1)) ∧ ready (testing (.paused 1))
        ∧ (testing (.paused 1)).tsq.run.pauseTimer = some 0)
      ∧ (timed (some 1) (testing (.running 1))).tsq.run.stepTimer ≠ some 0
      ∧ (timed (some 1) (testing (.paused 1))).tsq.run.pauseTimer ≠ some 0 :=
  ⟨⟨inv_of_invHolds (by decide +kernel), by decide +kernel⟩,
    ⟨inv_of_invHolds (by decide +kernel), by decide +kernel⟩,
    ⟨inv_of_invHolds (by decide +kernel), by decide +kernel⟩,
    ⟨inv_of_invHolds (by decide +kernel), by decide +kernel⟩, by decide +kernel, by decide +kernel⟩

/-- Two pairs: the first with both captures is that of steps 3 and 4; ΔV of 100 and ΔI of 50 give 20,000. -/
theorem test_meets_TestStepTimerMovesRun_resistance :
    let profile := (⟨.rest, 60, 0, true⟩ : TestStep) :: ⟨.discharge, 60, 0, true⟩ :: ⟨.rest, 60, 0, true⟩
      :: [⟨.discharge, 60, 0, true⟩]
    let kinds := fun n : Nat => (profile[n - 1]?.map (·.kind), profile[n]?.map (·.kind))
    let captures := fun (v : Nat) (i : Int) => ([⟨1, 5000, 0⟩, ⟨3, 5000, 10⟩, ⟨4, v, i⟩] : List Capture)
    (kinds 1 = (some .rest, some .discharge) ∧ (captures 0 0).find? (fun c => decide (c.step = 2)) = none)
      ∧ (kinds 3 = (some .rest, some .discharge)
        ∧ (captures 4900 (-40)).find? (fun c => decide (c.step = 4)) = some ⟨4, 4900, -40⟩)
      ∧ testResistance profile (captures 4900 (-40)) = some 20000
      ∧ testResistance profile (captures 4900 10) = none ∧ testResistance profile (captures 5001 (-40)) = none
      ∧ testResistance profile [⟨1, 5000, 0⟩, ⟨4, 4900, -40⟩] = none := by
  decide +kernel

theorem test_meets_VisitTimersMoveVisit :
    let timed := fun (state : VisitState) (s : State) =>
      withVisit { visitIn .isolation state with stepTimer := some 0, retryTimer := some 0 } s
    let ready := fun s : State => OnLine s ∧ s.lva = none ∧ s.link.coord.length < 8
    let refused := timed .restoring { standing with clu := { standing.clu with invFault := high } }
    (Inv (withVisit (visitIn .isolation .isolated) standing)
        ∧ (visitIn .isolation .isolated).stepTimer ≠ some 0 ∧ (visitIn .isolation .isolated).retryTimer ≠ some 0)
      ∧ (let s := timed .isolating { standing with clu := { standing.clu with maint := high } }
         Inv s ∧ ready s ∧ firstFailing ((joinChecks s).drop 1) = some .maintClosed)
      ∧ (Inv (timed .restoring standing) ∧ ready (timed .restoring standing)
        ∧ (standing.clu.input.qual && standing.clu.battery.qual && standing.clu.output.qual) = true
        ∧ firstFailing ((joinChecks (timed .restoring standing)).drop 1) = none
        ∧ (timed .restoring standing).trc.lastKnown = some .inv
        ∧ (timed .restoring standing).clu.fb.qual ≠ Sys2Proof.Mode.inv.feedback)
      ∧ (Inv refused ∧ ready refused ∧ firstFailing ((joinChecks refused).drop 1) = some .notReady) :=
  ⟨⟨inv_of_invHolds (by decide +kernel), by decide +kernel⟩,
    ⟨inv_of_invHolds (by decide +kernel), by decide +kernel⟩,
    ⟨inv_of_invHolds (by decide +kernel), by decide +kernel⟩,
    inv_of_invHolds (by decide +kernel), by decide +kernel⟩

/-! ## Full queues and the own claim -/

/-- Eight messages wait in the COORD queue. -/
def crowded (s : State) : State :=
  { s with link := { s.link with coord := List.replicate 8 (queued (.release .service 9#32)) } }

theorem test_meets_FullQueueIsNotSent :
    let m := Msg.propose 7#8 .toBypass 4980#32 8000#32
    let noBypass := { inverting with clu := { inverting.clu with bypOk := LineIn.low } }
    let hears := fun s : State => OnLine s ∧ Hears 1 m (encodeFloorFrame 1 m) s ∧ ClaimKept s
      ∧ s.link.coord.length = 8 ∧ isolatedFlag s = false ∧ inSource .toBypass s = true ∧ s.trc.activity = .none
    let urgent := { inverting with link := { inverting.link with
      urgent := List.replicate 2 (queued (.force 1#8)) } }
    (Inv (crowded noBypass) ∧ hears (crowded noBypass)
        ∧ firstFailing (readinessChecks .toBypass (crowded noBypass)) ≠ none)
      ∧ (Inv (crowded inverting) ∧ hears (crowded inverting)
        ∧ firstFailing (readinessChecks .toBypass (crowded inverting)) = none)
      ∧ (firstFailing (transferChecks .toBypass (crowded inverting)) = none
        ∧ (crowded inverting).ftu.align = .aligned
        ∧ ∀ e ∈ (crowded inverting).link.coord, ofProposal ⟨0, (crowded inverting).trc.proposalSeq + 1#8⟩ e = false)
      ∧ ((crowded inverting).tsq.state = .idle ∧ (crowded inverting).lva = none
        ∧ (crowded inverting).vsm.visit = none ∧ firstFailing (claimChecks (crowded inverting)) = none
        ∧ ∀ e ∈ (crowded inverting).link.coord, e.msg ≠ .claim .test (crowded inverting).ftu.floorTime)
      ∧ (Inv urgent ∧ OnLine urgent ∧ urgent.link.urgent.length = 2 ∧ isolatedFlag urgent = false
        ∧ urgent.lva = none ∧ urgent.tsq.state.inProgress = false ∧ urgent.trc.activity = .none
        ∧ urgent.trc.ownMode = .inv ∧ urgent.clu.bypOk.qual = true ∧ urgent.clu.fb.qual ≠ .byp) :=
  ⟨⟨inv_of_invHolds (by decide +kernel), by decide +kernel⟩,
    ⟨inv_of_invHolds (by decide +kernel), by decide +kernel⟩, by decide +kernel, by decide +kernel,
    inv_of_invHolds (by decide +kernel), by decide +kernel⟩

theorem test_meets_OwnClaimIsLostYieldedOrGranted_lost :
    let leaving := fun s : State => peer1 (fun e => { e with presTimer := some 0 }) s
    let after := fun s : State => { s with peers := s.peers.map fun x => if x.station = 1 then
      { x with
        presence := .stale, presTimer := none, staleTimer := some 50000, claim := none, claimTimer := none
        markers := { x.markers with presence := true, claim := x.markers.claim || decide (x.claim ≠ none) } } else x }
    let ready := fun (time : FloorTime) (s : State) => OnLine s ∧ s.link.coord.length < 8 ∧ s.trc.proposal = none
      ∧ (∃ e ∈ s.peers, e.station = 1 ∧ e.presTimer = some 0 ∧ e.presence = .present)
      ∧ keepCheck (after s) s.link.station time = some .margin
    let claim := { serviceClaim with granted := true }
    let visiting := fun state : VisitState => { leaving (withVisit (visitIn .isolation state) inverting) with
      lva := some claim }
    (Inv (leaving (testing (.running 1))) ∧ ready 4000#32 (leaving (testing (.running 1)))
        ∧ (leaving (testing (.running 1))).lva = some testClaim ∧ testClaim.fixed = false
        ∧ (leaving (testing (.running 1))).tsq.state.underway = true)
      ∧ (Inv (visiting .isolating) ∧ ready 4000#32 (visiting .isolating) ∧ claim.fixed = false
        ∧ firstFailing ((joinChecks (visiting .isolating)).drop 1) = some .wrongMode)
      ∧ (Inv (visiting .isolated) ∧ ready 4000#32 (visiting .isolated)) :=
  ⟨⟨inv_of_invHolds (by decide +kernel), by decide +kernel⟩,
    ⟨inv_of_invHolds (by decide +kernel), by decide +kernel⟩,
    inv_of_invHolds (by decide +kernel), by decide +kernel⟩

theorem test_meets_OwnClaimIsLostYieldedOrGranted_kept :
    let s := { covered inverting with
      lva := some testClaim
      peers := (covered inverting).peers.map fun e => if e.station = 4 then
        { e with presence := .present, presTimer := some 0 } else e }
    let gone := { s with peers := s.peers.map fun x => if x.station = 4 then
      { x with
        presence := .stale, presTimer := none, staleTimer := some 50000, claim := none, claimTimer := none
        markers := { x.markers with presence := true, claim := x.markers.claim || decide (x.claim ≠ none) } } else x }
    let onBattery := { s with sns := { s.sns with last := some (frameAt false true) } }
    Inv s ∧ OnLine s ∧ s.link.coord.length < 8 ∧ s.trc.proposal = none
      ∧ (∃ e ∈ s.peers, e.station = 4 ∧ e.presTimer = some 0 ∧ e.presence = .present)
      ∧ keepCheck gone s.link.station testClaim.time = none
      ∧ keepCheck onBattery s.link.station testClaim.time = some .onBattery
      ∧ keepCheck inverting s.link.station testClaim.time = some .margin :=
  ⟨inv_of_invHolds (by decide +kernel), by decide +kernel⟩

theorem test_meets_OwnClaimIsLostYieldedOrGranted_decided :
    let m := Msg.claim .test 3990#32
    let claim := { testClaim with granted := false }
    let claiming := fun s : State => { s with lva := some claim, tsq := { s.tsq with state := .claiming } }
    let hears := fun s : State => OnLine s ∧ Hears 1 m (encodeFloorFrame 1 m) s ∧ s.link.coord.length < 8
      ∧ s.tsq.state = .claiming ∧ (3990#32 - claim.time).toInt < 0
      ∧ ∃ e ∈ s.peers, e.station = 1 ∧ e.presence = .present
    let service := { serviceClaim with inWindow := true, windowTimer := some 0 }
    let visit := { visitIn .isolation .requested with claimed := true }
    let asking := { withVisit visit (covered inverting) with lva := some service }
    let local_ := fun s : State => OnLine s ∧ s.ftu.align = .alone ∧ s.tsq.state = .idle ∧ s.lva = none
      ∧ s.vsm.visit = none ∧ firstFailing (claimChecks s) = none ∧ s.tsq.profile[0]? = some ⟨.rest, 60, 0, true⟩
    let unheard := { covered inverting with ftu := { inverting.ftu with align := .alone } }
    (Inv (claiming inverting) ∧ hears (claiming inverting)
        ∧ leaveCheck { claiming inverting with lva := none } 1 .test 3990#32 = some .margin)
      ∧ (Inv (claiming (covered inverting)) ∧ hears (claiming (covered inverting))
        ∧ leaveCheck { claiming (covered inverting) with lva := none } 1 .test 3990#32 = none)
      ∧ (Inv asking ∧ OnLine asking ∧ visit.claimed = true ∧ asking.trc.ownMode = .inv
        ∧ asking.trc.activity = .none ∧ asking.clu.fb.qual ≠ .off
        ∧ leaveCheck asking asking.link.station .service service.time = none)
      ∧ (Inv (alone inverting) ∧ local_ (alone inverting)
        ∧ leaveCheck (alone inverting) 0 .test (alone inverting).ftu.floorTime = some .margin)
      ∧ (Inv unheard ∧ local_ unheard ∧ leaveCheck unheard 0 .test unheard.ftu.floorTime = none) :=
  ⟨⟨inv_of_invHolds (by decide +kernel), by decide +kernel⟩,
    ⟨inv_of_invHolds (by decide +kernel), by decide +kernel⟩,
    ⟨inv_of_invHolds (by decide +kernel), by decide +kernel⟩,
    ⟨inv_of_invHolds (by decide +kernel), by decide +kernel⟩,
    inv_of_invHolds (by decide +kernel), by decide +kernel⟩

theorem test_meets_OwnClaimIsLostYieldedOrGranted_planned :
    let granted := { serviceClaim with granted := true, queueTimer := none }
    let visit := { visitIn .isolation .requested with claimed := true }
    let entering := fun s : State => { withVisit visit s with lva := some granted }
    let ready := fun s : State => OnLine s ∧ s.vsm.visit = some visit ∧ isolatedFlag s = false
      ∧ s.lva = some granted ∧ s.clu.fb.qual ≠ .off ∧ s.link.coord.length < 8
    let proposed := entering (proposing .ordering [1] [] none inverting)
    let followed := entering (following inverting)
    (Inv proposed ∧ ready proposed ∧ ∃ id dir, proposed.trc.activity = .proposed id dir)
      ∧ (Inv followed ∧ ready followed ∧ ∃ id dir, followed.trc.activity = .following id dir) :=
  ⟨⟨inv_of_invHolds (by decide +kernel), by decide +kernel, _, _, rfl⟩,
    inv_of_invHolds (by decide +kernel), by decide +kernel, _, _, rfl⟩

end Sys2Proof.Machine
end

section
/-! What raising events changes: `told l s` is the state after the events of `l`, in closed form. -/

namespace Sys2Proof.Machine

/-- The part after the listed events, in their order: those that fit stand behind the queue, a drop sets events-lost,
and an ALARM among them sounds the horn for the full term (R51, R176). -/
def told (l : List EventSpec) (s : State) : State :=
  let heard := l.any fun e => decide ((e.record s).cls = .alarm)
  let term := if s.hpi.cab.hornTerm = 0 then none else some (ticksOfSeconds s.hpi.cab.hornTerm)
  { s with
    clu := { s.clu with horn := s.clu.horn || heard, hornTimer := if heard then term else s.clu.hornTimer }
    hpi := { s.hpi with
      events := (s.hpi.events ++ l.map (EventSpec.record s)).take 32
      eventsLost := s.hpi.eventsLost || decide (32 < s.hpi.events.length + l.length) } }

/-- The event that `raise` forms: INTERLOCK with condition OUTPUT_OPEN_UNVISITED is a NOTICE (R164). -/
def specOf (k : EventKind) (detail : List Byte) : EventSpec :=
  ⟨k, if k = .interlock ∧ detail.head? = some 5#8 then .notice else k.naturalClass, detail⟩

variable (l : List EventSpec) (s : State)

@[simp] theorem told_link : (told l s).link = s.link := rfl
@[simp] theorem told_peers : (told l s).peers = s.peers := rfl
@[simp] theorem told_pvu : (told l s).pvu = s.pvu := rfl
@[simp] theorem told_ftu : (told l s).ftu = s.ftu := rfl
@[simp] theorem told_sns : (told l s).sns = s.sns := rfl
@[simp] theorem told_bau : (told l s).bau = s.bau := rfl
@[simp] theorem told_trc : (told l s).trc = s.trc := rfl
@[simp] theorem told_lva : (told l s).lva = s.lva := rfl
@[simp] theorem told_tsq : (told l s).tsq = s.tsq := rfl
@[simp] theorem told_vsm : (told l s).vsm = s.vsm := rfl
@[simp] theorem told_pending : (told l s).pending = s.pending := rfl

variable {l s}

/-- The class of an event's record depends on the elevated kind alone, its stamps on the clocks. -/
theorem record_congr {t : State} (e : EventSpec) (h : t.hpi.floor = s.hpi.floor) (m : t.bau.minutes = s.bau.minutes)
    (f : t.ftu.floorTime = s.ftu.floorTime) : e.record t = e.record s := by
  simp only [EventSpec.record, h, m, f]

/-- An event enters the queue of 32, or is dropped with events-lost set. -/
theorem queueEvent_eq (r : EventRec) (t : State) (room : t.hpi.events.length ≤ 32) :
    queueEvent r t = t.modHpi fun h =>
      { h with
        events := (h.events ++ [r]).take 32, eventsLost := h.eventsLost || decide (32 < h.events.length + 1) } := by
  unfold queueEvent eventDepth
  split
  · have fits : decide (32 < t.hpi.events.length + 1) = false := by simp; omega
    simp only [State.modHpi, fits, Bool.or_false]
    rw [List.take_of_length_le (by simp; omega)]
  · have full : t.hpi.events.length = 32 := by omega
    have drops : decide (32 < t.hpi.events.length + 1) = true := by simp; omega
    simp only [State.modHpi, drops, Bool.or_true]
    rw [List.take_append_of_le_length (by omega), List.take_of_length_le (by omega)]

theorem raise_eq_told (k : EventKind) (d : List Byte) (room : s.hpi.events.length ≤ 32) :
    raise k d s = told [specOf k d] s := by
  have cls : classOf s k d = ((specOf k d).record s).cls := by
    simp only [EventSpec.record, specOf, classOf]
    congr
  have horn : (if ((specOf k d).record s).cls = .alarm then soundHorn s else s)
      = { s with clu := (told [specOf k d] s).clu } := by
    split <;> rename_i h <;> simp [told, h, soundHorn, State.modClu]
  show queueEvent ⟨k, classOf s k d, s.bau.minutes, s.ftu.floorTime, d.take 8⟩
    (if classOf s k d = .alarm then soundHorn s else s) = _
  rw [cls, horn]
  exact queueEvent_eq _ _ room

theorem told_told (l l' : List EventSpec) (s : State) : told l' (told l s) = told (l ++ l') s := by
  have same : ∀ e : EventSpec, e.record (told l s) = e.record s := fun e => record_congr e rfl rfl rfl
  have queue : ((s.hpi.events ++ l.map (EventSpec.record s)).take 32 ++ l'.map (EventSpec.record s)).take 32
      = (s.hpi.events ++ (l ++ l').map (EventSpec.record s)).take 32 := by
    rw [List.map_append, ← List.append_assoc, List.take_append, List.take_take, min_self,
      List.take_append (l₁ := s.hpi.events ++ l.map _)]
    congr 2
    simp only [List.length_take, List.length_append, List.length_map]
    omega
  have lost : (s.hpi.eventsLost || decide (32 < s.hpi.events.length + l.length)
      || decide (32 < (told l s).hpi.events.length + l'.length))
      = (s.hpi.eventsLost || decide (32 < s.hpi.events.length + (l ++ l').length)) := by
    simp only [told, List.length_take, List.length_append, List.length_map, Bool.or_assoc, ← Bool.decide_or]
    congr 2
    exact propext (by omega)
  have hpi : (told l' (told l s)).hpi = (told (l ++ l') s).hpi := by
    rw [told, funext same]
    exact congrArg₂ (fun q b => { s.hpi with events := q, eventsLost := b }) queue lost
  have clu : (told l' (told l s)).clu = (told (l ++ l') s).clu := by
    rw [told, funext same]
    unfold told
    simp only [List.any_append]
    cases (l.any _) <;> cases (l'.any _) <;> simp
  exact congrArg₂ (fun c h => { s with clu := c, hpi := h }) clu hpi

/-! ## What one event leaves -/

/-- An event changes the horn and the event queue alone. -/
theorem raise_frame (k : EventKind) (d : List Byte) (s : State) :
    raise k d s = { s with clu := (raise k d s).clu, hpi := (raise k d s).hpi } := by
  unfold raise queueEvent soundHorn
  dsimp only
  repeat' split
  all_goals rfl

@[simp] theorem raise_link (k : EventKind) (d : List Byte) (s : State) : (raise k d s).link = s.link := by
  rw [raise_frame]
@[simp] theorem raise_peers (k : EventKind) (d : List Byte) (s : State) : (raise k d s).peers = s.peers := by
  rw [raise_frame]
@[simp] theorem raise_pvu (k : EventKind) (d : List Byte) (s : State) : (raise k d s).pvu = s.pvu := by
  rw [raise_frame]
@[simp] theorem raise_ftu (k : EventKind) (d : List Byte) (s : State) : (raise k d s).ftu = s.ftu := by
  rw [raise_frame]
@[simp] theorem raise_sns (k : EventKind) (d : List Byte) (s : State) : (raise k d s).sns = s.sns := by
  rw [raise_frame]
@[simp] theorem raise_bau (k : EventKind) (d : List Byte) (s : State) : (raise k d s).bau = s.bau := by
  rw [raise_frame]
@[simp] theorem raise_trc (k : EventKind) (d : List Byte) (s : State) : (raise k d s).trc = s.trc := by
  rw [raise_frame]
@[simp] theorem raise_vsm (k : EventKind) (d : List Byte) (s : State) : (raise k d s).vsm = s.vsm := by
  rw [raise_frame]
@[simp] theorem raise_pending (k : EventKind) (d : List Byte) (s : State) : (raise k d s).pending = s.pending := by
  rw [raise_frame]

end Sys2Proof.Machine
end

section
/-! What the shared operations keep beside `Quiet`: the congestion-reported flag stands only on a full COORD queue
(R13), and the life used fits its 32 bits (R67). One lemma per operation, in the form that chains. -/

namespace Sys2Proof.Machine

/-- The clauses of `Inv` that `Quiet` does not carry: the COORD queue within its depth, the congestion-reported flag
on a full queue alone (R13), and the life used within 32 bits (R67). -/
def Bounded (s : State) : Prop :=
  s.link.coord.length ≤ coordDepth ∧ (s.link.congestionReported = true → s.link.coord.length = coordDepth)
    ∧ s.bau.carry.u ≤ max32

variable {s : State}

/-! ## One block changed -/

@[simp] theorem bounded_modPeers (f : List Peer → List Peer) : Bounded (s.modPeers f) ↔ Bounded s := Iff.rfl
@[simp] theorem bounded_modPvu (f : Pvu → Pvu) : Bounded (s.modPvu f) ↔ Bounded s := Iff.rfl
@[simp] theorem bounded_modFtu (f : Ftu → Ftu) : Bounded (s.modFtu f) ↔ Bounded s := Iff.rfl
@[simp] theorem bounded_modClu (f : Clu → Clu) : Bounded (s.modClu f) ↔ Bounded s := Iff.rfl
@[simp] theorem bounded_modSns (f : Sns → Sns) : Bounded (s.modSns f) ↔ Bounded s := Iff.rfl
@[simp] theorem bounded_modTrc (f : Trc → Trc) : Bounded (s.modTrc f) ↔ Bounded s := Iff.rfl
@[simp] theorem bounded_setLva (c : Option Claim) : Bounded (s.setLva c) ↔ Bounded s := Iff.rfl
@[simp] theorem bounded_modTsq (f : Tsq → Tsq) : Bounded (s.modTsq f) ↔ Bounded s := Iff.rfl
@[simp] theorem bounded_modVsm (f : Vsm → Vsm) : Bounded (s.modVsm f) ↔ Bounded s := Iff.rfl
@[simp] theorem bounded_modHpi (f : Hpi → Hpi) : Bounded (s.modHpi f) ↔ Bounded s := Iff.rfl

@[simp] theorem bounded_ite (c : Prop) [Decidable c] (a b : State) :
    Bounded (if c then a else b) ↔ (c → Bounded a) ∧ (¬ c → Bounded b) := by
  by_cases h : c <;> simp [h]

theorem bounded_modLink (f : Link → Link) (hc : (f s.link).coord = s.link.coord)
    (hr : (f s.link).congestionReported = s.link.congestionReported) (h : Bounded s) : Bounded (s.modLink f) := by
  simpa only [Bounded, State.modLink_link, State.modLink_bau, hc, hr] using h

theorem bounded_modBau (f : Bau → Bau) (hu : (f s.bau).carry.u ≤ max32) (h : Bounded s) : Bounded (s.modBau f) :=
  ⟨h.1, h.2.1, hu⟩

/-- A change of the account that leaves the life used. -/
theorem bounded_modBau_rest (f : Bau → Bau) (hu : (f s.bau).carry.u = s.bau.carry.u) (h : Bounded s) :
    Bounded (s.modBau f) := bounded_modBau f (hu.trans_le h.2.2) h

/-! ## Events and transmit queues -/

@[simp] theorem bounded_soundHorn : Bounded (soundHorn s) ↔ Bounded s := Iff.rfl

@[simp] theorem bounded_queueEvent (e : EventRec) : Bounded (queueEvent e s) ↔ Bounded s := by
  unfold queueEvent; split <;> simp

@[simp] theorem bounded_raise (k : EventKind) (d : List Byte) : Bounded (raise k d s) ↔ Bounded s := by
  unfold raise; dsimp only; split <;> simp

@[simp] theorem bounded_queueCoord (m : Msg) (h : Bounded s) : Bounded (queueCoord m s).1 := by
  obtain ⟨depth, full, life⟩ := h
  unfold queueCoord
  split
  · exact ⟨depth, full, life⟩
  · split
    · rename_i room
      refine ⟨by simpa [Nat.succ_le_iff] using room, fun c => ?_, life⟩
      exact absurd (full c) room.ne
    · rename_i crowded
      have at_depth : s.link.coord.length = coordDepth := le_antisymm depth (not_lt.mp crowded)
      unfold congest
      split
      · exact ⟨depth, full, life⟩
      · refine ⟨?_, fun _ => ?_, ?_⟩ <;> simp [at_depth, life]

@[simp] theorem bounded_postCoord (m : Msg) (h : Bounded s) : Bounded (postCoord m s) := bounded_queueCoord m h

@[simp] theorem bounded_postForce (c : ForceCause) (h : Bounded s) : Bounded (postForce c s) := by
  unfold postForce
  split
  · exact h
  · split
    · exact bounded_modLink _ rfl rfl h
    · exact h

/-- Once the flag is settled on what is left of a queue, it stands on a full queue alone (R13). -/
theorem bounded_settleCongestion (f : Link → Link) (hc : (f s.link).coord.length ≤ s.link.coord.length)
    (h : Bounded s) : Bounded (s.modLink fun l => settleCongestion (f l)) := by
  have depth := hc.trans h.1
  refine ⟨?_, fun c => ?_, h.2.2⟩
  · simpa [settleCongestion_coord] using depth
  · simp only [State.modLink_link, settleCongestion] at c ⊢
    split at c
    · exact absurd c (by simp)
    · rw [if_neg ‹_›]
      exact le_antisymm depth (not_lt.mp ‹_›)

@[simp] theorem bounded_withdraw (which : Msg → Bool) (b : Byte) (h : Bounded s) : Bounded (withdraw which b s) := by
  refine bounded_settleCongestion _ ?_ h
  simpa [withdraw, settleCongestion_coord] using withdraw_coord_length which b s

@[simp] theorem bounded_queueStatus (h : Bounded s) : Bounded (queueStatus s) := by
  unfold queueStatus
  split
  · exact bounded_modLink _ (by split <;> rfl) (by split <;> rfl) h
  · exact h

@[simp] theorem bounded_setModeCmd (m : Mode) : Bounded (setModeCmd m s) ↔ Bounded s := Iff.rfl
@[simp] theorem bounded_setActivity (a : Activity) : Bounded (setActivity a s) ↔ Bounded s := Iff.rfl
@[simp] theorem bounded_setOwnMode (m : Mode) : Bounded (setOwnMode m s) ↔ Bounded s := Iff.rfl

/-! ## Dues -/

@[simp] theorem bounded_raiseDue (k : DueKind) (d : List Byte) (h : Bounded s) : Bounded (raiseDue k d s) := by
  simp [raiseDue, h]

@[simp] theorem bounded_clearDue (k : DueKind) (d : List Byte) (h : Bounded s) : Bounded (clearDue k d s) := by
  simp [clearDue, h]

@[simp] theorem bounded_evaluateReplace (h : Bounded s) : Bounded (evaluateReplace s) := by
  simp [evaluateReplace, h]

@[simp] theorem bounded_evaluateInspect (h : Bounded s) : Bounded (evaluateInspect s) := by
  simp [evaluateInspect, h]

@[simp] theorem bounded_evaluateDues (h : Bounded s) : Bounded (evaluateDues s) := by
  have inspected := bounded_evaluateInspect (bounded_evaluateReplace h)
  have overdue : Bounded (evaluateOverdue (evaluateInspect (evaluateReplace s))) := by
    rw [evaluateOverdue]; simp [inspected]
  rw [evaluateDues, evaluatePeriodic]
  simp [overdue]

@[simp] theorem bounded_faultFollowup (c : Byte) (h : Bounded s) : Bounded (faultFollowup c s) :=
  bounded_raiseDue _ _ h

/-! ## The battery account -/

@[simp] theorem bounded_refreshRuntime (h : Bounded s) : Bounded (refreshRuntime s) := bounded_modBau_rest _ rfl h
@[simp] theorem bounded_refreshWeak (h : Bounded s) : Bounded (refreshWeak s) := bounded_modBau_rest _ rfl h
@[simp] theorem bounded_setCharge (n : Nat) (h : Bounded s) : Bounded (setCharge n s) := bounded_modBau_rest _ rfl h

@[simp] theorem bounded_recomputeHealth (h : Bounded s) : Bounded (recomputeHealth s) := by
  unfold recomputeHealth
  dsimp only
  have aged := bounded_modBau_rest (fun b => { b with hAge := ageHealth b.carry.u (uRated s) }) rfl h
  split
  · exact aged
  · exact bounded_refreshWeak (bounded_refreshRuntime (bounded_modBau_rest _ rfl aged))

@[simp] theorem bounded_previewHealth (h : Bounded s) : Bounded (previewHealth s) :=
  bounded_refreshWeak (bounded_modBau_rest _ rfl h)

/-- Life is counted by a saturating addition (R74). -/
@[simp] theorem bounded_addLife (n : Nat) (h : Bounded s) : Bounded (addLife n s) :=
  bounded_modBau _ (min_le_left _ _) h

@[simp] theorem bounded_takeTemperature (f : SenseFrame) (h : Bounded s) : Bounded (takeTemperature f s) := by
  unfold takeTemperature
  split
  · exact h
  · exact bounded_modBau_rest _ (by split <;> rfl) h

@[simp] theorem bounded_countCharge (m : Nat) (i : Int) (h : Bounded s) : Bounded (countCharge m i s) :=
  bounded_modBau_rest _ rfl h

@[simp] theorem bounded_countFloat (f : SenseFrame) (g m : Nat) (h : Bounded s) : Bounded (countFloat f g m s) := by
  unfold countFloat
  exact (bounded_ite _ _ _).mpr ⟨fun _ => bounded_modBau_rest _ rfl h, fun _ => bounded_modBau_rest _ rfl h⟩

@[simp] theorem bounded_countDischarge (m : Nat) (i : Int) (h : Bounded s) : Bounded (countDischarge m i s) := by
  unfold countDischarge
  split
  · exact bounded_addLife _ (bounded_modBau_rest _ rfl h)
  · exact h

@[simp] theorem bounded_recountHealth (h : Bounded s) : Bounded (recountHealth s) := by
  simp [recountHealth, h]

@[simp] theorem bounded_accountFrame (f : SenseFrame) (g m : Nat) (h : Bounded s) :
    Bounded (accountFrame f g m s) := by
  have warmed := bounded_takeTemperature f h
  have counted := bounded_countDischarge m f.i (bounded_countFloat f g m (bounded_countCharge m f.i warmed))
  unfold accountFrame
  dsimp only
  split
  · refine bounded_refreshRuntime ?_
    split
    · exact counted
    · exact bounded_recountHealth counted
  · exact warmed

@[simp] theorem bounded_verdictUpdate (g : Bool) (x : Option Nat) (h : Bounded s) : Bounded (verdictUpdate g x s) :=
  bounded_evaluateDues (bounded_clearDue _ _ (bounded_refreshWeak (bounded_recomputeHealth
    (bounded_modBau_rest (fun b => { b with carry := recordVerdict g x s.hpi.cab.weakCap b.carry }) rfl h))))

@[simp] theorem bounded_replaceBattery (h : Bounded s) : Bounded (replaceBattery s) := by
  have renewed : Bounded (renewAccount s) := bounded_refreshRuntime (bounded_setCharge _ (bounded_refreshWeak
    (bounded_recomputeHealth (bounded_modBau _ (Nat.zero_le _) h))))
  simp [replaceBattery, renewed]

@[simp] theorem bounded_takeUpRecord (h : Bounded s) : Bounded (takeUpRecord s) :=
  bounded_refreshRuntime (bounded_modBau_rest _ rfl (bounded_setCharge _ (bounded_previewHealth
    (bounded_modBau_rest _ rfl h))))

@[simp] theorem bounded_operatingMinute (h : Bounded s) : Bounded (operatingMinute s) :=
  bounded_evaluateDues (bounded_refreshRuntime (bounded_refreshWeak (bounded_recomputeHealth
    (bounded_modBau_rest _ rfl (bounded_addLife _ (bounded_modBau_rest _ rfl h))))))

/-! ## The own claim, the test run and the visit record -/

@[simp] theorem bounded_releaseClaim (h : Bounded s) : Bounded (releaseClaim s) := by
  unfold releaseClaim
  split <;> simp [h]

@[simp] theorem bounded_releaseKind (k : ClaimKind) (h : Bounded s) : Bounded (releaseKind k s) := by
  simp [releaseKind, h]

@[simp] theorem bounded_fixClaim (h : Bounded s) : Bounded (fixClaim s) := by
  unfold fixClaim
  split <;> simp [h]

@[simp] theorem bounded_enterStep (n : Nat) (h : Bounded s) : Bounded (enterStep n s) := by
  unfold enterStep
  split <;> simp [h]

@[simp] theorem bounded_takeCapture (n : Nat) (h : Bounded s) : Bounded (takeCapture n s) := by
  unfold takeCapture
  split <;> simp [h]

@[simp] theorem bounded_endRun (c : EndCause) (h : Bounded s) : Bounded (endRun c s) := by
  unfold endRun
  dsimp only
  split <;> simp [h]

@[simp] theorem bounded_abortRun (c : EndCause) (h : Bounded s) : Bounded (abortRun c s) := by simp [abortRun, h]

@[simp] theorem bounded_abortUnderway (c : EndCause) (h : Bounded s) : Bounded (abortUnderway c s) := by
  simp [abortUnderway, h]

@[simp] theorem bounded_modVisit (f : Visit → Visit) : Bounded (modVisit f s) ↔ Bounded s := Iff.rfl

@[simp] theorem bounded_tellVisit (v : Visit) (n : Nat) (c : List Byte) : Bounded (tellVisit v n c s) ↔ Bounded s :=
  bounded_raise _ _

@[simp] theorem bounded_enterVisitState (st : VisitState) (h : Bounded s) : Bounded (enterVisitState st s) := by
  unfold enterVisitState
  split <;> simp [h]

theorem bounded_clearDues (l : List DueKind) (d : List Byte) (h : Bounded s) :
    Bounded (l.foldl (fun s k => clearDue k d s) s) := by
  induction l generalizing s with
  | nil => exact h
  | cons k l ih => exact ih (bounded_clearDue k d h)

@[simp] theorem bounded_completeVisit (v : Visit) (h : Bounded s) : Bounded (completeVisit v s) := by
  have cleared := bounded_clearDues (clearedDues v s) (u16 v.number) h
  have visited := bounded_modBau_rest (fun b => { b with carry := { b.carry with minVisit := 0 } }) rfl cleared
  unfold completeVisit
  dsimp only
  split <;> split <;> simp [cleared, visited]

@[simp] theorem bounded_appendLog (x : LogRec) : Bounded (appendLog x s) ↔ Bounded s := Iff.rfl

@[simp] theorem bounded_closeVisit (o : VisitOutcome) (c : List Byte) (h : Bounded s) :
    Bounded (closeVisit o c s) := by
  unfold closeVisit
  split <;> simp [h]

@[simp] theorem bounded_noteVisitNumber (n : Nat) (h : Bounded s) : Bounded (noteVisitNumber n s) := by
  have wrapped : Bounded (wrapLog s) := by simp [wrapLog, h]
  exact bounded_modBau_rest _ rfl wrapped

@[simp] theorem bounded_joinEnded (h : Bounded s) : Bounded (joinEnded s) := by
  unfold joinEnded
  split <;> simp [h]

/-! ## Mode control -/

@[simp] theorem bounded_clearProposal (w : Msg → Bool) (b : Byte) (h : Bounded s) : Bounded (clearProposal w b s) := by
  simp [clearProposal, h]

@[simp] theorem bounded_dropOwn (i : PropId) (x : Option Reason) (m : List Byte) (h : Bounded s) :
    Bounded (dropOwn i x m s) := by
  cases x <;> simp [dropOwn, h]

@[simp] theorem bounded_dropFollowed (i : PropId) (h : Bounded s) : Bounded (dropFollowed i s) :=
  bounded_clearProposal _ _ h

@[simp] theorem bounded_dropProposal (x : Option Reason) (m : List Byte) (h : Bounded s) :
    Bounded (dropProposal x m s) := by
  unfold dropProposal
  split <;> simp [h]

@[simp] theorem bounded_beginSwitch (m : Mode) (o : Origin) : Bounded (beginSwitch m o s) ↔ Bounded s := Iff.rfl

@[simp] theorem bounded_tellDone (m : Mode) (h : Bounded s) : Bounded (tellDone m s) := by
  unfold tellDone
  split <;> simp [h]

@[simp] theorem bounded_reportEnd (m : Mode) (o : Origin) (h : Bounded s) : Bounded (reportEnd m o s) := by
  cases o <;> simp [reportEnd, h]

@[simp] theorem bounded_endSwitchCore (m : Mode) (o : Origin) (h : Bounded s) : Bounded (endSwitchCore m o s) := by
  simp [endSwitchCore, h]

@[simp] theorem bounded_switchAway (m : Mode) (o : Origin) (h : Bounded s) : Bounded (switchAway m o s) := by
  simp [switchAway, h]

@[simp] theorem bounded_startHold : Bounded (startHold s) ↔ Bounded s := Iff.rfl

@[simp] theorem bounded_clearForForce (h : Bounded s) : Bounded (clearForForce s) :=
  bounded_releaseKind _ (bounded_abortRun _ (bounded_dropProposal _ _ h))

@[simp] theorem bounded_actOnForce (p : Station) (b : Bool) (h : Bounded s) : Bounded (actOnForce p b s) := by
  simp [actOnForce, h]

@[simp] theorem bounded_force (c : ForceCause) (h : Bounded s) : Bounded (force c s) := by
  have acted : ∀ b, Bounded (actOnForce s.own b
      (postForce c (raise .transferForced (u8 c.code ++ stationByte s.own) s))) := by simp [h]
  cases c <;> simp [force, acted]

@[simp] theorem bounded_tellDropout : Bounded (tellDropout s) ↔ Bounded s := bounded_raise _ _

@[simp] theorem bounded_dropOut (h : Bounded s) : Bounded (dropOut s) :=
  bounded_faultFollowup _ (bounded_queueStatus (bounded_switchAway _ _ (bounded_releaseKind _ (bounded_abortRun _
    (bounded_tellDropout.mpr h)))))

@[simp] theorem bounded_inverterFault (h : Bounded s) : Bounded (inverterFault s) := by simp [inverterFault, h]

@[simp] theorem bounded_failSwitch (h : Bounded s) : Bounded (failSwitch s) := by simp [failSwitch, h]

@[simp] theorem bounded_startOverload (h : Bounded s) : Bounded (startOverload s) := by simp [startOverload, h]

@[simp] theorem bounded_checkOverload (h : Bounded s) : Bounded (checkOverload s) := by simp [checkOverload, h]

@[simp] theorem bounded_checkMaint (h : Bounded s) : Bounded (checkMaint s) := by simp [checkMaint, tellInterlock, h]

@[simp] theorem bounded_endSwitch (m : Mode) (o : Origin) (h : Bounded s) : Bounded (endSwitch m o s) := by
  have ended := bounded_endSwitchCore m o h
  simp [endSwitch, ended]

@[simp] theorem bounded_switchTo (m : Mode) (o : Origin) (h : Bounded s) : Bounded (switchTo m o s) := by
  simp [switchTo, h]

@[simp] theorem bounded_enterMismatch (h : Bounded s) : Bounded (enterMismatch s) := by simp [enterMismatch, h]

@[simp] theorem bounded_joinFloor (h : Bounded s) : Bounded (joinFloor s) := bounded_switchTo _ _ h

@[simp] theorem bounded_requestOff (h : Bounded s) : Bounded (requestOff s) := by
  unfold requestOff
  exact bounded_switchAway _ _ (by split <;> simp [h])

@[simp] theorem bounded_executeTransfer (i : PropId) (d : Direction) (h : Bounded s) :
    Bounded (executeTransfer i d s) := by
  simp [executeTransfer, h]

@[simp] theorem bounded_modProposal (f : ProposalRec → ProposalRec) : Bounded (modProposal f s) ↔ Bounded s := Iff.rfl

@[simp] theorem bounded_armTransfer (i : PropId) (d : Direction) (t : FloorTime) (h : Bounded s) :
    Bounded (arm i d t s) := by
  simp [arm, h]

@[simp] theorem bounded_cancelProposal (i : PropId) (x : Reason) (m : List Byte) (h : Bounded s) :
    Bounded (cancelProposal i x m s) := by
  simp [cancelProposal, h]

@[simp] theorem bounded_queueOrder (i : PropId) (h : Bounded s) : Bounded (queueOrder i s) := by
  have asked := bounded_queueCoord (s := modProposal (fun r => { r with phase := some .ordering, window := none }) s)
    (.order i) h
  unfold queueOrder
  dsimp only
  split <;> rename_i e <;> rw [e] at asked <;> simp [asked]

@[simp] theorem bounded_checkConsents (h : Bounded s) : Bounded (checkConsents s) := by
  unfold checkConsents
  split <;> simp [h]

@[simp] theorem bounded_excuseMember (p : Station) (h : Bounded s) : Bounded (excuseMember p s) := by
  unfold excuseMember
  split <;> simp [h]

@[simp] theorem bounded_beginProposal (d : Direction) (h : Bounded s) : Bounded (beginProposal d s) := by
  unfold beginProposal
  dsimp only
  split
  · simp [h]
  · split <;> rename_i e <;> replace e := congrArg Prod.fst e <;> dsimp only at e <;> subst e <;> simp [h]

/-! ## Visits, claims and what follows a change of the view -/

@[simp] theorem bounded_requestJoin (h : Bounded s) : Bounded (requestJoin s) := by
  unfold requestJoin
  split <;> simp [h]

@[simp] theorem bounded_tryJoin (h : Bounded s) : Bounded (tryJoin s) := by
  unfold tryJoin
  split
  · exact h
  · split
    · split <;> simp [joinTurnedAway, h]
    · exact h

@[simp] theorem bounded_enterIsolated (h : Bounded s) : Bounded (enterIsolated s) := by simp [enterIsolated, h]

@[simp] theorem bounded_enterIsolating (h : Bounded s) : Bounded (enterIsolating s) := by simp [enterIsolating, h]

@[simp] theorem bounded_enterRestoring (h : Bounded s) : Bounded (enterRestoring s) := by simp [enterRestoring, h]

@[simp] theorem bounded_enterMaintOn (h : Bounded s) : Bounded (enterMaintOn s) := by simp [enterMaintOn, h]

@[simp] theorem bounded_leaveIsolating (o : VisitOutcome) (c : List Byte) (h : Bounded s) :
    Bounded (leaveIsolating o c s) := by
  exact bounded_closeVisit _ _ (bounded_releaseKind _ (bounded_requestJoin h))

@[simp] theorem bounded_tellGrant (k : ClaimKind) (h : Bounded s) : Bounded (tellGrant k s) := by
  cases k <;> simp [tellGrant, h]

@[simp] theorem bounded_tellDenial (k : ClaimKind) (b : Byte) (h : Bounded s) : Bounded (tellDenial k b s) := by
  cases k <;> simp [tellDenial, h]

@[simp] theorem bounded_tellLoss (k : ClaimKind) (x : Reason) (h : Bounded s) : Bounded (tellLoss k x s) := by
  cases k <;> simp [tellLoss, h]

@[simp] theorem bounded_grantClaim (h : Bounded s) : Bounded (grantClaim s) := by
  unfold grantClaim
  split <;> simp [h]

@[simp] theorem bounded_denialOf (k : ClaimKind) (b : Byte) (p : Station) (h : Bounded s) :
    Bounded (denialOf k b p s) := by
  simp [denialOf, h]

@[simp] theorem bounded_denyClaim (b : Byte) (p : Station) (h : Bounded s) : Bounded (denyClaim b p s) := by
  unfold denyClaim
  split
  · exact h
  · exact bounded_queueStatus (bounded_denialOf _ _ _ (by simp [h]))

@[simp] theorem bounded_loseClaim (x : Reason) (h : Bounded s) : Bounded (loseClaim x s) := by
  unfold loseClaim
  split <;> simp [h]

@[simp] theorem bounded_claimLocally (k : ClaimKind) (h : Bounded s) : Bounded (claimLocally k s) := by
  unfold claimLocally
  split <;> simp [h]

@[simp] theorem bounded_takeClaimRequest (k : ClaimKind) (h : Bounded s) : Bounded (takeClaimRequest k s) := by
  unfold takeClaimRequest
  dsimp only
  split
  · simp [h]
  · split <;> rename_i e <;> replace e := congrArg Prod.fst e <;> dsimp only at e <;> subst e <;> simp [h]

@[simp] theorem bounded_noteFloorMode : Bounded (noteFloorMode s) ↔ Bounded s := by
  unfold noteFloorMode; split <;> simp

@[simp] theorem bounded_reevaluate (h : Bounded s) : Bounded (reevaluate s) := by
  unfold reevaluate
  split
  · exact h
  · split
    · split <;> simp [h]
    · exact h

@[simp] theorem bounded_settle (h : Bounded s) : Bounded (settle s) := by simp [settle, h]

end Sys2Proof.Machine
end

section
/-! The law `Inv`, with the waiting slot left open, and what keeps it: one lemma per block changed and per operation
that a row calls. -/

namespace Sys2Proof.Machine

/-- `Inv` with the frame of the waiting slot as it stands: inside a row of the slot a frame may wait (R167). -/
structure Law (w : Option (List Byte)) (s : State) : Prop where
  events  : s.hpi.events.length ≤ 32
  urgent  : s.link.urgent.length ≤ 2
  coord   : s.link.coord.length ≤ 8
  congest : s.link.congestionReported = true → s.link.coord.length = 8
  log     : s.vsm.log.length ≤ 16
  dues    : (s.vsm.dues.map (·.kind)).Nodup
  supv    : s.clu.supv = s.hpi.running
  listen  : s.link.state = .listen ↔ s.hpi.running = false
  attempt : s.link.state = .listen → s.link.attempt = none
  peers   : s.peers.map (·.station) = (List.finRange 16).filter fun p => decide (p ≠ s.link.station)
  waiting : s.hpi.waiting = w
  elevated : s.hpi.floor.elevated ≠ some .restarted
  life    : s.bau.carry.u ≤ 4294967295

theorem law_of_inv {s : State} (h : Inv s) : Law none s where
  events := h.events
  urgent := h.urgent
  coord := h.coord
  congest := h.congest
  log := h.log
  dues := h.dues
  supv := h.supv
  listen := h.listen
  attempt := h.attempt
  peers := h.peers
  waiting := h.waiting
  elevated := h.elevated
  life := h.life

theorem inv_of_law {s : State} (h : Law none s) : Inv s where
  events := h.events
  urgent := h.urgent
  coord := h.coord
  congest := h.congest
  log := h.log
  dues := h.dues
  supv := h.supv
  listen := h.listen
  attempt := h.attempt
  peers := h.peers
  waiting := h.waiting
  elevated := h.elevated
  life := h.life

variable {w : Option (List Byte)} {s t : State}

namespace Law

theorem bounded (h : Law w s) : Bounded s := ⟨h.coord, h.congest, h.life⟩

/-- Operations of the blocks among themselves keep the law. -/
theorem of_quiet (h : Law w s) (q : Quiet s t) (b : Bounded t) : Law w t where
  events := q.events_le h.events
  urgent := q.urgent_le h.urgent
  coord := b.1
  congest := b.2.1
  log := q.log_le h.log
  dues := q.dues_nodup h.dues
  supv := by rw [q.supv, q.running, h.supv]
  listen := by rw [q.linkState, q.running, h.listen]
  attempt := by rw [q.linkState, q.attempt]; exact h.attempt
  peers := by rw [q.peers, q.station]; exact h.peers
  waiting := q.waiting.trans h.waiting
  elevated := by rw [q.floor]; exact h.elevated
  life := b.2.2

end Law

/-! ## One block changed -/

@[simp] theorem law_ite (c : Prop) [Decidable c] (a b : State) :
    Law w (if c then a else b) ↔ (c → Law w a) ∧ (¬ c → Law w b) := by
  by_cases h : c <;> simp [h]

theorem law_modPeers (f : List Peer → List Peer) (hp : (f s.peers).map (·.station) = s.peers.map (·.station))
    (h : Law w s) : Law w (s.modPeers f) := { h with peers := hp.trans h.peers }

@[simp] theorem law_modPvu (f : Pvu → Pvu) (h : Law w s) : Law w (s.modPvu f) := { h with }
@[simp] theorem law_modFtu (f : Ftu → Ftu) (h : Law w s) : Law w (s.modFtu f) := { h with }
@[simp] theorem law_modSns (f : Sns → Sns) (h : Law w s) : Law w (s.modSns f) := { h with }
@[simp] theorem law_modTrc (f : Trc → Trc) (h : Law w s) : Law w (s.modTrc f) := { h with }
@[simp] theorem law_setLva (c : Option Claim) (h : Law w s) : Law w (s.setLva c) := { h with }
@[simp] theorem law_modTsq (f : Tsq → Tsq) (h : Law w s) : Law w (s.modTsq f) := { h with }
@[simp] theorem law_setPending (q : List Instr) (h : Law w s) : Law w (s.setPending q) := { h with }

theorem law_modClu (f : Clu → Clu) (hs : (f s.clu).supv = s.clu.supv) (h : Law w s) : Law w (s.modClu f) :=
  { h with supv := hs.trans h.supv }

theorem law_modBau (f : Bau → Bau) (hu : (f s.bau).carry.u ≤ 4294967295) (h : Law w s) : Law w (s.modBau f) :=
  { h with life := hu }

theorem law_modBau_rest (f : Bau → Bau) (hu : (f s.bau).carry.u = s.bau.carry.u) (h : Law w s) : Law w (s.modBau f) :=
  law_modBau f (hu.trans_le h.life) h

theorem law_modVsm_rest (f : Vsm → Vsm) (hl : (f s.vsm).log = s.vsm.log) (hd : (f s.vsm).dues = s.vsm.dues)
    (h : Law w s) : Law w (s.modVsm f) :=
  { h with log := (congrArg List.length hl).trans_le h.log, dues := by simpa only [State.modVsm_vsm, hd] using h.dues }

/-- A change of the host port that leaves the device state. -/
theorem law_modHpi (f : Hpi → Hpi) {w' : Option (List Byte)} (hr : (f s.hpi).running = s.hpi.running)
    (he : (f s.hpi).events.length ≤ 32) (hw : (f s.hpi).waiting = w')
    (hk : (f s.hpi).floor.elevated ≠ some .restarted) (h : Law w s) : Law w' (s.modHpi f) :=
  { h with
    events := he, waiting := hw, elevated := hk
    supv := h.supv.trans hr.symm
    listen := h.listen.trans (by rw [State.modHpi_hpi, hr]) }

/-- A change of the buffers of the host port. -/
theorem law_buffers (f : Hpi → Hpi) (hf : { f s.hpi with
      command := s.hpi.command, response := s.hpi.response, shiftedOut := s.hpi.shiftedOut } = s.hpi)
    (h : Law w s) : Law w (s.modHpi f) := by
  have e := fun {α} (g : Hpi → α) => congrArg g hf
  refine law_modHpi f (e (·.running)) ?_ ((e (·.waiting)).trans h.waiting) ?_ h
  · exact (congrArg List.length (e (·.events))).trans_le h.events
  · rw [show (f s.hpi).floor = s.hpi.floor from e (·.floor)]; exact h.elevated

/-- A change of the link that leaves its queues, its station and its state. -/
theorem law_line (f : Link → Link) (hf : { f s.link with
      muteTimer := s.link.muteTimer, duplicateSeen := s.link.duplicateSeen, status := s.link.status
      lastTransmitter := s.link.lastTransmitter, heldStatus := s.link.heldStatus, attempt := s.link.attempt
      lineIdle := s.link.lineIdle, rx := s.link.rx } = s.link)
    (ha : s.link.state = .listen → (f s.link).attempt = none) (h : Law w s) : Law w (s.modLink f) := by
  have e := fun {α} (g : Link → α) => congrArg g hf
  have state : (f s.link).state = s.link.state := e (·.state)
  have coord : (f s.link).coord = s.link.coord := e (·.coord)
  have reported : (f s.link).congestionReported = s.link.congestionReported := e (·.congestionReported)
  have station : (f s.link).station = s.link.station := e (·.station)
  have urgent : (f s.link).urgent = s.link.urgent := e (·.urgent)
  exact { h with
    urgent := (congrArg List.length urgent).trans_le h.urgent
    coord := (congrArg List.length coord).trans_le h.coord
    congest := by simpa only [State.modLink_link, coord, reported] using h.congest
    listen := by simpa only [State.modLink_link, State.modLink_hpi, state] using h.listen
    attempt := by simpa only [State.modLink_link, state] using ha
    peers := by simpa only [State.modLink_link, State.modLink_peers, station] using h.peers }

@[simp] theorem law_endReception (h : Law w s) : Law w (endReception s) := law_line _ rfl h.attempt h

/-! ## Operations that rows call -/

@[simp] theorem law_raise (k : EventKind) (d : List Byte) (h : Law w s) : Law w (raise k d s) :=
  h.of_quiet (quiet_raise _ _ (quiet_refl s)) ((bounded_raise _ _).mpr h.bounded)

@[simp] theorem law_settle (h : Law w s) : Law w (settle s) :=
  h.of_quiet (quiet_settle (quiet_refl s)) (bounded_settle h.bounded)

@[simp] theorem law_postCoord (m : Msg) (h : Law w s) : Law w (postCoord m s) :=
  h.of_quiet (quiet_postCoord _ (quiet_refl s)) (bounded_postCoord _ h.bounded)

@[simp] theorem law_queueStatus (h : Law w s) : Law w (queueStatus s) :=
  h.of_quiet (quiet_queueStatus (quiet_refl s)) (bounded_queueStatus h.bounded)

@[simp] theorem law_setActivity (a : Activity) (h : Law w s) : Law w (setActivity a s) := law_modTrc _ h
@[simp] theorem law_setOwnMode (m : Mode) (h : Law w s) : Law w (setOwnMode m s) := law_modTrc _ h
@[simp] theorem law_modProposal (f : ProposalRec → ProposalRec) (h : Law w s) : Law w (modProposal f s) :=
  law_modTrc _ h

@[simp] theorem law_modVisit (f : Visit → Visit) (h : Law w s) : Law w (modVisit f s) := law_modVsm_rest _ rfl rfl h

@[simp] theorem law_previewHealth (h : Law w s) : Law w (previewHealth s) :=
  h.of_quiet (quiet_previewHealth (quiet_refl s)) (bounded_previewHealth h.bounded)

@[simp] theorem law_accountFrame (f : SenseFrame) (g m : Nat) (h : Law w s) : Law w (accountFrame f g m s) :=
  h.of_quiet (quiet_accountFrame _ _ _ (quiet_refl s)) (bounded_accountFrame _ _ _ h.bounded)

@[simp] theorem law_evaluateDues (h : Law w s) : Law w (evaluateDues s) :=
  h.of_quiet (quiet_evaluateDues (quiet_refl s)) (bounded_evaluateDues h.bounded)

@[simp] theorem law_releaseKind (k : ClaimKind) (h : Law w s) : Law w (releaseKind k s) :=
  h.of_quiet (quiet_releaseKind _ (quiet_refl s)) (bounded_releaseKind _ h.bounded)

@[simp] theorem law_enterStep (n : Nat) (h : Law w s) : Law w (enterStep n s) :=
  h.of_quiet (quiet_enterStep _ (quiet_refl s)) (bounded_enterStep _ h.bounded)

@[simp] theorem law_takeCapture (n : Nat) (h : Law w s) : Law w (takeCapture n s) :=
  h.of_quiet (quiet_takeCapture _ (quiet_refl s)) (bounded_takeCapture _ h.bounded)

@[simp] theorem law_endRun (c : EndCause) (h : Law w s) : Law w (endRun c s) :=
  h.of_quiet (quiet_endRun _ (quiet_refl s)) (bounded_endRun _ h.bounded)

@[simp] theorem law_abortRun (c : EndCause) (h : Law w s) : Law w (abortRun c s) :=
  h.of_quiet (quiet_abortRun _ (quiet_refl s)) (bounded_abortRun _ h.bounded)

@[simp] theorem law_enterVisitState (st : VisitState) (h : Law w s) : Law w (enterVisitState st s) :=
  h.of_quiet (quiet_enterVisitState _ (quiet_refl s)) (bounded_enterVisitState _ h.bounded)

@[simp] theorem law_closeVisit (o : VisitOutcome) (c : List Byte) (h : Law w s) : Law w (closeVisit o c s) :=
  h.of_quiet (quiet_closeVisit _ _ (quiet_refl s)) (bounded_closeVisit _ _ h.bounded)

@[simp] theorem law_appendLog (r : LogRec) (h : Law w s) : Law w (appendLog r s) :=
  h.of_quiet (quiet_appendLog _ (quiet_refl s)) ((bounded_appendLog _).mpr h.bounded)

@[simp] theorem law_noteVisitNumber (n : Nat) (h : Law w s) : Law w (noteVisitNumber n s) :=
  h.of_quiet (quiet_noteVisitNumber _ (quiet_refl s)) (bounded_noteVisitNumber _ h.bounded)

@[simp] theorem law_dropProposal (x : Option Reason) (m : List Byte) (h : Law w s) : Law w (dropProposal x m s) :=
  h.of_quiet (quiet_dropProposal _ _ (quiet_refl s)) (bounded_dropProposal _ _ h.bounded)

@[simp] theorem law_cancelProposal (i : PropId) (x : Reason) (m : List Byte) (h : Law w s) :
    Law w (cancelProposal i x m s) :=
  h.of_quiet (quiet_cancelProposal _ _ _ (quiet_refl s)) (bounded_cancelProposal _ _ _ h.bounded)

@[simp] theorem law_actOnForce (p : Station) (b : Bool) (h : Law w s) : Law w (actOnForce p b s) :=
  h.of_quiet (quiet_actOnForce _ _ (quiet_refl s)) (bounded_actOnForce _ _ h.bounded)

@[simp] theorem law_force (c : ForceCause) (h : Law w s) : Law w (force c s) :=
  h.of_quiet (quiet_force _ (quiet_refl s)) (bounded_force _ h.bounded)

@[simp] theorem law_inverterFault (h : Law w s) : Law w (inverterFault s) :=
  h.of_quiet (quiet_inverterFault (quiet_refl s)) (bounded_inverterFault h.bounded)

@[simp] theorem law_failSwitch (h : Law w s) : Law w (failSwitch s) :=
  h.of_quiet (quiet_failSwitch (quiet_refl s)) (bounded_failSwitch h.bounded)

@[simp] theorem law_startOverload (h : Law w s) : Law w (startOverload s) :=
  h.of_quiet (quiet_startOverload (quiet_refl s)) (bounded_startOverload h.bounded)

@[simp] theorem law_checkOverload (h : Law w s) : Law w (checkOverload s) :=
  h.of_quiet (quiet_checkOverload (quiet_refl s)) (bounded_checkOverload h.bounded)

@[simp] theorem law_checkMaint (h : Law w s) : Law w (checkMaint s) :=
  h.of_quiet (quiet_checkMaint (quiet_refl s)) (bounded_checkMaint h.bounded)

@[simp] theorem law_endSwitch (m : Mode) (o : Origin) (h : Law w s) : Law w (endSwitch m o s) :=
  h.of_quiet (quiet_endSwitch _ _ (quiet_refl s)) (bounded_endSwitch _ _ h.bounded)

@[simp] theorem law_enterMismatch (h : Law w s) : Law w (enterMismatch s) :=
  h.of_quiet (quiet_enterMismatch (quiet_refl s)) (bounded_enterMismatch h.bounded)

@[simp] theorem law_joinFloor (h : Law w s) : Law w (joinFloor s) :=
  h.of_quiet (quiet_joinFloor (quiet_refl s)) (bounded_joinFloor h.bounded)

@[simp] theorem law_executeTransfer (i : PropId) (d : Direction) (h : Law w s) : Law w (executeTransfer i d s) :=
  h.of_quiet (quiet_executeTransfer _ _ (quiet_refl s)) (bounded_executeTransfer _ _ h.bounded)

@[simp] theorem law_arm (i : PropId) (d : Direction) (t : FloorTime) (h : Law w s) : Law w (arm i d t s) :=
  h.of_quiet (quiet_arm_transfer _ _ _ (quiet_refl s)) (bounded_armTransfer _ _ _ h.bounded)

@[simp] theorem law_checkConsents (h : Law w s) : Law w (checkConsents s) :=
  h.of_quiet (quiet_checkConsents (quiet_refl s)) (bounded_checkConsents h.bounded)

@[simp] theorem law_excuseMember (p : Station) (h : Law w s) : Law w (excuseMember p s) :=
  h.of_quiet (quiet_excuseMember _ (quiet_refl s)) (bounded_excuseMember _ h.bounded)

@[simp] theorem law_beginProposal (d : Direction) (h : Law w s) : Law w (beginProposal d s) :=
  h.of_quiet (quiet_beginProposal _ (quiet_refl s)) (bounded_beginProposal _ h.bounded)

@[simp] theorem law_tryJoin (h : Law w s) : Law w (tryJoin s) :=
  h.of_quiet (quiet_tryJoin (quiet_refl s)) (bounded_tryJoin h.bounded)

@[simp] theorem law_enterIsolated (h : Law w s) : Law w (enterIsolated s) :=
  h.of_quiet (quiet_enterIsolated (quiet_refl s)) (bounded_enterIsolated h.bounded)

@[simp] theorem law_enterIsolating (h : Law w s) : Law w (enterIsolating s) :=
  h.of_quiet (quiet_enterIsolating (quiet_refl s)) (bounded_enterIsolating h.bounded)

@[simp] theorem law_enterRestoring (h : Law w s) : Law w (enterRestoring s) :=
  h.of_quiet (quiet_enterRestoring (quiet_refl s)) (bounded_enterRestoring h.bounded)

@[simp] theorem law_enterMaintOn (h : Law w s) : Law w (enterMaintOn s) :=
  h.of_quiet (quiet_enterMaintOn (quiet_refl s)) (bounded_enterMaintOn h.bounded)

@[simp] theorem law_leaveIsolating (o : VisitOutcome) (c : List Byte) (h : Law w s) : Law w (leaveIsolating o c s) :=
  h.of_quiet (quiet_leaveIsolating _ _ (quiet_refl s)) (bounded_leaveIsolating _ _ h.bounded)

@[simp] theorem law_grantClaim (h : Law w s) : Law w (grantClaim s) :=
  h.of_quiet (quiet_grantClaim (quiet_refl s)) (bounded_grantClaim h.bounded)

@[simp] theorem law_denyClaim (b : Byte) (p : Station) (h : Law w s) : Law w (denyClaim b p s) :=
  h.of_quiet (quiet_denyClaim _ _ (quiet_refl s)) (bounded_denyClaim _ _ h.bounded)

@[simp] theorem law_takeClaimRequest (k : ClaimKind) (h : Law w s) : Law w (takeClaimRequest k s) :=
  h.of_quiet (quiet_takeClaimRequest _ (quiet_refl s)) (bounded_takeClaimRequest _ h.bounded)

end Sys2Proof.Machine
end

section
/-! Every step keeps the law: the commands of the host port. -/

namespace Sys2Proof.Machine

variable {w : Option (List Byte)} {s : State}

/-! ## Taking a command -/

@[simp] theorem law_respond (r : Reply) (h : Law w s) : Law w (respond r s) := law_buffers _ rfl h

@[simp] theorem law_openCommand (code : Byte) (window : List Byte) (h : Law w s) : Law w (openCommand code window s) :=
  law_buffers _ rfl h

/-- A command keeps the law where its own rule does. -/
theorem law_hostCommand {rule : Rule} (code : Byte) (lengths : Nat → Bool) (taken : TakenIn) (window : List Byte)
    (keeps : ∀ args (s : State), Law w s → Law w (rule args s).1) (h : Law w s) :
    Law w (hostCommand code lengths taken rule window s) := by
  unfold hostCommand
  dsimp only
  split
  · simp [h]
  · split
    · simp [h]
    · split
      · simp [h]
      · exact law_respond _ (keeps _ _ (law_openCommand _ _ h))

/-! ## Settings -/

/-- RESTARTED is no kind that SET FLOOR can elevate (R174). -/
theorem floorArgs_elevated {l : List Byte} {c : FloorCfg} (h : floorArgs l = some c) :
    c.elevated ≠ some .restarted := by
  unfold floorArgs at h
  dsimp only at h
  split at h
  · cases h; simp
  · split at h
    · split at h
      · cases h
      · cases h; simpa using ‹_›
    · cases h

theorem nat32_lt (a b c d : Byte) : nat32 a b c d ≤ 4294967295 := by
  unfold nat32
  have := a.isLt; have := b.isLt; have := c.isLt; have := d.isLt
  omega

/-- A life used that is carried in four bytes fits its 32 bits. -/
theorem carryArgs_life {l : List Byte} {c : Carry} (h : carryArgs l = some c) : c.u ≤ 4294967295 := by
  simp only [carryArgs, Option.map_eq_some_iff] at h
  obtain ⟨verdict, _, rfl⟩ := h
  exact nat32_lt _ _ _ _

theorem law_ruleSetFloor (args : List Byte) (s : State) (h : Law w s) : Law w (ruleSetFloor args s).1 := by
  unfold ruleSetFloor
  split
  · exact h
  · rename_i c e
    have kept := floorArgs_elevated e
    exact law_modHpi (fun p => { p with floor := c.clamped }) rfl h.events h.waiting kept h

theorem law_changeAlarmMode (before : AlarmMode) (h : Law w s) : Law w (changeAlarmMode before s) := by
  unfold changeAlarmMode
  split
  · exact law_modClu _ rfl h
  · simp [tellAlarmInput, h]
  · exact h
  · exact h

theorem law_ruleSetCabinet (args : List Byte) (s : State) (h : Law w s) : Law w (ruleSetCabinet args s).1 := by
  unfold ruleSetCabinet
  split
  · exact h
  · refine law_previewHealth (law_changeAlarmMode _ (law_modBau_rest _ ?_ ?_))
    · split <;> rfl
    · exact law_modHpi (fun p => { p with cab := _, configured := true }) rfl h.events h.waiting h.elevated h

theorem law_ruleLoadAgeingTable (args : List Byte) (s : State) (h : Law w s) :
    Law w (ruleLoadAgeingTable args s).1 := by
  unfold ruleLoadAgeingTable
  dsimp only
  split
  · exact h
  · exact law_modBau_rest (fun b => { b with ageing := _ }) rfl h

theorem law_ruleSetProfile (args : List Byte) (s : State) (h : Law w s) : Law w (ruleSetProfile args s).1 := by
  unfold ruleSetProfile
  split
  · exact h
  · split
    · exact h
    · dsimp only
      exact law_modTsq _ h

theorem law_ruleLoadCarryRecord (args : List Byte) (s : State) (h : Law w s) :
    Law w (ruleLoadCarryRecord args s).1 := by
  unfold ruleLoadCarryRecord
  split
  · exact h
  · rename_i c e
    have life := carryArgs_life e
    exact law_previewHealth (law_modBau (fun b => { b with carry := c.clamped }) life h)

/-! ## START and RESTART -/

theorem quiet_adoptInvalid {r : State} (h : Quiet r s) : Quiet r (adoptInvalid s) := by
  unfold adoptInvalid
  split <;> simp [h]

theorem bounded_adoptInvalid (h : Bounded s) : Bounded (adoptInvalid s) := by simp [adoptInvalid, h]

/-- The link leaves LISTEN by its state alone; an event tells of a duplicate seen (R16). -/
theorem openLink_quiet (s : State) :
    ∃ st, st ≠ .listen ∧ Quiet (s.modLink fun l => { l with state := st }) (openLink s) := by
  unfold openLink
  split
  · exact ⟨.mutedDuplicate, by simp, by simp⟩
  · exact ⟨.active, by simp, by simp⟩

theorem bounded_openLink (h : Bounded s) : Bounded (openLink s) := by
  unfold openLink
  split
  · exact (bounded_raise _ _).mpr (bounded_modLink _ rfl rfl h)
  · exact bounded_modLink _ rfl rfl h

/-- SUPV becomes active as the part becomes RUNNING and the link leaves LISTEN (R16, R44). -/
theorem law_adoptMode (h : Law w s) : Law w (adoptMode ((openLink s).modHpi fun p => { p with running := true })) := by
  obtain ⟨st, leaves, opened⟩ := openLink_quiet s
  have adopted : ∀ f : Trc → Trc, Quiet ((openLink s).modHpi fun p => { p with running := true })
      (adoptInvalid (((openLink s).modHpi fun p => { p with running := true }).modTrc f)) := fun f =>
    quiet_adoptInvalid (quiet_modTrc _ (quiet_refl _))
  have fits : ∀ f : Trc → Trc,
      Bounded (adoptInvalid (((openLink s).modHpi fun p => { p with running := true }).modTrc f)) := fun f =>
    bounded_adoptInvalid (bounded_openLink h.bounded)
  unfold adoptMode
  dsimp only
  refine
    { events := (adopted _).events_le (opened.events_le h.events)
      urgent := (adopted _).urgent_le (opened.urgent_le h.urgent)
      coord := (fits _).1
      congest := (fits _).2.1
      log := (adopted _).log_le (opened.log_le h.log)
      dues := (adopted _).dues_nodup (opened.dues_nodup h.dues)
      supv := (adopted _).running.symm
      listen := ?_
      attempt := ?_
      peers := ?_
      waiting := (adopted _).waiting.trans (opened.waiting.trans h.waiting)
      elevated := ?_
      life := (fits _).2.2 }
  all_goals
    simp only [State.modClu_link, State.modClu_hpi, State.modClu_peers, (adopted _).linkState, (adopted _).running,
      (adopted _).peers, (adopted _).station, (adopted _).floor, State.modHpi_link, State.modHpi_hpi,
      State.modHpi_peers, opened.linkState, opened.peers, opened.station, opened.floor]
  · simpa using leaves
  · exact fun listens => absurd listens leaves
  · exact h.peers
  · exact h.elevated

theorem law_startPart (h : Law w s) : Law w (startPart s) := by
  have taken : Law w (takeUpRecord s) := h.of_quiet (quiet_takeUpRecord (quiet_refl s)) (bounded_takeUpRecord h.bounded)
  have looked := law_checkMaint (law_checkOverload (law_adoptMode taken))
  refine law_settle (law_evaluateDues (law_queueStatus ?_))
  unfold checkFault
  split
  · exact law_inverterFault looked
  · exact looked

theorem law_ruleStart (args : List Byte) (s : State) (h : Law w s) : Law w (ruleStart args s).1 := by
  unfold ruleStart
  split
  · dsimp only
    exact law_startPart h
  · exact h

theorem blankPeers_stations (p : Station) :
    (blankPeers p).map (·.station) = (List.finRange 16).filter fun q => decide (q ≠ p) := by
  simp [blankPeers, Peer.blank, Function.comp_def]

/-- The blocks that RESTART ends after its outputs have fallen: run, visit, claim, transfer and account. -/
def restartBlocks (s : State) : State :=
  stopAccount (restartTrc ((restartVisit (restartRun (dropOutputs s))).setLva none))

theorem restartBlocks_quiet (s : State) : Quiet (dropOutputs s) (restartBlocks s) := by
  have run : Quiet (dropOutputs s) (restartRun (dropOutputs s)) := by
    unfold restartRun
    split
    · exact quiet_modTsq _ rfl (quiet_refl _)
    · exact quiet_refl _
  have visit : Quiet (dropOutputs s) (restartVisit (restartRun (dropOutputs s))) := by
    unfold restartVisit
    split
    · exact run
    · exact quiet_appendLog _ (quiet_modVsm_rest _ rfl rfl run)
  exact quiet_previewHealth (quiet_modBau _ rfl rfl rfl (quiet_modTrc _ (quiet_setLva _ visit)))

theorem restartBlocks_bounded (h : Bounded s) : Bounded (restartBlocks s) := by
  have run : Bounded (restartRun (dropOutputs s)) := by
    unfold restartRun
    split <;> exact h
  have visit : Bounded (restartVisit (restartRun (dropOutputs s))) := by
    unfold restartVisit
    split
    · exact run
    · simp [run]
  refine bounded_previewHealth (bounded_modBau_rest _ ?_ visit)
  simp only [carryNow]
  split <;> rfl

/-- RESTART enters CONFIGURING with the link in LISTEN and SUPV inactive (R16, R44). -/
theorem law_ruleRestart (args : List Byte) (s : State) (h : Law w s) : Law w (ruleRestart args s).1 := by
  have q := restartBlocks_quiet s
  have fits := restartBlocks_bounded h.bounded
  have back : Law w
      ((((((restartLink (restartBlocks s)).modPeers fun _ => blankPeers s.own).modPvu fun _ => Pvu.blank).modFtu
        fun _ => Ftu.blank).modHpi fun p => { p with running := false }).modHpi
        fun p => { p with events := [], eventsLost := false }) :=
    { events := by simp
      urgent := by simp [restartLink, Link.blank]
      coord := by simp [restartLink, Link.blank]
      congest := by simp [restartLink, Link.blank]
      log := q.log_le h.log
      dues := q.dues_nodup h.dues
      supv := q.supv
      listen := by simp [restartLink, Link.blank]
      attempt := by simp [restartLink, Link.blank]
      peers := (blankPeers_stations s.own).trans (by simp [restartLink, Link.blank, q.station]; rfl)
      waiting := q.waiting.trans h.waiting
      elevated := by simpa [restartLink, q.floor, dropOutputs] using h.elevated
      life := fits.2.2 }
  show Law w (seedEvents _)
  unfold seedEvents
  dsimp only
  split
  · exact law_raise _ _ (law_raise _ _ back)
  · exact law_raise _ _ back

/-! ## The commands that read -/

theorem map_station_updatePeer (p : Station) (f : Peer → Peer) (hf : ∀ e, (f e).station = e.station)
    (l : List Peer) : (l.map fun e => if e.station = p then f e else e).map (·.station) = l.map (·.station) := by
  rw [List.map_map]
  refine List.map_congr_left fun e _ => ?_
  simp only [Function.comp_apply]
  split <;> simp [hf]

theorem law_updatePeer (p : Station) (f : Peer → Peer) (hf : ∀ e, (f e).station = e.station) (h : Law w s) :
    Law w (updatePeer p f s) := law_modPeers _ (map_station_updatePeer p f hf _) h

theorem law_ruleReadPeer (args : List Byte) (s : State) (h : Law w s) : Law w (ruleReadPeer args s).1 := by
  unfold ruleReadPeer
  split <;> exact h

theorem law_ruleClearPeerMarkers (args : List Byte) (s : State) (h : Law w s) :
    Law w (ruleClearPeerMarkers args s).1 := by
  unfold ruleClearPeerMarkers
  split
  · exact h
  · exact law_updatePeer _ _ (fun _ => rfl) h

theorem law_ruleReadEvent (args : List Byte) (s : State) (h : Law w s) : Law w (ruleReadEvent args s).1 := by
  unfold ruleReadEvent
  split
  · exact h
  · dsimp only
    exact law_modHpi _ rfl (List.length_eraseP_le.trans h.events) h.waiting h.elevated h

theorem law_ruleReadVisitLog (args : List Byte) (s : State) (h : Law w s) : Law w (ruleReadVisitLog args s).1 := by
  unfold ruleReadVisitLog
  split
  · exact h
  · split <;> exact h

theorem law_ruleReadTestResult (args : List Byte) (s : State) (h : Law w s) : Law w (ruleReadTestResult args s).1 := by
  simp [ruleReadTestResult, h]

theorem law_ruleSilenceHorn (args : List Byte) (s : State) (h : Law w s) : Law w (ruleSilenceHorn args s).1 :=
  law_modClu (fun c => { c with horn := false, hornTimer := none }) rfl h

/-! ## The commands that act on the cabinet -/

theorem law_ruleTransfer (args : List Byte) (s : State) (h : Law w s) : Law w (ruleTransfer args s).1 := by
  unfold ruleTransfer
  split
  · exact h
  · split <;> simp [h]

theorem law_ruleForceBypass (args : List Byte) (s : State) (h : Law w s) : Law w (ruleForceBypass args s).1 := by
  unfold ruleForceBypass
  split <;> simp [h]

theorem law_ruleJoin (args : List Byte) (s : State) (h : Law w s) : Law w (ruleJoin args s).1 := by
  unfold ruleJoin
  split <;> simp [h]

theorem law_beginRun (single : Bool) (h : Law w s) : Law w (beginRun single s) :=
  law_takeClaimRequest _ (law_modTsq _ (law_modBau_rest _ rfl h))

theorem law_ruleRunTest (args : List Byte) (s : State) (h : Law w s) : Law w (ruleRunTest args s).1 := by
  unfold ruleRunTest
  repeat' split
  all_goals first | exact h | exact law_settle (law_beginRun _ h)

theorem law_ruleContinueTest (args : List Byte) (s : State) (h : Law w s) : Law w (ruleContinueTest args s).1 := by
  unfold ruleContinueTest
  split <;> simp [h]

theorem law_ruleAbortTest (args : List Byte) (s : State) (h : Law w s) : Law w (ruleAbortTest args s).1 := by
  unfold ruleAbortTest
  split <;> simp [h]

theorem law_enterFirstState (v : Visit) (h : Law w s) : Law w (enterFirstState v s) := by
  unfold enterFirstState
  split <;> simp [h]

theorem law_ruleOpenVisit (args : List Byte) (s : State) (h : Law w s) : Law w (ruleOpenVisit args s).1 := by
  unfold ruleOpenVisit
  split
  · exact h
  · split
    · exact h
    · exact law_settle (law_enterFirstState _ (law_modVsm_rest _ rfl rfl (law_noteVisitNumber _ h)))

theorem law_ruleRecordTask (args : List Byte) (s : State) (h : Law w s) : Law w (ruleRecordTask args s).1 := by
  unfold ruleRecordTask
  split
  · exact h
  · split
    · exact h
    · split
      · exact h
      · split <;> simp [h]

theorem law_ruleCloseVisit (args : List Byte) (s : State) (h : Law w s) : Law w (ruleCloseVisit args s).1 := by
  unfold ruleCloseVisit
  split
  · exact h
  · split
    case h_7 => split <;> simp [h]
    all_goals simp [h]

theorem law_ruleCancelVisit (args : List Byte) (s : State) (h : Law w s) : Law w (ruleCancelVisit args s).1 := by
  unfold ruleCancelVisit
  split
  · exact h
  · have released := law_releaseKind .service h
    split <;> simp [h, released]

theorem law_ruleClearAlarmInput (args : List Byte) (s : State) (h : Law w s) :
    Law w (ruleClearAlarmInput args s).1 := by
  unfold ruleClearAlarmInput
  split
  · exact law_modClu (fun c => { c with alarmLatch := false }) rfl h
  · exact h

/-! ## The windows of the host port -/

@[simp] theorem law_cmdUnknown (code : Byte) (window : List Byte) (h : Law w s) : Law w (cmdUnknown code window s) := by
  simp [cmdUnknown, h]

@[simp] theorem law_cmdSetFloor (x : List Byte) (h : Law w s) : Law w (cmdSetFloor x s) :=
  law_hostCommand _ _ _ _ law_ruleSetFloor h
@[simp] theorem law_cmdSetCabinet (x : List Byte) (h : Law w s) : Law w (cmdSetCabinet x s) :=
  law_hostCommand _ _ _ _ law_ruleSetCabinet h
@[simp] theorem law_cmdLoadAgeingTable (x : List Byte) (h : Law w s) : Law w (cmdLoadAgeingTable x s) :=
  law_hostCommand _ _ _ _ law_ruleLoadAgeingTable h
@[simp] theorem law_cmdSetProfile (x : List Byte) (h : Law w s) : Law w (cmdSetProfile x s) :=
  law_hostCommand _ _ _ _ law_ruleSetProfile h
@[simp] theorem law_cmdLoadCarryRecord (x : List Byte) (h : Law w s) : Law w (cmdLoadCarryRecord x s) :=
  law_hostCommand _ _ _ _ law_ruleLoadCarryRecord h
@[simp] theorem law_cmdStart (x : List Byte) (h : Law w s) : Law w (cmdStart x s) :=
  law_hostCommand _ _ _ _ law_ruleStart h
@[simp] theorem law_cmdReadStatus (x : List Byte) (h : Law w s) : Law w (cmdReadStatus x s) :=
  law_hostCommand _ _ _ _ (fun _ _ k => k) h
@[simp] theorem law_cmdReadFloor (x : List Byte) (h : Law w s) : Law w (cmdReadFloor x s) :=
  law_hostCommand _ _ _ _ (fun _ _ k => k) h
@[simp] theorem law_cmdReadPeer (x : List Byte) (h : Law w s) : Law w (cmdReadPeer x s) :=
  law_hostCommand _ _ _ _ law_ruleReadPeer h
@[simp] theorem law_cmdClearPeerMarkers (x : List Byte) (h : Law w s) : Law w (cmdClearPeerMarkers x s) :=
  law_hostCommand _ _ _ _ law_ruleClearPeerMarkers h
@[simp] theorem law_cmdReadEvent (x : List Byte) (h : Law w s) : Law w (cmdReadEvent x s) :=
  law_hostCommand _ _ _ _ law_ruleReadEvent h
@[simp] theorem law_cmdReadCarryRecord (x : List Byte) (h : Law w s) : Law w (cmdReadCarryRecord x s) :=
  law_hostCommand _ _ _ _ (fun _ _ k => k) h
@[simp] theorem law_cmdReadDues (x : List Byte) (h : Law w s) : Law w (cmdReadDues x s) :=
  law_hostCommand _ _ _ _ (fun _ _ k => k) h
@[simp] theorem law_cmdReadVisitLog (x : List Byte) (h : Law w s) : Law w (cmdReadVisitLog x s) :=
  law_hostCommand _ _ _ _ law_ruleReadVisitLog h
@[simp] theorem law_cmdReadTestResult (x : List Byte) (h : Law w s) : Law w (cmdReadTestResult x s) :=
  law_hostCommand _ _ _ _ law_ruleReadTestResult h
@[simp] theorem law_cmdSilenceHorn (x : List Byte) (h : Law w s) : Law w (cmdSilenceHorn x s) :=
  law_hostCommand _ _ _ _ law_ruleSilenceHorn h
@[simp] theorem law_cmdRestart (x : List Byte) (h : Law w s) : Law w (cmdRestart x s) :=
  law_hostCommand _ _ _ _ law_ruleRestart h
@[simp] theorem law_cmdTransfer (x : List Byte) (h : Law w s) : Law w (cmdTransfer x s) :=
  law_hostCommand _ _ _ _ law_ruleTransfer h
@[simp] theorem law_cmdForceBypass (x : List Byte) (h : Law w s) : Law w (cmdForceBypass x s) :=
  law_hostCommand _ _ _ _ law_ruleForceBypass h
@[simp] theorem law_cmdJoin (x : List Byte) (h : Law w s) : Law w (cmdJoin x s) :=
  law_hostCommand _ _ _ _ law_ruleJoin h
@[simp] theorem law_cmdRunTest (x : List Byte) (h : Law w s) : Law w (cmdRunTest x s) :=
  law_hostCommand _ _ _ _ law_ruleRunTest h
@[simp] theorem law_cmdContinueTest (x : List Byte) (h : Law w s) : Law w (cmdContinueTest x s) :=
  law_hostCommand _ _ _ _ law_ruleContinueTest h
@[simp] theorem law_cmdAbortTest (x : List Byte) (h : Law w s) : Law w (cmdAbortTest x s) :=
  law_hostCommand _ _ _ _ law_ruleAbortTest h
@[simp] theorem law_cmdOpenVisit (x : List Byte) (h : Law w s) : Law w (cmdOpenVisit x s) :=
  law_hostCommand _ _ _ _ law_ruleOpenVisit h
@[simp] theorem law_cmdRecordTask (x : List Byte) (h : Law w s) : Law w (cmdRecordTask x s) :=
  law_hostCommand _ _ _ _ law_ruleRecordTask h
@[simp] theorem law_cmdCloseVisit (x : List Byte) (h : Law w s) : Law w (cmdCloseVisit x s) :=
  law_hostCommand _ _ _ _ law_ruleCloseVisit h
@[simp] theorem law_cmdCancelVisit (x : List Byte) (h : Law w s) : Law w (cmdCancelVisit x s) :=
  law_hostCommand _ _ _ _ law_ruleCancelVisit h
@[simp] theorem law_cmdClearAlarmInput (x : List Byte) (h : Law w s) : Law w (cmdClearAlarmInput x s) :=
  law_hostCommand _ _ _ _ law_ruleClearAlarmInput h

theorem law_takeFrame (code : Byte) (window : List Byte) (h : Law w s) : Law w (takeFrame code window s) := by
  unfold takeFrame
  split <;> simp [h]

theorem law_takeWindow (frame : List Byte) (h : Law w s) : Law w (takeWindow frame s) := by
  unfold takeWindow
  split
  · exact h
  · split
    · exact h
    · exact law_takeFrame _ _ h

/-- A command that goes unanswered is taken while a frame waits, and leaves the slot empty (R167). -/
theorem law_takeUnanswered (frame next : List Byte) (h : Law none s) : Law none (takeUnanswered frame next s) := by
  have waits : Law (some next) (setWaiting (some next) s) := law_modHpi _ rfl h.events rfl h.elevated h
  have taken := law_takeWindow frame waits
  exact law_modHpi _ rfl taken.events rfl taken.elevated taken

theorem law_waitingSlotTake (windows : WaitingWindows) (h : Law none s) : Law none (waitingSlotTake windows s) := by
  unfold waitingSlotTake
  split
  · exact takeRounds_keeps (fun frame _ _ k => law_takeWindow frame k)
      (fun frame next _ k => law_takeUnanswered frame next k) _ _ _ h
  · exact h

theorem law_readWindow (n : Nat) (h : Law w s) : Law w (readWindow n s) := law_buffers _ rfl h

end Sys2Proof.Machine
end

section
/-! Every step keeps the law: the rows of the line, the peers, the clock and the terms; then the whole of `exec`. -/

namespace Sys2Proof.Machine

variable {w : Option (List Byte)} {s : State}

/-! ## The floor line -/

theorem law_lineIdle (h : Law w s) : Law w (lineIdle s) := by
  refine law_line _ ?_ (fun l => ?_) h
  · split <;> rfl
  · split
    · exact h.attempt l
    · exact h.attempt l

theorem law_startBitSensed (h : Law w s) : Law w (startBitSensed s) := by
  refine law_line _ ?_ (fun l => ?_) h
  · split <;> rfl
  · split <;> exact h.attempt l

/-- An attempt starts in ACTIVE alone (R7). -/
theorem attemptAt_active {slot : Nat} {now : FloorTime} {l : Link} {a : Attempt} (e : attemptAt slot now l = some a) :
    l.state = .active := by
  unfold attemptAt at e
  split at e
  · cases e
  · split at e
    · cases e
    · split at e
      · exact (‹_ ∧ _› : _ ∧ _).1
      · cases e

theorem law_slotAttempt (slot : Fin 64) (h : Law w s) : Law w (slotAttempt slot s) := by
  unfold slotAttempt
  split
  · rename_i a e
    exact law_line _ rfl (fun l => by simp [attemptAt_active e] at l) h
  · exact h

theorem law_afterMismatch (x : Mismatch) (a : Attempt) (h : Law w s) : Law w (s.modLink (afterMismatch x a)) := by
  cases x with
  | sensedDominant => exact law_line _ rfl (fun _ => rfl) h
  | sensedRecessive idle => cases idle <;> exact law_line _ rfl (fun _ => rfl) h

/-- A change of what the queues hold keeps the law where it keeps their bounds. -/
theorem law_queues (f : Link → Link) (hf : { f s.link with
      urgent := s.link.urgent, coord := s.link.coord, status := s.link.status, heldStatus := s.link.heldStatus
      congestionReported := s.link.congestionReported } = s.link)
    (hu : (f s.link).urgent.length ≤ s.link.urgent.length) (hc : Bounded (s.modLink f)) (h : Law w s) :
    Law w (s.modLink f) := by
  have e := fun {α} (g : Link → α) => congrArg g hf
  have state : (f s.link).state = s.link.state := e (·.state)
  have attempt : (f s.link).attempt = s.link.attempt := e (·.attempt)
  have station : (f s.link).station = s.link.station := e (·.station)
  exact { h with
    urgent := hu.trans h.urgent
    coord := hc.1
    congest := hc.2.1
    listen := by simpa only [State.modLink_link, State.modLink_hpi, state] using h.listen
    attempt := by simpa only [State.modLink_link, state, attempt] using h.attempt
    peers := by simpa only [State.modLink_link, State.modLink_peers, station] using h.peers }

/-- The congestion-reported flag after the queue has changed (R13). -/
theorem settleCongestion_eq (l : Link) : settleCongestion l
    = { l with congestionReported := l.congestionReported && !decide (l.coord.length < coordDepth) } := by
  unfold settleCongestion
  split <;> rename_i room <;> simp [room]

theorem law_removeHead (c : TxClass) (h : Law w s) : Law w (s.modLink (removeHead c)) := by
  cases c with
  | urgent =>
    exact law_queues _ rfl (by simp [removeHead]) (bounded_modLink _ rfl rfl h.bounded) h
  | coord =>
    refine law_queues _ ?_ ?_ (bounded_settleCongestion _ (by simp) h.bounded) h
    · rw [removeHead, settleCongestion_eq]
    · rw [removeHead, settleCongestion_eq]
  | status => exact law_queues _ rfl (le_refl _) (bounded_modLink _ rfl rfl h.bounded) h

theorem law_putHead (c : TxClass) (e e' : TxEntry) (head : headOf c s.link = some e) (h : Law w s) :
    Law w (s.modLink (putHead c e')) := by
  cases c with
  | urgent =>
    have same : (putHead .urgent e' s.link).urgent.length = s.link.urgent.length := by
      obtain ⟨rest, l⟩ := List.head?_eq_some_iff.mp head
      simp [putHead, l]
    exact law_queues _ rfl same.le (bounded_modLink _ rfl rfl h.bounded) h
  | coord =>
    have same : (putHead .coord e' s.link).coord.length = s.link.coord.length := by
      obtain ⟨rest, l⟩ := List.head?_eq_some_iff.mp head
      simp [putHead, l]
    refine law_queues _ rfl (le_refl _) ⟨same.trans_le h.coord, fun c => same.trans (h.congest c), h.life⟩ h
  | status => exact law_queues _ rfl (le_refl _) (bounded_modLink _ rfl rfl h.bounded) h

/-- The link state moves between ACTIVE and the two mutes. -/
theorem law_linkState (f : Link → Link) (hf : { f s.link with state := s.link.state, muteTimer := s.link.muteTimer }
      = s.link) (awake : s.link.state ≠ .listen) (hs : (f s.link).state ≠ .listen) (h : Law w s) :
    Law w (s.modLink f) := by
  have e := fun {α} (g : Link → α) => congrArg g hf
  have coord : (f s.link).coord = s.link.coord := e (·.coord)
  have reported : (f s.link).congestionReported = s.link.congestionReported := e (·.congestionReported)
  have station : (f s.link).station = s.link.station := e (·.station)
  have urgent : (f s.link).urgent = s.link.urgent := e (·.urgent)
  exact { h with
    urgent := (congrArg List.length urgent).trans_le h.urgent
    coord := (congrArg List.length coord).trans_le h.coord
    congest := by simpa only [State.modLink_link, coord, reported] using h.congest
    listen := iff_of_false hs fun r => awake (h.listen.mpr r)
    attempt := fun l => absurd l hs
    peers := by simpa only [State.modLink_link, State.modLink_peers, station] using h.peers }

theorem quiet_reportFailure (m : Msg) {r : State} (h : Quiet r s) : Quiet r (reportFailure m s) := by
  unfold reportFailure
  split
  · split <;> simp [h]
  · split <;> simp [h]
  · split
    · split <;> simp [h]
    · exact h
  · exact h

theorem bounded_reportFailure (m : Msg) (h : Bounded s) : Bounded (reportFailure m s) := by
  unfold reportFailure
  split
  · split <;> simp [h]
  · split <;> simp [h]
  · split
    · split <;> simp [h]
    · exact h
  · exact h

theorem law_failEntry (c : TxClass) (e : TxEntry) (head : headOf c s.link = some e) (awake : s.link.state ≠ .listen)
    (h : Law w s) : Law w (failEntry c e s) := by
  have removed := law_removeHead c h
  have still : (removeHead c s.link).state = s.link.state := by
    cases c
    case coord => rw [removeHead, settleCongestion_eq]
    all_goals rfl
  unfold failEntry
  dsimp only
  split
  · have told : ∀ t, Law w t → t.link.state = s.link.state → Law w (muteForFailures e.msg t) := fun t k same =>
      law_raise _ _ (law_linkState _ rfl (by rwa [same]) (by simp) k)
    split
    · exact told _ removed still
    · have q := quiet_reportFailure e.msg (quiet_refl (s.modLink (removeHead c)))
      exact told _ (removed.of_quiet q (bounded_reportFailure _ removed.bounded)) (q.linkState.trans still)
  · split
    · exact removed
    · exact law_putHead c e _ head h

/-- The link after a readback mismatch keeps its queues and its state. -/
theorem afterMismatch_frame (x : Mismatch) (a : Attempt) (l : Link) :
    { afterMismatch x a l with
      attempt := l.attempt, lastTransmitter := l.lastTransmitter, lineIdle := l.lineIdle, rx := l.rx } = l := by
  cases x with
  | sensedDominant => rfl
  | sensedRecessive idle => cases idle <;> rfl

theorem headOf_afterMismatch (c : TxClass) (x : Mismatch) (a : Attempt) (l : Link) :
    headOf c (afterMismatch x a l) = headOf c l := by
  have e := fun {α} (g : Link → α) => congrArg g (afterMismatch_frame x a l)
  cases c
  · exact congrArg List.head? (e (·.urgent))
  · exact congrArg List.head? (e (·.coord))
  · exact e (·.status)

theorem law_attemptFailed (x : Mismatch) (h : Law w s) : Law w (attemptFailed x s) := by
  unfold attemptFailed
  split
  · exact h
  · rename_i a tries
    have awake : s.link.state ≠ .listen := fun l => by simp [h.attempt l] at tries
    have freed := law_afterMismatch x a h
    split
    · exact freed
    · rename_i e head
      refine law_settle (law_failEntry _ e ?_ ?_ freed)
      · simpa [headOf_afterMismatch] using head
      · exact fun l => awake ((congrArg Link.state (afterMismatch_frame x a s.link)).symm.trans l)

@[simp] theorem law_statusSent (t : FloorTime) (h : Law w s) : Law w (statusSent t s) := by
  simp [statusSent, h]

@[simp] theorem law_proposeSent (sq : Byte) (e : TxEntry) (h : Law w s) : Law w (proposeSent sq e s) := by
  unfold proposeSent
  split
  · simp [h]
  · split
    · split <;> simp [h]
    · exact h
  · exact h

@[simp] theorem law_orderSent (i : PropId) (h : Law w s) : Law w (orderSent i s) := by
  unfold orderSent
  split
  · split <;> simp [h]
  · exact h

@[simp] theorem law_claimSent (k : ClaimKind) (t : FloorTime) (e : TxEntry) (h : Law w s) :
    Law w (claimSent k t e s) := by
  unfold claimSent
  split
  · split <;> simp [h]
  · simp [h]

theorem law_reportSent (e : TxEntry) (t : FloorTime) (h : Law w s) : Law w (reportSent e t s) := by
  unfold reportSent
  split <;> simp [h]

theorem law_attemptComplete (h : Law w s) : Law w (attemptComplete s) := by
  have freed : ∀ t, Law w t → Law w (t.modLink fun l => { l with attempt := none, lastTransmitter := true }) :=
    fun t k => law_line _ rfl (fun _ => rfl) k
  unfold attemptComplete
  split
  · exact h
  · split
    · exact freed _ h
    · exact law_settle (law_reportSent _ _ (freed _ (law_removeHead _ h)))

theorem law_duplicateHeard (h : Law w s) : Law w (duplicateHeard s) := by
  have mutes : s.link.state ≠ .listen → Law w (muteForDuplicate s) := fun awake =>
    law_raise _ _ (law_linkState _ rfl (by simpa using awake) (by simp) (law_raise _ _ h))
  unfold duplicateHeard
  split
  · split
    · exact h
    · exact law_raise _ _ (law_line _ rfl h.attempt h)
  · exact mutes (by simp [*])
  · exact mutes (by simp [*])
  · exact h

theorem law_duplicateStatus (frame : List Byte) (h : Law w s) : Law w (duplicateStatus frame s) := by
  unfold duplicateStatus
  split
  · exact law_duplicateHeard (law_endReception h)
  · exact law_endReception h

theorem law_muteTimerExpiry (h : Law w s) : Law w (muteTimerExpiry s) := by
  unfold muteTimerExpiry
  split
  · rename_i ended
    refine law_raise _ _ { h with urgent := ?_, coord := ?_, congest := ?_, listen := ?_, attempt := ?_ }
    · simpa using h.urgent
    · simpa using h.coord
    · simpa using h.congest
    · have running := h.listen.not.mp (by simp [ended.1])
      simpa using running
    · simp
  · exact h

/-! ## The peer table -/

@[simp] theorem law_markPeer (p : Station) (k : Marker) (h : Law w s) : Law w (markPeer p k s) := by
  unfold markPeer
  split
  · exact h
  · rename_i e _
    have marked := law_updatePeer p (fun e => { e with markers := e.markers.set k }) (fun _ => rfl) h
    dsimp only
    split
    · exact marked
    · exact law_raise _ _ marked

@[simp] theorem law_setPeerClaim (p : Station) (c : Option ShownClaim) (t : Option Ticks) (h : Law w s) :
    Law w (setPeerClaim p c t s) := by
  unfold setPeerClaim
  split
  · exact h
  · have held := law_updatePeer p (fun e => { e with claim := c, claimTimer := t }) (fun _ => rfl) h
    dsimp only
    split
    · exact held
    · exact law_markPeer _ _ held

theorem law_markStatus (e : Peer) (m : StatusMsg) (h : Law w s) : Law w (markStatus e m s) := by
  simp [markStatus, h]

theorem law_applyStatus (e : Peer) (m : StatusMsg) (t : FloorTime) (h : Law w s) : Law w (applyStatus e m t s) := by
  have written := law_updatePeer e.station (writeEntry m t s.hpi.floor.linkDelay) (fun _ => rfl) h
  have marked : ∀ u, Law w u → Law w (markStatus e m u) := fun u => law_markStatus e m
  unfold applyStatus
  dsimp only
  have entered : Law w (markStatus e m
      (if e.presence = .joining ∨ e.presence = .stale then
        markPeer e.station .presence (updatePeer e.station (writeEntry m t s.hpi.floor.linkDelay) s)
      else updatePeer e.station (writeEntry m t s.hpi.floor.linkDelay) s)) := marked _ (by simp [written])
  split
  · exact law_setPeerClaim _ _ _ entered
  · exact entered

@[simp] theorem law_setSplit (p : Station) (n : Nat) (h : Law w s) : Law w (setSplit p n s) := law_modTrc _ h

theorem law_countSplit (p : Station) (m : StatusMsg) (h : Law w s) : Law w (countSplit p m s) := by
  have counted := law_setSplit p (s.trc.splits.get p + 1) h
  simp [countSplit, h, counted]

theorem law_statusReceived (frame : List Byte) (h : Law w s) : Law w (statusReceived frame s) := by
  have ended := law_endReception h
  unfold statusReceived
  split
  · unfold takeStatus
    split
    · exact ended
    · have taken := law_settle (law_applyStatus ‹_› ‹_› ‹_› ended)
      dsimp only
      split
      · exact law_settle (law_countSplit _ _ taken)
      · exact taken
  · exact ended

theorem law_goStale (p : Station) (h : Law w s) : Law w (goStale p s) :=
  law_settle (law_excuseMember _ (law_setSplit _ _ (law_setPeerClaim _ _ _ (law_markPeer _ _
    (law_updatePeer p _ (fun _ => rfl) h)))))

theorem findPeer_station {p : Station} {e : Peer} (h : findPeer p s = some e) : e.station = p := by
  simpa using List.find?_some h

theorem law_clearEntry (p : Station) (h : Law w s) : Law w (clearEntry p s) := by
  refine law_modPeers _ ?_ h
  rw [List.map_map]
  refine List.map_congr_left fun e _ => ?_
  simp only [Function.comp_apply]
  split
  · exact Eq.symm ‹_›
  · rfl

theorem law_presenceTimerExpiry (p : Station) (h : Law w s) : Law w (presenceTimerExpiry p s) := by
  unfold presenceTimerExpiry
  repeat' split
  all_goals first | exact h | exact law_clearEntry p h | exact law_goStale p h

theorem law_staleTimerExpiry (p : Station) (h : Law w s) : Law w (staleTimerExpiry p s) := by
  unfold staleTimerExpiry
  split
  · exact h
  · simp [h, law_clearEntry]

theorem law_claimTimerExpiry (p : Station) (h : Law w s) : Law w (claimTimerExpiry p s) := by
  unfold claimTimerExpiry
  split
  · exact h
  · simp [h]

/-! ## Floor time -/

theorem law_referenceTick (h : Law w s) : Law w (referenceTick s) := by
  refine law_modFtu _ { h with peers := ?_, life := ?_ }
  · have stations : (s.peers.map Peer.tick).map (·.station) = s.peers.map (·.station) := by
      simp [Peer.tick, Function.comp_def]
    exact stations.trans h.peers
  · have same : (s.bau.tick s.hpi.running).carry = s.bau.carry := by unfold Bau.tick; split <;> rfl
    simpa [tickTimers, same] using h.life

theorem law_slewTick (h : Law w s) : Law w (slewTick s) := by simp [slewTick, h, law_referenceTick]

theorem law_moveTime (mean : Int) (h : Law w s) : Law w (moveTime mean s) := by
  unfold moveTime
  split
  · refine law_modPeers _ ?_ (law_modFtu _ h)
    rw [List.map_map]
    refine List.map_congr_left fun e _ => ?_
    simp only [Function.comp_apply]
    split <;> rfl
  · exact law_modFtu _ h

theorem law_setAlign (x : Align × Nat) (mean : Int) (h : Law w s) : Law w (setAlign x mean s) := by
  simp [setAlign, h]

theorem law_evaluateFloorTime (h : Law w s) : Law w (evaluateFloorTime s) := by
  have faded : ∀ t, Law w t → Law w (fade t) := fun t k => law_modPeers _ (by simp [Function.comp_def]) k
  unfold evaluateFloorTime
  split
  · exact faded _ (law_setAlign _ _ (law_modFtu _ h))
  · exact faded _ (law_setAlign _ _ (law_moveTime _ h))

theorem law_executeReached (h : Law w s) : Law w (executeReached s) := by
  unfold executeReached
  split <;> simp [h]

theorem law_boundaryEvaluation (h : Law w s) : Law w (boundaryEvaluation s) := by
  have evaluated := law_settle (law_queueStatus (law_evaluateFloorTime (law_modFtu
    (fun f => { f with boundaryDue := false }) h)))
  simp [boundaryEvaluation, h, evaluated, law_executeReached]

/-! ## Messages heard -/

theorem law_answerProposal (p : HeardProposal) (h : Law w s) : Law w (answerProposal p s) := by
  unfold answerProposal
  split
  · exact law_postCoord _ h
  · exact law_modTrc _ (law_setActivity _ (law_postCoord _ h))

theorem law_supersede (i : PropId) (r : ProposalRec) (h : Law w s) : Law w (supersede i r s) := by
  simp [supersede, h]

theorem law_takePropose (p : HeardProposal) (h : Law w s) : Law w (takePropose p s) := by
  have busy : Law w (objectBusy p s) := law_postCoord _ h
  unfold takePropose
  split
  · exact h
  · split
    · exact law_answerProposal _ h
    · split
      · exact law_answerProposal _ (law_supersede _ _ h)
      · exact busy
    · split
      · exact h
      · split
        · exact law_answerProposal _ (law_dropProposal _ _ h)
        · exact busy
    all_goals first | exact h | exact busy

theorem law_takeConsent (p : Station) (i : PropId) (h : Law w s) : Law w (takeConsent p i s) := by
  unfold takeConsent
  split
  · simp [h]
  · exact h

theorem law_takeTransferObject (p : Station) (i : PropId) (b : Byte) (h : Law w s) :
    Law w (takeTransferObject p i b s) := by
  unfold takeTransferObject
  split
  · simp [h]
  · exact h

theorem law_takeOrder (i : PropId) (h : Law w s) : Law w (takeOrder i s) := by
  unfold takeOrder
  split
  · simp [h]
  · exact h

theorem law_takeCancel (i : PropId) (h : Law w s) : Law w (takeCancel i s) := by
  unfold takeCancel
  split <;> simp [h]

theorem law_takeForce (p : Station) (b : Byte) (h : Law w s) : Law w (takeForce p b s) := by
  simp [takeForce, h]

theorem law_takeClaim (p : Station) (k : ClaimKind) (t : FloorTime) (h : Law w s) : Law w (takeClaim p k t s) := by
  have yielded : Law w (yieldClaim p k t s) := by
    unfold yieldClaim
    split
    · simp [h]
    · exact h
  unfold takeClaim judgeClaim
  split
  · split <;> simp [yielded]
  · exact h

theorem law_takeClaimObject (p c : Station) (t : FloorTime) (b : Byte) (h : Law w s) :
    Law w (takeClaimObject p c t b s) := by
  unfold takeClaimObject
  split
  · simp [h]
  · exact h

theorem law_proposeReceived (frame : List Byte) (h : Law w s) : Law w (proposeReceived frame s) := by
  unfold proposeReceived
  split
  · exact law_settle (law_takePropose _ (law_endReception h))
  · exact law_endReception h

theorem law_consentReceived (frame : List Byte) (h : Law w s) : Law w (consentReceived frame s) := by
  unfold consentReceived
  split
  · exact law_settle (law_takeConsent _ _ (law_endReception h))
  · exact law_endReception h

theorem law_transferObjectReceived (frame : List Byte) (h : Law w s) : Law w (transferObjectReceived frame s) := by
  unfold transferObjectReceived
  split
  · exact law_settle (law_takeTransferObject _ _ _ (law_endReception h))
  · exact law_endReception h

theorem law_orderReceived (frame : List Byte) (h : Law w s) : Law w (orderReceived frame s) := by
  unfold orderReceived
  split
  · exact law_settle (law_takeOrder _ (law_endReception h))
  · exact law_endReception h

theorem law_cancelReceived (frame : List Byte) (h : Law w s) : Law w (cancelReceived frame s) := by
  unfold cancelReceived
  split
  · exact law_settle (law_takeCancel _ (law_endReception h))
  · exact law_endReception h

theorem law_forceReceived (frame : List Byte) (h : Law w s) : Law w (forceReceived frame s) := by
  unfold forceReceived
  split
  · exact law_settle (law_takeForce _ _ (law_endReception h))
  · exact law_endReception h

theorem law_claimReceived (frame : List Byte) (h : Law w s) : Law w (claimReceived frame s) := by
  unfold claimReceived
  split
  · exact law_settle (law_takeClaim _ _ _ (law_endReception h))
  · exact law_endReception h

theorem law_claimObjectReceived (frame : List Byte) (h : Law w s) : Law w (claimObjectReceived frame s) := by
  unfold claimObjectReceived
  split
  · exact law_settle (law_takeClaimObject _ _ _ _ (law_endReception h))
  · exact law_endReception h

theorem law_releaseReceived (frame : List Byte) (h : Law w s) : Law w (releaseReceived frame s) := by
  unfold releaseReceived
  split
  · exact law_settle (law_setPeerClaim _ _ _ (law_endReception h))
  · exact law_endReception h

/-! ## Lines -/

theorem law_lineRawChange (line : InputLine) (level : Bool) (h : Law w s) : Law w (lineRawChange line level s) := by
  refine law_modClu _ ?_ h
  cases line with
  | stage l => cases l <;> rfl
  | contact k => cases k <;> rfl
  | fbInv => rfl
  | fbByp => rfl
  | alarmIn => rfl

theorem law_invFaultActive (h : Law w s) : Law w (invFaultActive s) := by
  unfold invFaultActive
  split <;> simp [h]

theorem law_stageChange (line : StageInput) (active : Bool) (h : Law w s) : Law w (stageChange line active s) := by
  cases line <;> simp [stageChange, stopOverload, h, law_invFaultActive]

theorem law_stageInputQualified (line : StageInput) (h : Law w s) : Law w (stageInputQualified line s) := by
  have qualified : Law w (s.modClu fun c => c.stage line LineIn.qualified) :=
    law_modClu _ (by cases line <;> rfl) h
  simp [stageInputQualified, h, qualified, law_stageChange]

theorem law_unsolicited (before after : FbMode) (h : Law w s) : Law w (unsolicited before after s) := by
  have returned : Law w (queueStatus (setOwnMode s.clu.modeCmd s)) := law_queueStatus (law_setOwnMode _ h)
  simp [unsolicited, stageReturns, h, returned]

theorem law_feedbackChange (before after : FbMode) (h : Law w s) : Law w (feedbackChange before after s) := by
  have alone := law_unsolicited before after h
  unfold feedbackChange
  split <;> simp [h, alone]

theorem law_feedbackQualified (h : Law w s) : Law w (feedbackQualified s) := by
  have qualified : Law w (s.modClu fun c =>
      { c with fb := { c.fb with qual := rawFeedback s.clu.fb, timer := none } }) :=
    law_modClu _ rfl h
  simp [feedbackQualified, h, qualified, law_feedbackChange]

theorem law_visitContact (k : Contact) (closed : Bool) (h : Law w s) : Law w (visitContact k closed s) := by
  unfold visitContact
  split <;> simp [h]

theorem law_contactChange (k : Contact) (closed : Bool) (h : Law w s) : Law w (contactChange k closed s) := by
  have checked : Law w (checkInterlock k closed s) := by
    unfold checkInterlock
    split
    · exact law_raise _ _ h
    · exact h
  have visited := law_visitContact k closed checked
  simp [contactChange, maintContact, visited]

theorem law_contactQualified (k : Contact) (h : Law w s) : Law w (contactQualified k s) := by
  have qualified : Law w (s.modClu fun c => c.contact k LineIn.qualified) := law_modClu _ (by cases k <;> rfl) h
  have told := law_raise .contactChange (u8 k.code ++ levelByte (s.clu.contactLine k).raw) qualified
  simp [contactQualified, h, told, law_contactChange]

theorem law_alarmInputQualified (h : Law w s) : Law w (alarmInputQualified s) := by
  have qualified : Law w (s.modClu fun c => { c with alarmIn := c.alarmIn.qualified }) := law_modClu _ rfl h
  have changed : ∀ t, Law w t → Law w (alarmChange t) := fun t k => by
    unfold alarmChange
    split
    · split
      · exact law_raise _ _ k
      · split
        · exact k
        · exact law_raise _ _ (law_modClu _ rfl k)
    · exact k
  simp [alarmInputQualified, h, changed, qualified]

theorem law_hornTermExpiry (h : Law w s) : Law w (hornTermExpiry s) := by
  have silent : Law w (s.modClu fun c => { c with horn := false, hornTimer := none }) := law_modClu _ rfl h
  simp [hornTermExpiry, h, silent]

/-! ## Measurements -/

theorem law_floorTest (n : Nat) (st : TestStep) (f : SenseFrame) (h : Law w s) : Law w (floorTest n st f s) := by
  have counted : Law w (s.modTsq fun t => { t with run := { t.run with floorCount := t.run.floorCount + 1 } }) :=
    law_modTsq _ h
  simp [floorTest, h, counted]

theorem law_testFrame (f : SenseFrame) (m : Nat) (h : Law w s) : Law w (testFrame f m s) := by
  unfold testFrame
  split
  · exact h
  · split
    · unfold frameInStep
      split
      · exact law_endRun _ h
      · dsimp only
        split
        · exact law_floorTest _ _ _ (law_modTsq _ h)
        · exact law_modTsq _ h
    all_goals simp [h]

theorem law_validSenseFrame (frame : List Byte) (h : Law w s) : Law w (validSenseFrame frame s) := by
  have live : ∀ f, Law w (goLive f s) := fun f => by
    unfold goLive
    dsimp only
    split <;> simp [h]
  unfold validSenseFrame
  split
  · exact law_settle (law_testFrame _ _ (law_accountFrame _ _ _ (law_modSns _ (live _))))
  · exact h
  · exact h

theorem law_senseStaleTimeout (h : Law w s) : Law w (senseStaleTimeout s) := by
  unfold senseStaleTimeout
  split
  · exact law_settle (law_abortRun _ (law_modBau_rest _ rfl (law_raise _ _ (law_modSns _ h))))
  · exact h

theorem law_senseLostTimeout (h : Law w s) : Law w (senseLostTimeout s) := by
  unfold senseLostTimeout
  split
  · exact law_settle (law_raise _ _ (law_modSns _ h))
  · exact h

/-- The minutes and the divider stand outside `Quiet`: an operating minute keeps the law by its parts. -/
theorem law_operatingMinute (h : Law w s) : Law w (operatingMinute s) := by
  have counted := law_modBau_rest (fun b => { b with minutes := min max32 (b.minutes + 1) }) rfl h
  have aged := counted.of_quiet (quiet_addLife (bandWeight s) (quiet_refl _)) (bounded_addLife _ counted.bounded)
  have minuted := law_modBau_rest (fun b => { b with
    carry := { b.carry with
      minTest := min max32 (b.carry.minTest + 1), minVisit := min max32 (b.carry.minVisit + 1) } }) rfl aged
  exact law_evaluateDues (minuted.of_quiet (quiet_refreshRuntime (quiet_refreshWeak (quiet_recomputeHealth
    (quiet_refl _)))) (bounded_refreshRuntime (bounded_refreshWeak (bounded_recomputeHealth minuted.bounded))))

theorem law_minuteCompleted (h : Law w s) : Law w (minuteCompleted s) := by
  unfold minuteCompleted
  split
  · exact law_settle (law_operatingMinute (law_modBau_rest _ rfl h))
  · exact h

/-! ## Terms -/

theorem law_proposeLate (h : Law w s) : Law w (proposeLate s) := by
  unfold proposeLate
  split
  · simp [h]
  · exact h

theorem law_orderLate (h : Law w s) : Law w (orderLate s) := by
  unfold orderLate
  split
  · simp [h]
  · exact h

theorem law_orderMissed (h : Law w s) : Law w (orderMissed s) := by
  unfold orderMissed
  split
  · split
    · exact law_settle (law_raise _ _ (law_dropProposal _ _ h))
    · exact h
  · exact h

theorem law_responseWindowExpiry (h : Law w s) : Law w (responseWindowExpiry s) := by
  unfold responseWindowExpiry
  split
  · simp [h]
  · exact h

theorem law_switchTimeout (h : Law w s) : Law w (switchTimeout s) := by
  unfold switchTimeout
  split
  · split
    · exact law_settle (law_raise _ _ (law_modTrc _ (law_setActivity _ h)))
    · exact h
  all_goals exact h

theorem law_holdExpiry (h : Law w s) : Law w (holdExpiry s) := by simp [holdExpiry, h]

theorem law_overloadTimeout (h : Law w s) : Law w (overloadTimeout s) := by
  have stopped : Law w (stopOverload s) := law_modTrc _ h
  simp [overloadTimeout, h, stopped]

theorem law_claimQueueTimeout (h : Law w s) : Law w (claimQueueTimeout s) := by
  unfold claimQueueTimeout
  split
  · simp [h]
  · exact h

theorem law_claimWindowExpiry (h : Law w s) : Law w (claimWindowExpiry s) := by
  unfold claimWindowExpiry
  split
  · split
    · unfold checkOwnClaim
      split <;> simp [h]
    · exact h
  · exact h

theorem law_stepDone (n : Nat) (h : Law w s) : Law w (stepDone n s) := by
  have paused : ∀ t, Law w t → Law w (pauseRun n t) := fun t k => law_modClu _ rfl (law_modTsq _ k)
  have told := law_raise .testStep (u16 s.tsq.run.number ++ u8 n ++ captureItem (stepCapture n s))
    (law_modTsq (fun t => { t with run := { t.run with completed := t.run.completed + 1 } }) (law_takeCapture n h))
  unfold stepDone
  dsimp only
  split
  · exact law_endRun _ told
  · split
    · exact paused _ told
    · exact law_enterStep _ told

theorem law_testStepTimerExpiry (h : Law w s) : Law w (testStepTimerExpiry s) := by
  unfold testStepTimerExpiry
  split <;> simp [h, law_stepDone]

theorem law_pauseTimerExpiry (h : Law w s) : Law w (pauseTimerExpiry s) := by
  unfold pauseTimerExpiry
  split <;> simp [h]

theorem law_visitStepTimeout (h : Law w s) : Law w (visitStepTimeout s) := by
  have released := law_releaseKind .service h
  unfold visitStepTimeout
  split
  · split <;> simp [h, released]
  · exact h

theorem law_joinRetryExpiry (h : Law w s) : Law w (joinRetryExpiry s) := by
  have asked := law_modVisit (fun v => { v with retryTimer := none }) h
  simp [joinRetryExpiry, h, asked]

/-! ## Every row -/

/-- Hard reset meets the law with any straps and whatever lines it samples. -/
theorem law_hardReset (station : BitVec 4) (rate : BitVec 2) (s : State) : Law none (hardReset station rate s) := by
  have sampled : Law none
      { State.reset with
        link := Link.blank (Fin.ofNat 16 station.toNat) (LineRate.ofStraps rate)
        peers := blankPeers (Fin.ofNat 16 station.toNat), clu := s.clu.resampled
        trc := { Trc.blank with ownMode := s.clu.resampled.fb.qual.adopted }, pending := s.pending } :=
    { events := Nat.zero_le _
      urgent := Nat.zero_le _
      coord := Nat.zero_le _
      congest := fun c => by cases c
      log := Nat.zero_le _
      dues := List.nodup_nil
      supv := rfl
      listen := iff_of_true rfl rfl
      attempt := fun _ => rfl
      peers := blankPeers_stations _
      waiting := rfl
      elevated := by simp [State.reset, Hpi.blank, FloorCfg.default]
      life := Nat.zero_le _ }
  unfold hardReset
  dsimp only
  split
  · exact law_raise _ _ sampled
  · exact sampled

theorem law_of_next {t u : State} (e : (.next u : Host.Outcome State Fault Refusal) = .next t) (h : Law w u) :
    Law w t := by
  cases e; exact h

/-- Each row of the table keeps the law. -/
theorem law_exec {i : Instr} {t : State} (h : Law none s) (e : exec i s = .next t) : Law none t := by
  cases i with
  | hardReset stationStraps rateStraps => exact law_of_next e (law_hardReset _ _ s)
  | readWindow clocked => exact law_of_next e (law_readWindow _ h)
  | waitingSlotTake windows => exact law_of_next e (law_waitingSlotTake _ h)
  | unknownCommand code window => exact law_of_next e (law_cmdUnknown _ _ h)
  | setFloor window => exact law_of_next e (law_cmdSetFloor _ h)
  | setCabinet window => exact law_of_next e (law_cmdSetCabinet _ h)
  | loadAgeingTable window => exact law_of_next e (law_cmdLoadAgeingTable _ h)
  | setProfile window => exact law_of_next e (law_cmdSetProfile _ h)
  | loadCarryRecord window => exact law_of_next e (law_cmdLoadCarryRecord _ h)
  | start window => exact law_of_next e (law_cmdStart _ h)
  | readStatus window => exact law_of_next e (law_cmdReadStatus _ h)
  | readFloor window => exact law_of_next e (law_cmdReadFloor _ h)
  | readPeer window => exact law_of_next e (law_cmdReadPeer _ h)
  | clearPeerMarkers window => exact law_of_next e (law_cmdClearPeerMarkers _ h)
  | readEvent window => exact law_of_next e (law_cmdReadEvent _ h)
  | readCarryRecord window => exact law_of_next e (law_cmdReadCarryRecord _ h)
  | readDues window => exact law_of_next e (law_cmdReadDues _ h)
  | readVisitLog window => exact law_of_next e (law_cmdReadVisitLog _ h)
  | readTestResult window => exact law_of_next e (law_cmdReadTestResult _ h)
  | silenceHorn window => exact law_of_next e (law_cmdSilenceHorn _ h)
  | restart window => exact law_of_next e (law_cmdRestart _ h)
  | transfer window => exact law_of_next e (law_cmdTransfer _ h)
  | forceBypass window => exact law_of_next e (law_cmdForceBypass _ h)
  | join window => exact law_of_next e (law_cmdJoin _ h)
  | runTest window => exact law_of_next e (law_cmdRunTest _ h)
  | continueTest window => exact law_of_next e (law_cmdContinueTest _ h)
  | abortTest window => exact law_of_next e (law_cmdAbortTest _ h)
  | openVisit window => exact law_of_next e (law_cmdOpenVisit _ h)
  | recordTask window => exact law_of_next e (law_cmdRecordTask _ h)
  | closeVisit window => exact law_of_next e (law_cmdCloseVisit _ h)
  | cancelVisit window => exact law_of_next e (law_cmdCancelVisit _ h)
  | clearAlarmInput window => exact law_of_next e (law_cmdClearAlarmInput _ h)
  | lineIdle => exact law_of_next e (law_lineIdle h)
  | slotAttempt slot => exact law_of_next e (law_slotAttempt _ h)
  | attemptFailed mismatch => exact law_of_next e (law_attemptFailed _ h)
  | attemptComplete => exact law_of_next e (law_attemptComplete h)
  | messageDiscarded frame => exact law_of_next e (law_endReception h)
  | ownMessageHeard frame => exact law_of_next e (law_endReception h)
  | duplicateStatus frame => exact law_of_next e (law_duplicateStatus _ h)
  | muteTimerExpiry => exact law_of_next e (law_muteTimerExpiry h)
  | statusReceived frame => exact law_of_next e (law_statusReceived _ h)
  | presenceTimerExpiry station => exact law_of_next e (law_presenceTimerExpiry _ h)
  | staleTimerExpiry station => exact law_of_next e (law_staleTimerExpiry _ h)
  | claimTimerExpiry station => exact law_of_next e (law_claimTimerExpiry _ h)
  | proposeReceived frame => exact law_of_next e (law_proposeReceived _ h)
  | consentReceived frame => exact law_of_next e (law_consentReceived _ h)
  | transferObjectReceived frame => exact law_of_next e (law_transferObjectReceived _ h)
  | orderReceived frame => exact law_of_next e (law_orderReceived _ h)
  | cancelReceived frame => exact law_of_next e (law_cancelReceived _ h)
  | forceReceived frame => exact law_of_next e (law_forceReceived _ h)
  | claimReceived frame => exact law_of_next e (law_claimReceived _ h)
  | claimObjectReceived frame => exact law_of_next e (law_claimObjectReceived _ h)
  | releaseReceived frame => exact law_of_next e (law_releaseReceived _ h)
  | floorTick => exact law_of_next e (law_referenceTick h)
  | slewTick => exact law_of_next e (law_slewTick h)
  | boundaryEvaluation => exact law_of_next e (law_boundaryEvaluation h)
  | proposeLate => exact law_of_next e (law_proposeLate h)
  | orderLate => exact law_of_next e (law_orderLate h)
  | orderMissed => exact law_of_next e (law_orderMissed h)
  | transferExecute => exact law_of_next e (law_executeReached h)
  | responseWindowExpiry => exact law_of_next e (law_responseWindowExpiry h)
  | switchTimeout => exact law_of_next e (law_switchTimeout h)
  | holdExpiry => exact law_of_next e (law_holdExpiry h)
  | overloadTimeout => exact law_of_next e (law_overloadTimeout h)
  | lineRawChange line level => exact law_of_next e (law_lineRawChange _ _ h)
  | stageInputQualified line => exact law_of_next e (law_stageInputQualified _ h)
  | feedbackQualified => exact law_of_next e (law_feedbackQualified h)
  | deadIntervalEnd => exact law_of_next e (law_modClu _ rfl h)
  | contactQualified contact => exact law_of_next e (law_contactQualified _ h)
  | alarmInputQualified => exact law_of_next e (law_alarmInputQualified h)
  | hornTermExpiry => exact law_of_next e (law_hornTermExpiry h)
  | validSenseFrame frame => exact law_of_next e (law_validSenseFrame _ h)
  | senseFrameRejected frame => exact law_of_next e (h)
  | senseStaleTimeout => exact law_of_next e (law_senseStaleTimeout h)
  | senseLostTimeout => exact law_of_next e (law_senseLostTimeout h)
  | operatingMinute => exact law_of_next e (law_minuteCompleted h)
  | claimQueueTimeout => exact law_of_next e (law_claimQueueTimeout h)
  | claimWindowExpiry => exact law_of_next e (law_claimWindowExpiry h)
  | testStepTimerExpiry => exact law_of_next e (law_testStepTimerExpiry h)
  | pauseTimerExpiry => exact law_of_next e (law_pauseTimerExpiry h)
  | visitStepTimeout => exact law_of_next e (law_visitStepTimeout h)
  | joinRetryExpiry => exact law_of_next e (law_joinRetryExpiry h)
  | startBitSensed => exact law_of_next e (law_startBitSensed h)

end Sys2Proof.Machine
end
section
/-! The law `Inv`: it holds at reset, and every step keeps it. -/

namespace Sys2Proof.Machine

/-- Settles O4: a step is a row taken on the state with the queue's rest, and each row keeps the law. -/
theorem everyStepKeepsInv : Obligations.EveryStepKeepsInv := by
  intro s t h e
  unfold step at e
  split at e
  · cases e; exact h
  · exact inv_of_law (law_exec (law_setPending _ (law_of_inv h)) e)

/-- Settles O5: the reset state is that of a hard reset with every strap and line low. -/
theorem resetStateHasInv : Obligations.ResetStateHasInv :=
  inv_of_law (law_hardReset 0#4 0#2 State.reset)

end Sys2Proof.Machine
end

section
/-! Reading rules of `told`: what commutes with it, and what the words of the statements say of a state that stands
behind the events of a list. -/

namespace Sys2Proof.Machine

variable (l : List EventSpec) (s : State)

/-! ## Changes that the events of a list do not read -/

@[simp] theorem told_modLink (f : Link → Link) : (told l s).modLink f = told l (s.modLink f) := rfl
@[simp] theorem told_modPeers (f : List Peer → List Peer) : (told l s).modPeers f = told l (s.modPeers f) := rfl
@[simp] theorem told_modPvu (f : Pvu → Pvu) : (told l s).modPvu f = told l (s.modPvu f) := rfl
@[simp] theorem told_modTrc (f : Trc → Trc) : (told l s).modTrc f = told l (s.modTrc f) := rfl
@[simp] theorem told_setLva (c : Option Claim) : (told l s).setLva c = told l (s.setLva c) := rfl
@[simp] theorem told_modTsq (f : Tsq → Tsq) : (told l s).modTsq f = told l (s.modTsq f) := rfl
@[simp] theorem told_modVsm (f : Vsm → Vsm) : (told l s).modVsm f = told l (s.modVsm f) := rfl
@[simp] theorem told_told' (l' : List EventSpec) : told l' (told l s) = told (l ++ l') s := told_told l l' s

@[simp] theorem told_floor : (told l s).hpi.floor = s.hpi.floor := rfl
@[simp] theorem told_cab : (told l s).hpi.cab = s.hpi.cab := rfl
@[simp] theorem told_running : (told l s).hpi.running = s.hpi.running := rfl
@[simp] theorem told_supv : (told l s).clu.supv = s.clu.supv := rfl

variable {l s} {t : State}

theorem told_nil (room : s.hpi.events.length ≤ 32) : told [] s = s := by
  have lost : (s.hpi.eventsLost || decide (32 < s.hpi.events.length)) = s.hpi.eventsLost := by simp; omega
  have queue : (s.hpi.events ++ []).take 32 = s.hpi.events := by
    rw [List.append_nil, List.take_of_length_le room]
  unfold told
  simp only [List.any_nil, Bool.or_false, List.map_nil, List.length_nil, Nat.add_zero, lost, queue]
  rfl

/-- The event queue never outgrows its 32 records (R176). -/
theorem told_events_le : (told l s).hpi.events.length ≤ 32 := by
  simp only [told, List.length_take]
  exact min_le_left _ _

/-- An event raised behind those of a list, whatever the queue held. -/
@[simp] theorem raise_told (k : EventKind) (d : List Byte) : raise k d (told l s) = told (l ++ [specOf k d]) s := by
  rw [raise_eq_told _ _ told_events_le, told_told]

/-! ## The words of the statements -/

/-- `u` has the event queue, the settings, the clocks and the horn of `s`: the events raised at `u` are those of `s`. -/
structure SameStamps (s u : State) : Prop where
  events    : u.hpi.events = s.hpi.events
  lost      : u.hpi.eventsLost = s.hpi.eventsLost
  floor     : u.hpi.floor = s.hpi.floor
  cab       : u.hpi.cab = s.hpi.cab
  minutes   : u.bau.minutes = s.bau.minutes
  time      : u.ftu.floorTime = s.ftu.floorTime
  horn      : u.clu.horn = s.clu.horn
  hornTimer : u.clu.hornTimer = s.clu.hornTimer

theorem raised_told {u : State} (l : List EventSpec) (h : SameStamps s u) : Raised l s (told l u) := by
  have same : EventSpec.record u = EventSpec.record s := funext fun e => record_congr e h.floor h.minutes h.time
  refine ⟨?_, ?_, ?_⟩
  · simp only [told, same, h.events]
  · simp only [told, h.lost, h.events]
  · unfold Sounded
    split <;> rename_i loud <;> simp [told, same, loud, h.horn, h.hornTimer, h.cab, ticksOfSeconds]

theorem portKept_told {u : State} (h : u.hpi = s.hpi) : PortKept s (told l u) := by
  simp [PortKept, SettingsKept, told, h]

theorem linesKept_told {u : State} (h : u.clu = s.clu) : LinesKept s (told l u) := by
  simp only [LinesKept, told, h]

@[simp] theorem sameBut_refl (b : List Block) (s : State) : SameBut b s s := fun b _ => by cases b <;> rfl

theorem sameBut_trans {b : List Block} {t u : State} (h : SameBut b s t) (k : SameBut b t u) : SameBut b s u := by
  intro c hc
  have h := h c hc
  have k := k c hc
  cases c <;> exact k.trans h

/-! ## One event, whether or not the queue has room -/

theorem portKept_raise (k : EventKind) (d : List Byte) (h : PortKept s t) : PortKept s (raise k d t) := by
  have q := quiet_raise k d (quiet_refl t)
  obtain ⟨⟨run, conf, floor, cab, waits, out⟩, cmd, resp⟩ := h
  exact ⟨⟨q.running.trans run, q.configured.trans conf, q.floor.trans floor, q.cab.trans cab, q.waiting.trans waits,
    q.shiftedOut.trans out⟩, q.command.trans cmd, q.response.trans resp⟩

theorem linesKept_raise (k : EventKind) (d : List Byte) (h : LinesKept s t) : LinesKept s (raise k d t) := by
  have horn : (raise k d t).clu
      = { t.clu with horn := (raise k d t).clu.horn, hornTimer := (raise k d t).clu.hornTimer } := by
    unfold raise queueEvent soundHorn
    dsimp only
    repeat' split
    all_goals rfl
  unfold LinesKept at h ⊢
  rw [horn, h]

theorem sameBut_raise {b : List Block} (clu : .clu ∈ b) (hpi : .hpi ∈ b) (k : EventKind) (d : List Byte)
    (h : SameBut b s t) : SameBut b s (raise k d t) := fun c hc => by
  have kept := h c hc
  rw [raise_frame]
  cases c
  case clu => exact absurd clu hc
  case hpi => exact absurd hpi hc
  all_goals exact kept

/-- Two states that agree on every block outside `b`. -/
theorem sameBut_of_eq {b : List Block} {t : State}
    (link : .link ∉ b → t.link = s.link := by first | simp; done | exact fun _ => rfl)
    (peers : .peers ∉ b → t.peers = s.peers := by first | simp; done | exact fun _ => rfl)
    (pvu : .pvu ∉ b → t.pvu = s.pvu := by first | simp; done | exact fun _ => rfl)
    (ftu : .ftu ∉ b → t.ftu = s.ftu := by first | simp; done | exact fun _ => rfl)
    (clu : .clu ∉ b → t.clu = s.clu := by first | simp; done | exact fun _ => rfl)
    (sns : .sns ∉ b → t.sns = s.sns := by first | simp; done | exact fun _ => rfl)
    (bau : .bau ∉ b → t.bau = s.bau := by first | simp; done | exact fun _ => rfl)
    (trc : .trc ∉ b → t.trc = s.trc := by first | simp; done | exact fun _ => rfl)
    (lva : .lva ∉ b → t.lva = s.lva := by first | simp; done | exact fun _ => rfl)
    (tsq : .tsq ∉ b → t.tsq = s.tsq := by first | simp; done | exact fun _ => rfl)
    (vsm : .vsm ∉ b → t.vsm = s.vsm := by first | simp; done | exact fun _ => rfl)
    (hpi : .hpi ∉ b → t.hpi = s.hpi := by first | simp; done | exact fun _ => rfl)
    (pending : .pending ∉ b → t.pending = s.pending := by first | simp; done | exact fun _ => rfl) :
    SameBut b s t := fun c => by
  cases c
  exacts [link, peers, pvu, ftu, clu, sns, bau, trc, lva, tsq, vsm, hpi, pending]

end Sys2Proof.Machine
end

section
/-! Hard reset, the idle line and the slots, and the two mutes. -/

namespace Sys2Proof.Machine

variable {s : State}

/-! ## Hard reset (R2, R40, R41, R46, R48, R85) -/

theorem ofNat_toNat_eq_toFin (straps : BitVec 4) : (Fin.ofNat 16 straps.toNat : Station) = straps.toFin := by
  apply Fin.ext
  simp [Fin.ofNat, Nat.mod_eq_of_lt straps.isLt]

theorem ofStraps_eq (rate : BitVec 2) :
    LineRate.ofStraps rate = (match rate.toNat with | 0 => .k125 | 1 => .k250 | 2 => .k500 | _ => .k1000) := by
  revert rate; decide

/-- The part at the release of reset, before ALARM-IN is looked at. -/
def sampledPart (station : BitVec 4) (rate : BitVec 2) (s : State) : State :=
  { State.reset with
    link := Link.blank station.toFin (LineRate.ofStraps rate), peers := blankPeers station.toFin
    clu := s.clu.resampled, trc := { Trc.blank with ownMode := (rawFeedback s.clu.fb).adopted }, pending := s.pending }

theorem hardReset_cases (station : BitVec 4) (rate : BitVec 2) (s : State) : hardReset station rate s
    = if s.clu.alarmIn.raw then tellAlarmInput (sampledPart station rate s) else sampledPart station rate s := by
  unfold hardReset sampledPart
  rw [ofNat_toNat_eq_toFin]
  rfl

/-- An ALARM-IN found active is the first event, a NOTICE: no kind is elevated after reset (R48). -/
theorem hardReset_eq (station : BitVec 4) (rate : BitVec 2) (s : State) :
    hardReset station rate s = { sampledPart station rate s with
      hpi := { State.reset.hpi with
        events := if s.clu.alarmIn.raw then [⟨.alarmInput, .notice, 0, 0#32, [1#8, 1#8]⟩] else [] } } := by
  rw [hardReset_cases]
  cases active : s.clu.alarmIn.raw with
  | false => rfl
  | true =>
    have shown : (sampledPart station rate s).clu.alarmIn.qual = true := active
    simp only [if_true, tellAlarmInput, shown]
    rw [raise_eq_told _ _ (Nat.zero_le _)]
    rfl

theorem rawFeedback_eq (f : Feedback) : rawFeedback f = (match f.rawInv, f.rawByp with
    | false, false => .off | true, false => .inv | false, true => .byp | true, true => .invalid) := by
  unfold rawFeedback
  cases f.rawInv <;> cases f.rawByp <;> rfl

theorem adopted_rawFeedback (f : Feedback) : (rawFeedback f).adopted = (match f.rawInv, f.rawByp with
    | true, false => .inv | false, true => .byp | _, _ => .off) := by
  unfold rawFeedback
  cases f.rawInv <;> cases f.rawByp <;> rfl

theorem mem_blankPeers {p : Station} {e : Peer} (h : e ∈ blankPeers p) : e = Peer.blank e.station := by
  obtain ⟨q, _, rfl⟩ := List.mem_map.mp h
  rfl

/-- Settles O3. -/
theorem hardResetLatchesAndSamples : Obligations.HardResetLatchesAndSamples := by
  intro straps rate s
  refine ⟨_, congrArg Host.Outcome.next (hardReset_eq straps rate s), ?_, blankPeers_stations _,
    fun e he => mem_blankPeers he, rfl, rfl, rfl, rfl, rfl, rfl, rfl, ?_, rfl, rfl, rfl, rfl, rfl, rfl, rfl,
    fun k => by cases k <;> rfl, fun k => by cases k <;> rfl, rfl, rfl, ?_, rfl, rfl⟩
  · simp only [sampledPart, ofStraps_eq]; rfl
  · exact congrArg (fun m => { Trc.blank with ownMode := m }) (adopted_rawFeedback s.clu.fb)
  · exact rawFeedback_eq s.clu.fb

/-! ## The idle line and discarded frames -/

theorem acceptedMessage_of_noise (frame : List Byte) (noise : s.link.rx = none) : acceptedMessage frame s = none := by
  simp [acceptedMessage, noise]

theorem heard_of_noise (frame : List Byte) (noise : s.link.rx = none) : heard frame s = none := by
  simp [heard, acceptedMessage_of_noise frame noise]

theorem endReception_of_noise (noise : s.link.rx = none) : endReception s = s := by
  unfold endReception State.modLink
  rw [← noise]

/-- Settles O27. -/
theorem lineAndDiscardedFrames : Obligations.LineAndDiscardedFrames := by
  refine ⟨fun s => ⟨?_, fun free => ?_, fun busy => ?_⟩, fun frame s => ⟨rfl, rfl, rfl, fun noise i hi => ?_⟩⟩
  · rfl
  · show Host.Outcome.next (lineIdle s) = _
    simp [lineIdle, State.modLink, free]
  · have tries : s.link.attempt.isSome = true := Option.isSome_iff_ne_none.mpr busy
    show Host.Outcome.next (lineIdle s) = _
    simp only [lineIdle, State.modLink, tries, if_true]
  · have ended := endReception_of_noise noise
    have unheard := heard_of_noise frame noise
    simp only [List.mem_cons, List.not_mem_nil, or_false] at hi
    rcases hi with rfl | rfl | rfl | rfl | rfl | rfl | rfl | rfl | rfl | rfl | rfl | rfl | rfl
    all_goals refine congrArg Host.Outcome.next ?_
    all_goals simp only [statusReceived, duplicateStatus, isDuplicate, acceptedMessage_of_noise frame noise,
      proposeReceived, consentReceived, transferObjectReceived, orderReceived, cancelReceived, forceReceived,
      claimReceived, claimObjectReceived, releaseReceived, unheard, noise, ended]
    all_goals simp

/-! ## Slots -/

/-- The message that a station offers: the head of its highest queue that is not empty, with its slot (R7, R8). -/
def slotOffer (l : Link) : Option (TxClass × TxEntry × Nat) :=
  match l.urgent, l.coord, l.status with
  | e :: _, _, _ => some (.urgent, e, slotIndex l .urgent)
  | [], e :: _, _ => some (.coord, e, slotIndex l .coord)
  | [], [], some e => some (.status, e, slotIndex l .status)
  | [], [], none => none

/-- The attempt is that of the message offered, where the link may send in the slot. -/
theorem attemptAt_eq (slot : Nat) (now : FloorTime) (l : Link) : attemptAt slot now l =
    match slotOffer l with
    | some (c, e, n) =>
      if l.state = .active ∧ l.lineIdle = true ∧ l.attempt = none ∧ slot = n then
        some ⟨c, now, encodeFloorFrame l.station e.msg⟩ else none
    | none => none := by
  unfold attemptAt offeredClass slotOffer headOf
  cases urgent : l.urgent with
  | cons e rest => simp
  | nil =>
    cases coord : l.coord with
    | cons e rest => simp
    | nil => cases status : l.status <;> simp

theorem slotAttempt_of_offer {slot : Fin 64} {c : TxClass} {e : TxEntry} {n : Nat} {s : State}
    (offer : slotOffer s.link = some (c, e, n)) : slotAttempt slot s =
      if s.link.state = .active ∧ s.link.lineIdle = true ∧ s.link.attempt = none ∧ slot.val = n then
        { s with link := { s.link with
            attempt := some ⟨c, s.ftu.floorTime, frameOf s.link.station e.msg⟩, lineIdle := false } }
      else s := by
  unfold slotAttempt
  rw [attemptAt_eq, offer]
  by_cases may : s.link.state = .active ∧ s.link.lineIdle = true ∧ s.link.attempt = none ∧ slot.val = n
  · simp only [if_pos may]; rfl
  · simp only [if_neg may]

theorem slotAttempt_of_silence {slot : Fin 64} {s : State} (silent : slotOffer s.link = none) :
    slotAttempt slot s = s := by
  unfold slotAttempt
  rw [attemptAt_eq, silent]

/-- Settles O28. -/
theorem slotAttemptStartsHighestClass : Obligations.SlotAttemptStartsHighestClass := by
  intro slot s
  refine congrArg Host.Outcome.next ?_
  cases urgent : s.link.urgent with
  | cons e rest => exact slotAttempt_of_offer (by simp only [slotOffer, urgent, slotIndex])
  | nil =>
    cases coord : s.link.coord with
    | cons e rest => exact slotAttempt_of_offer (by simp only [slotOffer, urgent, coord, slotIndex])
    | nil =>
      cases status : s.link.status with
      | some e => exact slotAttempt_of_offer (by simp only [slotOffer, urgent, coord, status, slotIndex])
      | none => exact slotAttempt_of_silence (by simp only [slotOffer, urgent, coord, status])

/-! ## The two mutes (R16, R17) -/

/-- A frame that the receiver accepts as the station's own STATUS is a duplicate (R17). -/
theorem isDuplicate_of_accepted {frame : List Byte} {m : StatusMsg} (hears : s.link.rx ≠ none)
    (accepted : parseFloorFrame frame = .accepted s.link.station (.status m)) : isDuplicate frame s = true := by
  obtain ⟨t, rx⟩ := Option.ne_none_iff_exists'.mp hears
  simp [isDuplicate, acceptedMessage, rx, accepted, State.own]

theorem duplicateHeard_listen_first (room : s.hpi.events.length ≤ 32) (state : s.link.state = .listen)
    (first : s.link.duplicateSeen = false) : duplicateHeard s
      = told [alarm .duplicateStation []] (s.modLink fun l => { l with duplicateSeen := true }) := by
  simp only [duplicateHeard, state, first, Bool.false_eq_true, if_false]
  exact raise_eq_told _ _ room

theorem muteForDuplicate_eq (room : s.hpi.events.length ≤ 32) : muteForDuplicate s
    = told [alarm .duplicateStation [], alarm .linkMuted [2#8]]
        (s.modLink fun l => { l with state := .mutedDuplicate, muteTimer := none }) := by
  rw [muteForDuplicate, raise_eq_told _ _ room, told_modLink, raise_told]
  rfl

theorem duplicateHeard_awake (awake : s.link.state = .active ∨ s.link.state = .mutedFailures) :
    duplicateHeard s = muteForDuplicate s := by
  unfold duplicateHeard
  rcases awake with state | state <;> simp only [state]

/-- A duplicate STATUS changes the link, the event queue and the horn alone. -/
theorem duplicateHeard_frame (s : State) : PortKept s (duplicateHeard s) ∧ LinesKept s (duplicateHeard s)
    ∧ SameBut [.link, .clu, .hpi] s (duplicateHeard s) := by
  have link : ∀ f : Link → Link, SameBut [.link, .clu, .hpi] s (s.modLink f) := fun f => sameBut_of_eq
  have mute : PortKept s (muteForDuplicate s) ∧ LinesKept s (muteForDuplicate s)
      ∧ SameBut [.link, .clu, .hpi] s (muteForDuplicate s) := by
    unfold muteForDuplicate
    refine ⟨portKept_raise _ _ (portKept_raise _ _ ⟨⟨rfl, rfl, rfl, rfl, rfl, rfl⟩, rfl, rfl⟩),
      linesKept_raise _ _ (linesKept_raise _ _ rfl), sameBut_raise (by simp) (by simp) _ _ ?_⟩
    exact sameBut_trans (sameBut_raise (by simp) (by simp) .duplicateStation [] (sameBut_refl _ s)) sameBut_of_eq
  have kept : PortKept s s ∧ LinesKept s s ∧ SameBut [.link, .clu, .hpi] s s :=
    ⟨⟨⟨rfl, rfl, rfl, rfl, rfl, rfl⟩, rfl, rfl⟩, rfl, sameBut_refl _ s⟩
  unfold duplicateHeard
  split
  · split
    · exact kept
    · exact ⟨portKept_raise _ _ kept.1, linesKept_raise _ _ rfl, sameBut_raise (by simp) (by simp) _ _ (link _)⟩
  · exact mute
  · exact mute
  · exact kept

/-- Settles O31. -/
theorem linkMutesAndRestores : Obligations.LinkMutesAndRestores := by
  refine ⟨fun m frame s hears accepted => ?_, fun s inv => ⟨fun muted ended => ?_, fun unended => ?_⟩⟩
  · refine ⟨duplicateHeard (endReception s), ?_, ?_⟩
    · show Host.Outcome.next (duplicateStatus frame s) = _
      rw [duplicateStatus, if_pos (isDuplicate_of_accepted hears accepted)]
    · obtain ⟨port, lines, rest⟩ := duplicateHeard_frame (endReception s)
      refine ⟨port, lines, sameBut_trans sameBut_of_eq rest, fun listens first inv => ?_, fun listens seen => ?_,
        fun awake inv => ?_, fun muted => ?_⟩
      · rw [duplicateHeard_listen_first (s := endReception s) inv.events listens first]
        exact ⟨rfl, raised_told _ (by constructor <;> rfl)⟩
      · have state : (endReception s).link.state = .listen := listens
        have before : (endReception s).link.duplicateSeen = true := seen
        simp only [duplicateHeard, state, before, if_true]
        rfl
      · rw [duplicateHeard_awake (s := endReception s) awake, muteForDuplicate_eq (s := endReception s) inv.events]
        exact ⟨rfl, raised_told _ (by constructor <;> rfl)⟩
      · have state : (endReception s).link.state = .mutedDuplicate := muted
        simp only [duplicateHeard, state]
        rfl
  · have fires : muteTimerExpiry s = told [notice .linkRestored []] (s.modLink fun l =>
        { l with
          state := .active, muteTimer := none, urgent := l.urgent.map TxEntry.renewed
          coord := l.coord.map TxEntry.renewed, status := l.status.map TxEntry.renewed }) := by
      rw [muteTimerExpiry, if_pos ⟨muted, by simp [due, ended]⟩]
      exact raise_eq_told _ _ inv.events
    refine ⟨_, congrArg Host.Outcome.next fires, rfl, raised_told _ ?_, portKept_told rfl, linesKept_told rfl, ?_⟩
    · constructor <;> rfl
    · exact sameBut_of_eq
  · show Host.Outcome.next (muteTimerExpiry s) = _
    rw [muteTimerExpiry, if_neg]
    rintro ⟨muted, ended⟩
    simp only [due, decide_eq_true_eq] at ended
    exact unended.elim (absurd muted) (absurd ended)

end Sys2Proof.Machine
end

section
/-! A command of the host that passes the checks of R170, its answer, and RESTART. -/

namespace Sys2Proof.Machine

variable {s t : State}

/-! ## A command that is taken (R167 to R170) -/

/-- A window of the allowed length, in a device state that accepts the command, reaches the command's own rule. -/
theorem hostCommand_of_taken {rule : Rule} {code : Byte} {lengths : Nat → Bool} {taken : TakenIn} {window : List Byte}
    {args : List Byte} (carried : argBytes window = some args) (fits : lengths args.length = true)
    (accepted : taken.accepts s = true) : hostCommand code lengths taken rule window s
      = respond (rule args (openCommand code window s)).2 (rule args (openCommand code window s)).1 := by
  simp [hostCommand, carried, fits, accepted]

/-- What stands in the buffers of the host port after a command has been answered (R168, R169). -/
theorem answered_respond {code : Byte} {window body : List Byte} {r : Reply} {status reason : Nat}
    (command : t.hpi.command = some (code :: window)) (hs : r.status.code = status) (hr : r.reason = byteOf reason)
    (hb : r.body = body) (hl : r.lost = none) : Answered code window status reason body (respond r t) := by
  refine ⟨command, congrArg some ?_⟩
  subst hs hb
  have pending : (if attnPin t = true then 1 else 0) = if t.hpi.events = [] then 0 else 1 := by
    unfold attnPin
    cases t.hpi.events <;> simp
  simp [responseBytes, answer, headerFlags, deviceByte, respond, hl, hr, pending, u8, u16, byteOf, bitAt,
    apply_ite (BitVec.ofNat 8)]

/-! ## RESTART (R173) -/

theorem restartRun_frame (s : State) : restartRun s = s.modTsq fun _ => (restartRun s).tsq := by
  unfold restartRun; split <;> rfl

theorem restartVisit_frame (s : State) : restartVisit s = s.modVsm fun _ => (restartVisit s).vsm := by
  unfold restartVisit; split <;> rfl

theorem restartRun_tsq_congr (h : t.tsq = s.tsq) : (restartRun t).tsq = (restartRun s).tsq := by
  unfold restartRun resultNow
  rw [h]
  split <;> simp [h]

theorem restartVisit_vsm_congr (h : t.vsm = s.vsm) (m : t.bau.minutes = s.bau.minutes) :
    (restartVisit t).vsm = (restartVisit s).vsm := by
  unfold restartVisit
  rw [h]
  split
  · exact h
  · simp only [appendLog, logRecOf, State.modVsm_vsm, h, m]
    congr

theorem stopAccount_bau_congr (hpi : t.hpi = s.hpi) (bau : t.bau = s.bau) :
    (stopAccount t).bau = (stopAccount s).bau := by
  cases s; cases t; cases hpi; cases bau; rfl

/-- What RESTART makes of the account: the record keeps the state of charge of that moment (R67, R70, R83). -/
theorem stopAccount_bau (s : State) : (stopAccount s).bau = { s.bau with
    carry := { s.bau.carry with soc := (stopAccount s).bau.carry.soc }, q := 0, floatCount := 0, runtime := 0
    tfInit := false, tf := s.hpi.cab.assumed, hAge := (stopAccount s).bau.hAge, h := (stopAccount s).bau.h
    weak := (stopAccount s).bau.weak } := by
  have record : (stopAccount s).bau.carry = { s.bau.carry with soc := (stopAccount s).bau.carry.soc } := by
    show carryNow s = { s.bau.carry with soc := (carryNow s).soc }
    unfold carryNow
    split <;> rfl
  rw [← record]
  rfl

theorem stopAccount_soc (s : State) :
    (stopAccount s).bau.carry.soc = if s.hpi.running then soc s else s.bau.carry.soc := by
  show (carryNow s).soc = _
  unfold carryNow
  split <;> rfl

theorem stopAccount_frame (s : State) : stopAccount s = s.modBau fun _ => (stopAccount s).bau := rfl

/-- The events that RESTART leaves in the queue (R173 step 5). -/
def seeded (s : State) : List EventSpec :=
  info .restarted [] ::
    if s.hpi.cab.alarmMode = .level ∧ s.clu.alarmIn.qual then [notice .alarmInput [1#8, 1#8]] else []

/-- The part in CONFIGURING with an empty event queue, as RESTART leaves it before the seed (R16, R39, R85, R173). -/
def restarted (s : State) : State :=
  { s with
    link := { Link.blank s.link.station s.link.rate with lineIdle := s.link.lineIdle }
    peers := blankPeers s.link.station, pvu := Pvu.blank, ftu := Ftu.blank, clu := (dropOutputs s).clu
    bau := (stopAccount s).bau, trc := { Trc.blank with ownMode := s.clu.fb.qual.adopted }, lva := none
    tsq := (restartRun s).tsq, vsm := (restartVisit s).vsm
    hpi := { s.hpi with running := false, events := [], eventsLost := false } }

theorem seedEvents_eq (s : State) :
    seedEvents s = told (seeded s) (s.modHpi fun h => { h with events := [], eventsLost := false }) := by
  unfold seedEvents seeded tellAlarmInput
  rw [raise_eq_told _ _ (Nat.zero_le _)]
  dsimp only
  by_cases active : s.hpi.cab.alarmMode = .level ∧ s.clu.alarmIn.qual = true
  · rw [if_pos active, if_pos active, raise_told]
    have detail : u8 s.hpi.cab.alarmMode.code ++ levelByte s.clu.alarmIn.qual = [1#8, 1#8] := by
      rw [active.1, active.2]; rfl
    exact congrArg (fun d => told [info .restarted [], notice .alarmInput d] _) detail
  · rw [if_neg active, if_neg active]
    rfl

theorem ruleRestart_eq (args : List Byte) (s : State) :
    ruleRestart args s = (told (seeded s) (restarted s), okReply) := by
  have run := restartRun_tsq_congr (s := s) (t := dropOutputs s) rfl
  have account := stopAccount_bau_congr (s := s)
    (t := restartTrc (((restartVisit (restartRun (dropOutputs s)))).setLva none))
    (by rw [restartVisit_frame, restartRun_frame]; rfl) (by rw [restartVisit_frame, restartRun_frame]; rfl)
  have visit := restartVisit_vsm_congr (s := s) (t := restartRun (dropOutputs s))
    (by rw [restartRun_frame]; rfl) (by rw [restartRun_frame]; rfl)
  unfold ruleRestart
  dsimp only
  rw [stopAccount_frame, account, restartVisit_frame, visit, restartRun_frame, run, seedEvents_eq]
  generalize kept : (stopAccount s).bau = bau
  exact congrArg (·, okReply) (congrArg₂ told rfl (by rw [restarted, kept]; rfl))

/-- The seed fits an empty queue, and its records have the classes of R176: RESTARTED is never elevated (R174). -/
theorem told_seeded_events (s : State) (kind : s.hpi.floor.elevated ≠ some .restarted) :
    (told (seeded s) (restarted s)).hpi.events = (⟨.restarted, .info, s.bau.minutes, 0#32, []⟩ : EventRec) ::
      (if s.hpi.cab.alarmMode = .level ∧ s.clu.alarmIn.qual then
        [⟨.alarmInput, if s.hpi.floor.elevated = some .alarmInput then .alarm else .notice, s.bau.minutes, 0#32,
          [1#8, 1#8]⟩] else []) := by
  have minutes : (restarted s).bau.minutes = s.bau.minutes := rfl
  have floor : (restarted s).hpi.floor = s.hpi.floor := rfl
  have time : (restarted s).ftu.floorTime = 0#32 := rfl
  have empty : (restarted s).hpi.events = [] := rfl
  simp only [told, empty, seeded, List.nil_append]
  split <;> simp [EventSpec.record, info, notice, minutes, floor, time, kind]

theorem told_seeded_lost (s : State) : (told (seeded s) (restarted s)).hpi.eventsLost = false := by
  have fits : (restarted s).hpi.events.length + (seeded s).length ≤ 32 := by
    unfold seeded
    split <;> simp [restarted]
  have before : (restarted s).hpi.eventsLost = false := rfl
  simp only [told, before, Bool.false_or, decide_eq_false_iff_not]
  omega

/-- The seed sounds the horn where it raises the elevated kind (R51, log entry 31). -/
theorem told_seeded_horn (s : State) (kind : s.hpi.floor.elevated ≠ some .restarted) :
    if s.hpi.floor.elevated = some .alarmInput ∧ s.hpi.cab.alarmMode = .level ∧ s.clu.alarmIn.qual = true then
      (told (seeded s) (restarted s)).clu.horn = true ∧ (told (seeded s) (restarted s)).clu.hornTimer
        = (if s.hpi.cab.hornTerm = 0 then none else some (s.hpi.cab.hornTerm * 10000))
    else (told (seeded s) (restarted s)).clu.horn = false ∧ (told (seeded s) (restarted s)).clu.hornTimer = none := by
  have floor : (restarted s).hpi.floor = s.hpi.floor := rfl
  have term : (restarted s).hpi.cab.hornTerm = s.hpi.cab.hornTerm := rfl
  have horn : (restarted s).clu.horn = false := rfl
  have timer : (restarted s).clu.hornTimer = none := rfl
  have loud : ((seeded s).any fun e => decide ((e.record (restarted s)).cls = .alarm))
      = decide (s.hpi.floor.elevated = some .alarmInput ∧ s.hpi.cab.alarmMode = .level
        ∧ s.clu.alarmIn.qual = true) := by
    unfold seeded
    by_cases active : s.hpi.cab.alarmMode = .level ∧ s.clu.alarmIn.qual = true
    · simp [EventSpec.record, info, notice, floor, kind, active]
    · simp [EventSpec.record, info, floor, kind, active]
  simp only [told, loud, horn, timer, term, ticksOfSeconds, Bool.false_or, decide_eq_true_eq]
  split <;> simp_all

theorem restartRun_tsq_of_idle (h : s.tsq.state = .idle ∨ s.tsq.state = .ended) : (restartRun s).tsq = s.tsq := by
  unfold restartRun
  rcases h with state | state <;> simp [state, RunState.inProgress]

theorem restartVisit_vsm (s : State) : (restartVisit s).vsm = { s.vsm with
    visit := none
    log := s.vsm.visit.elim s.vsm.log fun v => (if s.vsm.log.length < 16 then s.vsm.log else s.vsm.log.drop 1)
      ++ [⟨v.number, v.kind, v.technician, v.openedMinute, s.bau.minutes, .interrupted, v.tasks, []⟩] } := by
  unfold restartVisit
  split <;> rename_i standing <;> simp only [standing, Option.elim]
  · rw [← standing]
  · rfl

/-- Settles O13. -/
theorem restartClearsAndKeeps : Obligations.RestartClearsAndKeeps := by
  intro s kind
  let o := openCommand 0x1A#8 [0#8] s
  have taken : cmdRestart [0#8] s = respond okReply (told (seeded o) (restarted o)) := by
    rw [cmdRestart, hostCommand_of_taken (args := []) rfl rfl rfl, ruleRestart_eq]
    rfl
  have lost := told_seeded_lost o
  have visit := restartVisit_vsm o
  refine ⟨_, congrArg Host.Outcome.next taken, ?_, answered_respond rfl rfl rfl rfl rfl, told_seeded_events o kind, rfl,
    told_seeded_horn o kind, rfl, rfl, rfl, rfl, rfl, rfl, fun m => ?_, ?_, fun idle => ?_, fun busy => ?_, ?_, ?_, ?_,
    ?_, fun closed => ?_, fun v standing => ?_, ?_, ?_, rfl⟩
  · exact congrArg (fun b => { (restarted o).hpi with
      eventsLost := b, events := (told (seeded o) (restarted o)).hpi.events
      response := some (responseBytes okReply (told (seeded o) (restarted o))) }) lost
  · show ({ Trc.blank with ownMode := s.clu.fb.qual.adopted } : Trc) = { Trc.blank with ownMode := m } ↔ _
    have own : ∀ f : FbMode, f.adopted = (match f with | .inv => .inv | .byp => .byp | _ => .off) := fun f => by
      cases f <;> rfl
    exact ⟨fun h => (congrArg Trc.ownMode h).symm.trans (own _),
      fun h => congrArg (fun n => { Trc.blank with ownMode := n }) ((own _).trans h.symm)⟩
  · show (restartRun o).tsq.profile = s.tsq.profile
    unfold restartRun
    split <;> rfl
  · exact restartRun_tsq_of_idle idle
  · have ended : (restartRun o).tsq = { s.tsq with
        state := .ended, run := RunRec.blank, result := some (resultNow .restart none o) } := by
      unfold restartRun
      rw [if_pos (show o.tsq.state.inProgress = true from busy)]
      rfl
    exact ⟨congrArg Tsq.state ended, congrArg Tsq.run ended, congrArg (Option.map _) (congrArg Tsq.result ended)⟩
  · exact (congrArg Vsm.dues visit).trans rfl
  · exact (congrArg Vsm.armReplace visit).trans rfl
  · exact (congrArg Vsm.armInspect visit).trans rfl
  · exact congrArg Vsm.visit visit
  · refine (congrArg Vsm.log visit).trans ?_
    rw [show o.vsm.visit = none from closed]
    rfl
  · refine (congrArg Vsm.log visit).trans ?_
    rw [show o.vsm.visit = some v from standing]
    rfl
  · exact stopAccount_bau o
  · exact stopAccount_soc o

end Sys2Proof.Machine
end

section
/-! Every floor message that fits its fields is read back from its frame (R4, R5, R180): the fields, the payload of
each kind, and the frame. -/

namespace Sys2Proof.Machine

/-! ## Fields (R179) -/

theorem toNat_ofNat_byte {n : Nat} (h : n < 256) : (BitVec.ofNat 8 n).toNat = n := by
  simpa using Nat.mod_eq_of_lt h

theorem nat16_u16 {n : Nat} (h : n < 65536) : nat16 (BitVec.ofNat 8 (n / 256)) (BitVec.ofNat 8 n) = n := by
  simp only [nat16, BitVec.toNat_ofNat]
  omega

/-- A floor time is read back from its four bytes. -/
theorem timeOf_bytes (t : FloorTime) : timeOf (BitVec.ofNat 8 (t.toNat / 16777216)) (BitVec.ofNat 8 (t.toNat / 65536))
    (BitVec.ofNat 8 (t.toNat / 256)) (BitVec.ofNat 8 t.toNat) = t := by
  have bytes : nat32 (BitVec.ofNat 8 (t.toNat / 16777216)) (BitVec.ofNat 8 (t.toNat / 65536))
      (BitVec.ofNat 8 (t.toNat / 256)) (BitVec.ofNat 8 t.toNat) = t.toNat := by
    have := t.isLt
    simp only [nat32, BitVec.toNat_ofNat]
    omega
  rw [timeOf, bytes, BitVec.ofNat_toNat, BitVec.setWidth_eq]

theorem stationOf_val (p : Station) : stationOf (BitVec.ofNat 8 p.val) = some p := by
  have h := p.isLt
  have val : (BitVec.ofNat 8 p.val).toNat = p.val := toNat_ofNat_byte (by omega)
  simp only [stationOf, val, h, dif_pos]

theorem directionOf_code (d : Direction) : Direction.ofCode (BitVec.ofNat 8 d.code).toNat = some d := by
  cases d <;> rfl

theorem claimKindOf_code (k : ClaimKind) : ClaimKind.ofCode (BitVec.ofNat 8 k.code).toNat = some k := by
  cases k <;> rfl

/-! ## Flags -/

theorem bitAt_eq (b : Bool) (k : Nat) : bitAt b k = b.toNat * 2 ^ k := by cases b <;> simp [bitAt]

/-- A flag is read back at its bit, whatever the other bits of the byte hold. -/
theorem getLsbD_byte {n k : Nat} {b : Bool} (hk : k < 8) (h : n / 2 ^ k % 2 = b.toNat) :
    (BitVec.ofNat 8 n).getLsbD k = b := by
  rw [BitVec.getLsbD_ofNat, Nat.testBit_eq_decide_div_mod_eq, h]
  cases b <;> simp [hk]

/-- Byte 1 of a STATUS payload: the mode below the six flags. -/
theorem flags1_read (r : Report) :
    Mode.ofCode ((BitVec.ofNat 8 r.flags1).toNat % 4) = some r.mode
      ∧ (BitVec.ofNat 8 r.flags1).getLsbD 2 = r.isolated ∧ (BitVec.ofNat 8 r.flags1).getLsbD 3 = r.maint
      ∧ (BitVec.ofNat 8 r.flags1).getLsbD 4 = r.hold
      ∧ (BitVec.ofNat 8 r.flags1).getLsbD 5 = decide (r.source = .battery)
      ∧ (BitVec.ofNat 8 r.flags1).getLsbD 6 = r.weak ∧ (BitVec.ofNat 8 r.flags1).getLsbD 7 = r.senseLost := by
  have mode : r.mode.code < 4 := by cases r.mode <;> decide
  have sum : r.flags1 = r.mode.code + r.isolated.toNat * 4 + r.maint.toNat * 8 + r.hold.toNat * 16
      + (decide (r.source = .battery)).toNat * 32 + r.weak.toNat * 64 + r.senseLost.toNat * 128 := by
    simp only [Report.flags1, bitAt_eq]
    norm_num
  have := r.isolated.toNat_le
  have := r.maint.toNat_le
  have := r.hold.toNat_le
  have := (decide (r.source = .battery)).toNat_le
  have := r.weak.toNat_le
  have := r.senseLost.toNat_le
  refine ⟨?_, getLsbD_byte (by omega) ?_, getLsbD_byte (by omega) ?_, getLsbD_byte (by omega) ?_,
    getLsbD_byte (by omega) ?_, getLsbD_byte (by omega) ?_, getLsbD_byte (by omega) ?_⟩
  · have low : (BitVec.ofNat 8 r.flags1).toNat % 4 = r.mode.code := by
      rw [BitVec.toNat_ofNat, sum]
      omega
    rw [low]
    cases r.mode <;> rfl
  all_goals
    rw [sum]
    omega

/-- Byte 2 of a STATUS payload: activity and alignment below the three presence bits. -/
theorem flags2_read (m : StatusMsg) :
    ActKind.ofCode ((BitVec.ofNat 8 m.flags2).toNat % 8) = some m.report.act
      ∧ Align.ofCode ((BitVec.ofNat 8 m.flags2).toNat / 8 % 4) = some m.report.align
      ∧ (BitVec.ofNat 8 m.flags2).getLsbD 5 = m.prevStart.isSome
      ∧ (BitVec.ofNat 8 m.flags2).getLsbD 6 = m.report.propId.isSome
      ∧ (BitVec.ofNat 8 m.flags2).getLsbD 7 = m.claim.isSome := by
  have act : m.report.act.code < 8 := by cases m.report.act <;> decide
  have align : m.report.align.code < 4 := by cases m.report.align <;> decide
  have sum : m.flags2 = m.report.act.code + 8 * m.report.align.code + m.prevStart.isSome.toNat * 32
      + m.report.propId.isSome.toNat * 64 + m.claim.isSome.toNat * 128 := by
    simp only [StatusMsg.flags2, bitAt_eq]
    norm_num
  have := m.prevStart.isSome.toNat_le
  have := m.report.propId.isSome.toNat_le
  have := m.claim.isSome.toNat_le
  refine ⟨?_, ?_, getLsbD_byte (by omega) ?_, getLsbD_byte (by omega) ?_, getLsbD_byte (by omega) ?_⟩
  · have low : (BitVec.ofNat 8 m.flags2).toNat % 8 = m.report.act.code := by
      rw [BitVec.toNat_ofNat, sum]
      omega
    rw [low]
    cases m.report.act <;> rfl
  · have mid : (BitVec.ofNat 8 m.flags2).toNat / 8 % 4 = m.report.align.code := by
      rw [BitVec.toNat_ofNat, sum]
      omega
    rw [mid]
    cases m.report.align <;> rfl
  all_goals
    rw [sum]
    omega

/-! ## The optional fields of a STATUS -/

theorem takeTime_append (t : Option FloorTime) (l : List Byte) :
    takeTime t.isSome (t.elim [] timeBytes ++ l) = some (t, l) := by
  cases t with
  | none => rfl
  | some t =>
    simp only [takeTime, timeBytes, u32, Option.elim_some, Option.isSome_some, if_true, List.cons_append,
      List.nil_append, timeOf_bytes]

theorem takePropId_append (id : Option PropId) (l : List Byte) :
    takePropId id.isSome (id.elim [] PropId.bytes ++ l) = some (id, l) := by
  cases id with
  | none => rfl
  | some id =>
    simp only [takePropId, PropId.bytes, u8, Option.elim_some, Option.isSome_some, if_true, List.cons_append,
      List.nil_append, stationOf_val]

theorem shownKind_read (c : ShownClaim) :
    ClaimKind.ofCode ((BitVec.ofNat 8 (c.kind.code + bitAt c.granted 2)).toNat % 4) = some c.kind
      ∧ (BitVec.ofNat 8 (c.kind.code + bitAt c.granted 2)).getLsbD 2 = c.granted := by
  cases c.kind <;> cases c.granted <;> exact ⟨rfl, rfl⟩

theorem takeClaim_append (c : Option ShownClaim) (l : List Byte) :
    Sys2Proof.takeClaim c.isSome (c.elim [] ShownClaim.bytes ++ l) = some (c, l) := by
  cases c with
  | none => rfl
  | some c =>
    obtain ⟨kind, granted⟩ := shownKind_read c
    simp only [Sys2Proof.takeClaim, ShownClaim.bytes, u8, timeBytes, u32, Option.elim_some, Option.isSome_some, if_true,
      List.cons_append, List.nil_append, timeOf_bytes, kind, granted]

/-- The optional fields at the end of a STATUS payload. -/
def optionalBytes (m : StatusMsg) : List Byte :=
  m.prevStart.elim [] timeBytes ++ (m.report.propId.elim [] PropId.bytes ++ (m.claim.elim [] ShownClaim.bytes ++ []))

theorem takeOptional_optionalBytes (m : StatusMsg) :
    takeOptional (BitVec.ofNat 8 m.flags2) (optionalBytes m) = some (m.prevStart, m.report.propId, m.claim) := by
  obtain ⟨_, _, time, prop, claim⟩ := flags2_read m
  rw [takeOptional, optionalBytes, time, takeTime_append]
  dsimp only
  rw [prop, takePropId_append]
  dsimp only
  rw [claim, takeClaim_append]

theorem statusPayload_eq (m : StatusMsg) :
    m.payload = [m.seq] ++ u8 m.report.flags1 ++ u8 m.flags2 ++ u16 m.report.carrying ++ u16 m.report.ready
      ++ u16 m.report.load ++ u16 m.report.health ++ u16 m.report.runtime ++ optionalBytes m := by
  cases prev : m.prevStart <;> cases prop : m.report.propId <;> cases claim : m.claim <;>
    simp [StatusMsg.payload, optionalBytes, prev, prop, claim]

/-! ## The payload of each kind -/

theorem parseStatus_payload (m : StatusMsg) (fits : MsgFits (.status m)) : parseStatus m.payload = some m := by
  obtain ⟨carrying, ready, load, health, runtime⟩ := fits
  obtain ⟨mode, isolated, maint, hold, source, weak, senseLost⟩ := flags1_read m.report
  obtain ⟨act, align, -, -, -⟩ := flags2_read m
  have battery : (if decide (m.report.source = .battery) = true then Source.battery else Source.mains)
      = m.report.source := by
    cases m.report.source <;> rfl
  simp only [statusPayload_eq, u8, u16, List.cons_append, List.nil_append, parseStatus, mode, act, align,
    takeOptional_optionalBytes, isolated, maint, hold, source, weak, senseLost, battery, nat16_u16 carrying,
    nat16_u16 ready, nat16_u16 load, nat16_u16 health, nat16_u16 runtime]

theorem parseObject_payload {m : Msg} (object : m.kindCode = 4) (fits : MsgFits m) :
    parseObject m.payload = some m := by
  cases m with
  | objectTransfer id reason =>
    show (stationOf (BitVec.ofNat 8 id.station.val)).map _ = _
    rw [stationOf_val]
    rfl
  | objectClaim claimant time reason =>
    show (stationOf (BitVec.ofNat 8 claimant.val)).map _ = _
    rw [stationOf_val, timeOf_bytes]
    rfl
  | objectOther subject rest =>
    obtain ⟨transfer, claim, _⟩ := fits
    simp only [Msg.payload, parseObject, transfer, claim, if_false]
  | status | propose | consent | order | cancel | force | claim | release => simp [Msg.kindCode] at object

theorem parsePayload_payload (m : Msg) (fits : MsgFits m) : parsePayload m.kindCode m.payload = some m := by
  cases m with
  | status m =>
    show (parseStatus m.payload).map _ = _
    rw [parseStatus_payload m fits]
    rfl
  | objectTransfer | objectClaim | objectOther => exact parseObject_payload rfl fits
  | propose seq dir at_ ex =>
    show (Direction.ofCode (BitVec.ofNat 8 dir.code).toNat).map _ = _
    rw [directionOf_code, timeOf_bytes, timeOf_bytes]
    rfl
  | consent id | order id | cancel id =>
    show (stationOf (BitVec.ofNat 8 id.station.val)).map _ = _
    rw [stationOf_val]
    rfl
  | force cause => rfl
  | claim kind time | release kind time =>
    show (ClaimKind.ofCode (BitVec.ofNat 8 kind.code).toNat).map _ = _
    rw [claimKindOf_code, timeOf_bytes]
    rfl

/-- Every payload has a length that its kind allows and its length byte can tell. -/
theorem length_payload (m : Msg) (fits : MsgFits m) :
    lengthAllowed m.kindCode m.payload.length = true ∧ m.payload.length < 256 := by
  cases m with
  | status m =>
    simp only [Msg.kindCode, Msg.payload, statusPayload_eq, optionalBytes]
    cases m.prevStart <;> cases m.report.propId <;> cases m.claim <;>
      simp [lengthAllowed, u8, u16, timeBytes, u32, PropId.bytes, ShownClaim.bytes]
  | objectOther subject rest =>
    obtain ⟨_, _, three | six⟩ := fits <;> simp [Msg.kindCode, Msg.payload, lengthAllowed, *]
  | _ => simp [Msg.kindCode, Msg.payload, lengthAllowed, u8, timeBytes, u32, PropId.bytes]

/-! ## The frame -/

theorem kindCode_bounds (m : Msg) : 1 ≤ m.kindCode ∧ m.kindCode ≤ 9 := by
  cases m <;> simp [Msg.kindCode]

/-- The header tells the kind above the sender. -/
theorem header_read (p : Station) (m : Msg) :
    (BitVec.ofNat 8 (m.kindCode * 16 + p.val)).toNat / 16 = m.kindCode
      ∧ Fin.ofNat 16 ((BitVec.ofNat 8 (m.kindCode * 16 + p.val)).toNat % 16) = p := by
  obtain ⟨low, high⟩ := kindCode_bounds m
  have station := p.isLt
  rw [toNat_ofNat_byte (by omega)]
  exact ⟨by omega, Fin.ext (by simp only [Fin.ofNat]; omega)⟩

/-- Settles O6: each check of the reception finds what the sender laid out. -/
theorem floorMessageReadsBack : Obligations.FloorMessageReadsBack := by
  intro p m fits
  obtain ⟨allowed, short⟩ := length_payload m fits
  obtain ⟨low, high⟩ := kindCode_bounds m
  obtain ⟨kind, sender⟩ := header_read p m
  have known : ¬(m.kindCode = 0 ∨ 9 < m.kindCode) := by omega
  have length (crc : Nat) : (m.payload ++ u16 crc).length = m.payload.length + 2 := List.length_append
  simp only [frameOf, encodeFloorFrame, Msg.covered, u8, List.cons_append, List.nil_append, parseFloorFrame, ne_eq,
    not_true_eq_false, if_false, kind, toNat_ofNat_byte short, allowed, known, length, lt_irrefl, Bool.true_eq_false,
    List.drop_left, List.take_left, parsePayload_payload m fits, sender]

end Sys2Proof.Machine
end

section
/-! The shared operations in closed form, where the case that takes them is settled: withdrawal and queueing of COORD
messages, the own STATUS, a dropped proposal, the end of a run, the denial of a claim. -/

namespace Sys2Proof.Machine

variable {s u : State} {l : List EventSpec}

/-! ## After a change of the view -/

/-- An own claim that is gone needs no re-evaluation. -/
theorem claimKept_none (h : s.lva = none) : ClaimKept s := by
  intro c hc
  rw [h] at hc
  exact absurd hc (by simp)

theorem claimKept_told (h : ClaimKept u) : ClaimKept (told l u) :=
  SameView.claimKept (s := u) ⟨rfl, rfl, rfl, rfl, rfl, rfl, rfl⟩ rfl h

/-- Where the claim is kept, `settle` behind events changes the last-known floor mode alone. -/
theorem settle_told (h : ClaimKept u) :
    ∃ m, settle (told l u) = told l (u.modTrc fun t => { t with lastKnown := m }) :=
  settle_of_kept (claimKept_told h)

/-! ## The lines -/

/-- A mode command, through the dead interval or not (R43). -/
theorem setModeCmd_eq (m : Mode) (s : State) : setModeCmd m s = s.modClu (commanded m) := by
  have direct : ((decide (s.clu.modeCmd = .inv) && decide (m = .byp))
        || (decide (s.clu.modeCmd = .byp) && decide (m = .inv)))
      = (decide (m ≠ .off) && decide (s.clu.modeCmd ≠ .off) && decide (m ≠ s.clu.modeCmd)) := by
    cases s.clu.modeCmd <;> cases m <;> rfl
  refine congrArg (fun c => { s with clu := c }) ?_
  dsimp only
  rw [direct, commanded]
  generalize hd : s.clu.dead = dead
  generalize s.clu.supv = supv, decide (m ≠ .off) = off, decide (s.clu.modeCmd ≠ .off) = live,
    decide (m ≠ s.clu.modeCmd) = other
  cases dead <;> cases supv <;> cases off <;> cases live <;> cases other <;> rfl

theorem told_setModeCmd (m : Mode) : setModeCmd m (told l s) = told l (setModeCmd m s) := by
  rw [setModeCmd_eq, setModeCmd_eq]
  rfl

/-! ## The transmit queues (R13, R15) -/

theorem attempting_free {k : Link} (free : k.attempt = none) (c : TxClass) : attempting k c = false := by
  simp [attempting, free]

/-- COORD messages that are withdrawn with no attempt in progress leave the queue. -/
theorem withdraw_free {which : Msg → Bool} {reason : Byte} (free : s.link.attempt = none)
    (room : s.link.coord.length ≤ 8) :
    withdraw which reason s = s.modLink (coordWithout fun e => which e.msg) := by
  have settled (n : Nat) (h : n ≤ 8) : (!decide (n < coordDepth)) = decide (n = 8) := by
    have short : n < coordDepth ↔ ¬ n = 8 := by
      unfold coordDepth
      omega
    rw [decide_eq_decide.mpr short, decide_not, Bool.not_not]
  refine congrArg (fun k => { s with link := k }) ?_
  dsimp only
  rw [settleCongestion_eq, coordWithout]
  cases queue : s.link.coord with
  | nil => simp [queue, coordDepth]
  | cons e rest =>
    have kept := (List.length_filter_le (fun x => !which x.msg) (e :: rest)).trans (queue ▸ room)
    simp only [attempting_free free, Bool.false_eq_true, if_false, settled _ kept]

/-- A COORD message that finds room stands at the end of its queue. -/
theorem queueCoord_room {m : Msg} (live : s.link.state ≠ .listen) (room : s.link.coord.length < 8) :
    queueCoord m s = (s.modLink fun l => { l with coord := l.coord ++ [queued m] }, true) := by
  have room : s.link.coord.length < coordDepth := room
  rw [queueCoord, if_neg live, if_pos room]
  rfl

theorem postCoord_room {m : Msg} (live : s.link.state ≠ .listen) (room : s.link.coord.length < 8) :
    postCoord m s = s.modLink fun l => { l with coord := l.coord ++ [queued m] } := by
  rw [postCoord, queueCoord_room live room]

/-- LINK_CONGESTION of a discarded COORD message, once until the queue drains (R13). -/
def congestionTold (m : Msg) (s : State) : List EventSpec :=
  if s.link.congestionReported then [] else [notice .linkCongestion (u8 m.kindCode)]

/-- A COORD message that finds its queue full is discarded, and not sent. -/
theorem queueCoord_full {m : Msg} (live : s.link.state ≠ .listen) (full : s.link.coord.length = 8)
    (events : s.hpi.events.length ≤ 32) :
    queueCoord m s
      = (told (congestionTold m s) (s.modLink fun l => { l with congestionReported := true }), false) := by
  have noRoom : ¬ s.link.coord.length < coordDepth := by rw [full]; decide
  rw [queueCoord, if_neg live, if_neg noRoom, congest, congestionTold]
  cases known : s.link.congestionReported with
  | true =>
    have same : (s.modLink fun l => { l with congestionReported := true }) = s := by
      rw [← known]
      rfl
    rw [if_pos rfl, if_pos rfl, same, told_nil events]
  | false =>
    rw [if_neg Bool.false_ne_true, if_neg Bool.false_ne_true, raise_eq_told _ _ events]
    rfl

theorem postForce_room {c : ForceCause} (live : s.link.state ≠ .listen) (room : s.link.urgent.length < 2) :
    postForce c s
      = s.modLink fun l => { l with urgent := l.urgent ++ [queued (.force (BitVec.ofNat 8 c.code))] } := by
  have room : s.link.urgent.length < urgentDepth := room
  rw [postForce, if_neg live, if_pos room]
  rfl

theorem postForce_full {c : ForceCause} (full : s.link.urgent.length = 2) : postForce c s = s := by
  have noRoom : ¬ s.link.urgent.length < urgentDepth := by rw [full]; decide
  rw [postForce, if_neg noRoom, ite_self]

/-! ## The own STATUS -/

/-- RUNNING, out of LISTEN and with no attempt in progress: a STATUS asked for takes the slot. -/
abbrev Sends (s : State) : Prop := s.hpi.running = true ∧ s.link.state ≠ .listen ∧ s.link.attempt = none

/-- The slot holds a fresh STATUS of the own values. -/
def withStatus (s : State) : State :=
  s.modLink fun l => { l with status := some (queued (.status (ownStatus s))) }

theorem queueStatus_eq (h : Sends s) : queueStatus s = withStatus s := by
  obtain ⟨running, live, free⟩ := h
  rw [queueStatus, running, Bool.true_and, if_pos (decide_eq_true live)]
  refine congrArg (fun k => { s with link := k }) ?_
  dsimp only
  rw [attempting_free free]
  rfl

/-- The own values do not read what an event changes. -/
theorem ownStatus_told : ownStatus (told l s) = ownStatus s := rfl

theorem queueStatus_told : queueStatus (told l s) = told l (queueStatus s) := by
  unfold queueStatus
  rw [told_running, told_link]
  split <;> rfl

theorem queueStatus_told_eq (h : Sends s) : queueStatus (told l s) = told l (withStatus s) := by
  rw [queueStatus_told, queueStatus_eq h]

/-- A STATUS of the own values as they stood at `u` is one of those at `t` where the named ones are the same. -/
theorem statusQueued_of {t : State} (slot : t.link.status = (withStatus u).link.status)
    (pvu : t.pvu = u.pvu := by rfl) (mode : t.trc.ownMode = u.trc.ownMode := by rfl)
    (isolated : isolatedFlag t = isolatedFlag u := by rfl) (claim : t.lva = u.lva := by rfl) : StatusQueued t := by
  refine ⟨ownStatus u, slot, ?_, ?_, ?_, ?_, ?_⟩
  · rw [pvu]; rfl
  · rw [pvu]; rfl
  · rw [mode]; rfl
  · rw [isolated]; rfl
  · rw [ownShown, claim]; rfl

/-! ## A dropped proposal (R100) -/

theorem clearProposal_eq (which : Msg → Bool) (reason : Byte) (s : State) : clearProposal which reason s
    = (withdraw which reason s).modTrc fun t => { t with activity := .none, proposal := none } := by
  simp [clearProposal, setActivity, State.modTrc]

theorem isOwnProposalMsg_eq (id : PropId) (e : TxEntry) : isOwnProposalMsg id e.msg = ofProposal id e := by
  obtain ⟨m, _, _⟩ := e
  cases m <;> rfl

/-- The proposer ends its proposal with a reason: its PROPOSE and ORDER leave the queue, and TRANSFER_CANCELLED is
raised. -/
theorem dropProposal_proposed {id : PropId} {dir : Direction} {r : Reason} (act : s.trc.activity = .proposed id dir)
    (free : s.link.attempt = none) (room : s.link.coord.length ≤ 8) (events : s.hpi.events.length ≤ 32) :
    dropProposal (some r) [] s = told [notice .transferCancelled [byteOf id.station.val, id.seq, byteOf r.code]]
      ((s.modLink (coordWithout (ofProposal id))).modTrc fun t => { t with activity := .none, proposal := none }) := by
  simp only [dropProposal, act, dropOwn, clearProposal_eq, withdraw_free free room, isOwnProposalMsg_eq]
  exact raise_eq_told _ _ events

/-! ## The end of a run (R140) -/

/-- A field of two bytes holds the low 16 bits of a number, as the messages lay it out. -/
theorem be16_ofNat (n : Nat) : be16 (BitVec.ofNat 16 n) = u16 n := by
  simp only [be16, u16, BitVec.toNat_ofNat, List.cons.injEq, and_true, ← BitVec.toNat_inj]
  omega

theorem be32_ofNat (n : Nat) : be32 (BitVec.ofNat 32 n) = u32 n := by
  simp only [be32, u32, BitVec.toNat_ofNat, List.cons.injEq, and_true, ← BitVec.toNat_inj]
  omega

/-- A run that ends with no verdict, its claim already gone. -/
theorem endRun_unclaimed {cause : EndCause}
    (noVerdict : ∀ resistance r, verdictOf cause resistance r = none) (unclaimed : s.lva = none)
    (events : s.hpi.events.length ≤ 32) :
    endRun cause s = told [runTold cause s] ((s.modClu fun c => { c with testWd := false }).modTsq fun t =>
      { t with state := .ended, run := RunRec.blank, result := some (resultOf cause s) }) := by
  have stands : releaseKind .test (s.modClu fun c => { c with testWd := false })
      = s.modClu fun c => { c with testWd := false } := by
    simp [releaseKind, unclaimed]
  simp only [endRun, noVerdict, stands, runTold, be16_ofNat]
  exact raise_eq_told _ _ events

theorem told_testWd (b : Bool) :
    (told l s).modClu (fun c => { c with testWd := b }) = told l (s.modClu fun c => { c with testWd := b }) := rfl

/-- The end of a run behind events. -/
theorem endRun_told {cause : EndCause} (noVerdict : ∀ resistance r, verdictOf cause resistance r = none)
    (unclaimed : s.lva = none) :
    endRun cause (told l s) = told (l ++ [runTold cause s]) ((s.modClu fun c => { c with testWd := false }).modTsq
      fun t => { t with state := .ended, run := RunRec.blank, result := some (resultOf cause s) }) := by
  rw [endRun_unclaimed (s := told l s) noVerdict unclaimed told_events_le, told_testWd, told_modTsq, told_told']
  rfl

/-! ## A visit that is cancelled (R163) -/

/-- A visit that has not isolated the station closes CANCELLED: its record goes to the log. -/
theorem closeVisit_cancelled {v : Visit} {cause : Byte} (visit : s.vsm.visit = some v)
    (present : v.state.isolates = false) (events : s.hpi.events.length ≤ 32) :
    closeVisit .cancelled [cause] s = told [closureTold v .cancelled [1#8, cause]] (s.modVsm fun m =>
      { m with visit := none, log := logged (logOf v .cancelled [] s) m.log }) := by
  have closed : VisitOutcome.cancelled ≠ .completed := by decide
  simp only [closeVisit, visit, present, closed, Bool.false_eq_true, if_false, closureTold, be16_ofNat]
  exact raise_eq_told _ _ events

theorem closeVisit_cancelled_told {v : Visit} {cause : Byte} (visit : s.vsm.visit = some v)
    (present : v.state.isolates = false) :
    closeVisit .cancelled [cause] (told l s) = told (l ++ [closureTold v .cancelled [1#8, cause]]) (s.modVsm fun m =>
      { m with visit := none, log := logged (logOf v .cancelled [] s) m.log }) := by
  rw [closeVisit_cancelled (s := told l s) visit present told_events_le, told_modVsm, told_told']
  rfl

/-! ## A claim that is denied (R115) -/

/-- The state after a claim still queued has left the queue and the record. -/
def claimWithdrawn (c : Claim) (s : State) : State :=
  (s.modLink (coordWithout fun e => decide (e.msg = .claim c.kind c.time))).setLva none

theorem denyClaim_queued {c : Claim} {reason : Byte} {p : Station} (claim : s.lva = some c)
    (waiting : c.inWindow = false) (free : s.link.attempt = none) (room : s.link.coord.length ≤ 8)
    (events : s.hpi.events.length ≤ 32) :
    denyClaim reason p s = queueStatus (tellDenial c.kind reason
      (told [notice .claimDenied [kindOfClaim c.kind, reason, byteOf p.val]] (claimWithdrawn c s))) := by
  simp only [denyClaim, claim, waiting, Bool.false_eq_true, if_false, withdraw_free free room, denialOf]
  refine congrArg (fun t => queueStatus (tellDenial c.kind reason t)) ?_
  cases c.kind <;> exact raise_eq_told _ _ events

/-- The part after the run that asked for a claim has ended with CLAIM_DENIED, its STATUS queued. -/
def runDenied (c : Claim) (s : State) : State :=
  withStatus (((claimWithdrawn c s).modClu fun l => { l with testWd := false }).modTsq fun t =>
    { t with state := .ended, run := RunRec.blank, result := some (resultOf .claimDenied s) })

theorem denyClaim_ofRun {c : Claim} {reason : Byte} {p : Station} (claim : s.lva = some c) (test : c.kind = .test)
    (waiting : c.inWindow = false) (claiming : s.tsq.state = .claiming) (sends : Sends s)
    (room : s.link.coord.length ≤ 8) (events : s.hpi.events.length ≤ 32) :
    denyClaim reason p s = told [notice .claimDenied [kindOfClaim c.kind, reason, byteOf p.val], runTold .claimDenied s]
      (runDenied c s) := by
  have state : (told [notice .claimDenied [kindOfClaim .test, reason, byteOf p.val]] (claimWithdrawn c s)).tsq.state
      = .claiming := claiming
  rw [denyClaim_queued claim waiting sends.2.2 room events, test, tellDenial]
  rw [if_pos state, endRun_told (fun _ _ => rfl) rfl, queueStatus_told_eq (by exact sends)]
  rfl

/-- The part after the visit that asked for a claim has closed CANCELLED, its STATUS queued. -/
def visitDenied (c : Claim) (v : Visit) (s : State) : State :=
  withStatus ((claimWithdrawn c s).modVsm fun m =>
    { m with visit := none, log := logged (logOf v .cancelled [] s) m.log })

theorem denyClaim_ofVisit {c : Claim} {v : Visit} {reason : Byte} {p : Station} (claim : s.lva = some c)
    (service : c.kind = .service) (waiting : c.inWindow = false) (visit : s.vsm.visit = some v)
    (requested : v.state = .requested) (sends : Sends s)
    (room : s.link.coord.length ≤ 8) (events : s.hpi.events.length ≤ 32) :
    denyClaim reason p s = told
      [notice .claimDenied [kindOfClaim c.kind, reason, byteOf p.val], closureTold v .cancelled [1#8, reason]]
      (visitDenied c v s) := by
  have state : visitState (told [notice .claimDenied [kindOfClaim .service, reason, byteOf p.val]] (claimWithdrawn c s))
      = some .requested := by
    rw [← requested]
    exact congrArg (Option.map (·.state)) visit
  rw [denyClaim_queued claim waiting sends.2.2 room events, service, tellDenial]
  rw [if_pos state, closeVisit_cancelled_told (s := claimWithdrawn c s) (v := v) visit (by rw [requested]; rfl),
    queueStatus_told_eq (by exact sends)]
  rfl

end Sys2Proof.Machine
end

section
/-! The failed attempt (R9 to R16): what it leaves at the link, and how the block that queued a discarded message goes
on. -/

namespace Sys2Proof.Machine

/-! ## Rows that end in a settled state -/

/-- The row leaves the given link and transfer coordinator, and nothing else has changed. -/
def LinkLeft (row : Instr) (link : Link) (trc : Trc) (s : State) : Prop :=
  ∃ t, exec row s = .next t ∧ t.link = link ∧ TrcIs trc t ∧ SameBut [.link, .trc] s t

/-- The row leaves the given link and transfer coordinator and raises the given events, and nothing else. -/
def LinkTold (row : Instr) (link : Link) (trc : Trc) (l : List EventSpec) (s : State) : Prop :=
  ∃ t, exec row s = .next t ∧ t.link = link ∧ Raised l s t ∧ PortKept s t ∧ LinesKept s t ∧ TrcIs trc t
    ∧ SameBut [.link, .clu, .trc, .hpi] s t

variable {s : State} {row : Instr}

theorem linkLeft_of_settle {link : Link} {trc : Trc}
    (runs : exec row s = .next (settle { s with link := link, trc := trc }))
    (kept : ClaimKept s) (station : link.station = s.link.station) (mode : trc.ownMode = s.trc.ownMode) :
    LinkLeft row link trc s := by
  have view : SameView s { s with link := link, trc := trc } := ⟨station, mode, rfl, rfl, rfl, rfl, rfl⟩
  obtain ⟨m, settled⟩ := settle_of_kept (view.claimKept rfl kept)
  exact ⟨_, runs, by rw [settled]; rfl, by rw [settled]; rfl, by rw [settled]; exact sameBut_of_eq⟩

theorem linkTold_of_settle {link : Link} {trc : Trc} {l : List EventSpec}
    (runs : exec row s = .next (settle (told l { s with link := link, trc := trc })))
    (kept : ClaimKept s) (station : link.station = s.link.station) (mode : trc.ownMode = s.trc.ownMode) :
    LinkTold row link trc l s := by
  have view : SameView s { s with link := link, trc := trc } := ⟨station, mode, rfl, rfl, rfl, rfl, rfl⟩
  obtain ⟨m, settled⟩ := settle_told (l := l) (view.claimKept rfl kept)
  exact ⟨_, runs, by rw [settled]; rfl, by rw [settled]; exact raised_told l (by constructor <;> rfl),
    by rw [settled]; exact portKept_told rfl, by rw [settled]; exact linesKept_told rfl, by rw [settled]; rfl,
    by rw [settled]; exact sameBut_of_eq⟩

/-! ## The link after a mismatch -/

section
variable (x : Mismatch) (a : Attempt) (l : Link)

theorem afterMismatch_eq : afterMismatch x a l = mismatched x a l := by
  cases x with
  | sensedDominant => rfl
  | sensedRecessive idle => cases idle <;> rfl

/-- A mismatch ends the attempt and touches the reception alone. -/
theorem mismatched_frame : ∃ last idle rx,
    mismatched x a l = { l with attempt := none, lastTransmitter := last, lineIdle := idle, rx := rx } := by
  unfold mismatched
  split
  · exact ⟨_, _, _, rfl⟩
  · exact ⟨_, _, _, rfl⟩

@[simp] theorem mismatched_urgent : (mismatched x a l).urgent = l.urgent := by
  obtain ⟨_, _, _, h⟩ := mismatched_frame x a l
  rw [h]
@[simp] theorem mismatched_coord : (mismatched x a l).coord = l.coord := by
  obtain ⟨_, _, _, h⟩ := mismatched_frame x a l
  rw [h]
@[simp] theorem mismatched_status : (mismatched x a l).status = l.status := by
  obtain ⟨_, _, _, h⟩ := mismatched_frame x a l
  rw [h]
@[simp] theorem mismatched_heldStatus : (mismatched x a l).heldStatus = l.heldStatus := by
  obtain ⟨_, _, _, h⟩ := mismatched_frame x a l
  rw [h]
@[simp] theorem mismatched_station : (mismatched x a l).station = l.station := by
  obtain ⟨_, _, _, h⟩ := mismatched_frame x a l
  rw [h]
@[simp] theorem mismatched_state : (mismatched x a l).state = l.state := by
  obtain ⟨_, _, _, h⟩ := mismatched_frame x a l
  rw [h]
@[simp] theorem mismatched_attempt : (mismatched x a l).attempt = none := by
  obtain ⟨_, _, _, h⟩ := mismatched_frame x a l
  rw [h]

end

/-! ## The head of a queue -/

/-- A COORD queue that loses its head has room, and its congestion is over (R13). -/
theorem removeHead_coord {l : Link} {e : TxEntry} {rest : List TxEntry} (queue : l.coord = e :: rest)
    (room : l.coord.length ≤ 8) : removeHead .coord l = { l with coord := rest, congestionReported := false } := by
  have short : rest.length < coordDepth := by
    rw [queue, List.length_cons] at room
    exact room
  simp only [removeHead, settleCongestion_eq, queue, List.drop_succ_cons, List.drop_zero, short, decide_true,
    Bool.not_true, Bool.and_false]

theorem removeHead_urgent {l : Link} {e : TxEntry} {rest : List TxEntry} (queue : l.urgent = e :: rest) :
    removeHead .urgent l = { l with urgent := rest } := by
  simp only [removeHead, queue, List.drop_succ_cons, List.drop_zero]

/-! ## A failed attempt -/

section
variable {x : Mismatch} {a : Attempt} {e : TxEntry}

theorem exec_attemptFailed (att : s.link.attempt = some a) (head : headOf a.cls s.link = some e) :
    exec (.attemptFailed x) s = .next (settle (failEntry a.cls e (s.modLink (mismatched x a)))) := by
  have link : afterMismatch x a = mismatched x a := funext (afterMismatch_eq x a)
  show Host.Outcome.next (attemptFailed x s) = _
  simp only [attemptFailed, att, head, link]

/-- An attempt that is not the 16th, of a message that still stands, is counted. -/
theorem attemptFailed_counts (att : s.link.attempt = some a) (head : headOf a.cls s.link = some e)
    (kept : ClaimKept s) (few : e.attempts < 15) (wanted : e.withdrawn = none)
    (slot : a.cls = .status → s.link.heldStatus = none) :
    LinkLeft (.attemptFailed x) (putHead a.cls { e with attempts := e.attempts + 1 } (mismatched x a s.link))
      s.trc s := by
  have more : ¬ maxAttempts ≤ e.attempts + 1 := by unfold maxAttempts; omega
  have stands : (e.withdrawn.isSome || (decide (a.cls = .status) && s.link.heldStatus.isSome)) = false := by
    rw [wanted]
    by_cases h : a.cls = .status
    · simp [slot h]
    · simp [h]
  refine linkLeft_of_settle ?_ kept ?_ rfl
  · rw [exec_attemptFailed att head, failEntry, if_neg more]
    simp only [State.modLink_link, mismatched_heldStatus, stands, Bool.false_eq_true, if_false]
    rfl
  · cases a.cls <;> exact mismatched_station x a s.link

/-- A message withdrawn meanwhile, or a STATUS behind which one is held back, leaves its queue with no outcome. -/
theorem attemptFailed_removes (att : s.link.attempt = some a) (head : headOf a.cls s.link = some e)
    (kept : ClaimKept s) (few : e.attempts < 15)
    (gone : e.withdrawn ≠ none ∨ a.cls = .status ∧ s.link.heldStatus ≠ none) :
    LinkLeft (.attemptFailed x) (removeHead a.cls (mismatched x a s.link)) s.trc s := by
  have more : ¬ maxAttempts ≤ e.attempts + 1 := by unfold maxAttempts; omega
  have leaves : (e.withdrawn.isSome || (decide (a.cls = .status) && s.link.heldStatus.isSome)) = true := by
    rw [Bool.or_eq_true, Bool.and_eq_true, Option.isSome_iff_ne_none, Option.isSome_iff_ne_none, decide_eq_true_iff]
    exact gone
  refine linkLeft_of_settle ?_ kept ?_ rfl
  · rw [exec_attemptFailed att head, failEntry, if_neg more]
    simp only [State.modLink_link, mismatched_heldStatus, leaves, if_true]
    rfl
  · cases a.cls with
    | coord => rw [removeHead, settleCongestion_eq]; exact mismatched_station x a s.link
    | urgent | status => exact mismatched_station x a s.link

/-! ## The 16th failure -/

/-- The link muted for 5 s with cause FAILURES (R16). -/
def failuresMuted (l : Link) : Link := { l with state := .mutedFailures, muteTimer := some 50000 }

/-- LINK_MUTED with cause FAILURES and the kind of the message discarded. -/
def mutedTold (m : Msg) : EventSpec := alarm .linkMuted [1#8, byteOf m.kindCode]

theorem muteForFailures_told (m : Msg) (l : List EventSpec) (u : State) :
    muteForFailures m (told l u) = told (l ++ [mutedTold m]) (u.modLink failuresMuted) := by
  rw [muteForFailures, told_modLink, raise_told]
  rfl

/-- The link after the head of the queue attempted is discarded. -/
def headDiscarded (x : Mismatch) (a : Attempt) (s : State) : State :=
  s.modLink fun l => removeHead a.cls (mismatched x a l)

theorem attemptFailed_spent (att : s.link.attempt = some a) (head : headOf a.cls s.link = some e)
    (spent : e.attempts = 15) : exec (.attemptFailed x) s = .next (settle (muteForFailures e.msg
      (if e.withdrawn.isSome then headDiscarded x a s else reportFailure e.msg (headDiscarded x a s)))) := by
  have last : maxAttempts ≤ e.attempts + 1 := by rw [spent]; decide
  rw [exec_attemptFailed att head, failEntry, if_pos last]
  rfl

/-- A discarded message after which its block does nothing. -/
theorem attemptFailed_silent (inv : Inv s) (att : s.link.attempt = some a) (head : headOf a.cls s.link = some e)
    (kept : ClaimKept s) (spent : e.attempts = 15)
    (silent : e.withdrawn ≠ none ∨ reportFailure e.msg (headDiscarded x a s) = headDiscarded x a s) :
    LinkTold (.attemptFailed x) (failuresMuted (removeHead a.cls (mismatched x a s.link))) s.trc
      [mutedTold e.msg] s := by
  have reported : (if e.withdrawn.isSome then headDiscarded x a s else reportFailure e.msg (headDiscarded x a s))
      = told [] (headDiscarded x a s) := by
    rw [told_nil (s := headDiscarded x a s) inv.events]
    split
    · rfl
    · rename_i open_
      exact silent.resolve_left fun h => open_ (Option.isSome_iff_ne_none.mpr h)
  refine linkTold_of_settle ?_ kept ?_ rfl
  · rw [attemptFailed_spent att head spent, reported, muteForFailures_told]
    rfl
  · cases a.cls with
    | coord => rw [removeHead, settleCongestion_eq]; exact mismatched_station x a s.link
    | urgent | status => exact mismatched_station x a s.link

/-- The part after the 16th failure of the head of COORD, before its block is told. -/
def coordDiscarded (x : Mismatch) (a : Attempt) (rest : List TxEntry) (s : State) : State :=
  s.modLink fun l => { mismatched x a l with coord := rest, congestionReported := false }

theorem headDiscarded_coord {rest : List TxEntry} (inv : Inv s) (cls : a.cls = .coord)
    (queue : s.link.coord = e :: rest) : headDiscarded x a s = coordDiscarded x a rest s := by
  refine congrArg (fun l => { s with link := l }) ?_
  dsimp only
  rw [cls, removeHead_coord (e := e) (rest := rest) (by rw [mismatched_coord, queue])
    (by rw [mismatched_coord]; exact inv.coord)]

/-- A discarded COORD message whose block goes on behind the link. -/
theorem attemptFailed_reported {u : State} {l : List EventSpec} {rest : List TxEntry} (inv : Inv s)
    (att : s.link.attempt = some a) (cls : a.cls = .coord) (queue : s.link.coord = e :: rest) (spent : e.attempts = 15)
    (wanted : e.withdrawn = none) (reported : reportFailure e.msg (coordDiscarded x a rest s) = told l u) :
    exec (.attemptFailed x) s = .next (settle (told (l ++ [mutedTold e.msg]) (u.modLink failuresMuted))) := by
  rw [attemptFailed_spent att (by rw [cls, headOf, queue]; rfl) spent, wanted, headDiscarded_coord inv cls queue,
    reported]
  exact congrArg (fun t => Host.Outcome.next (settle t)) (muteForFailures_told _ _ _)

end

/-! ## How the block goes on (R92, R95, R115) -/

section
variable {id : PropId} {dir : Direction} {r : ProposalRec}

/-- Nothing follows a PROPOSE or an ORDER without a planned activity, or a CLAIM without an own claim. -/
theorem reportFailure_unplanned {m : Msg} (plan : s.trc.activity = .none)
    (kind : (∃ seq d p q, m = .propose seq d p q) ∨ ∃ i, m = .order i) : reportFailure m s = s := by
  obtain ⟨_, _, _, _, rfl⟩ | ⟨_, rfl⟩ := kind <;> simp only [reportFailure, plan]

theorem reportFailure_unclaimed {k : ClaimKind} {time : FloorTime} (claim : s.lva = none) :
    reportFailure (.claim k time) s = s := by
  simp only [reportFailure, claim]

theorem reportFailure_propose {seq : Byte} {d : Direction} {p q : FloorTime} (act : s.trc.activity = .proposed id dir)
    (prop : s.trc.proposal = some r) (phase : r.phase = some .queued) (own : id.seq = seq) :
    reportFailure (.propose seq d p q) s = dropProposal (some .notSent) [] s := by
  simp only [reportFailure, act, prop, phase, own, and_self, if_true]

theorem reportFailure_order (act : s.trc.activity = .proposed id dir)
    (prop : s.trc.proposal = some r) (phase : r.phase = some .ordering) :
    reportFailure (.order id) s = cancelProposal id .notSent [] s := by
  simp only [reportFailure, act, prop, phase, and_self, if_true]

theorem reportFailure_claim {c : Claim} (claim : s.lva = some c) (pending : c.granted = false)
    (waiting : c.inWindow = false) :
    reportFailure (.claim c.kind c.time) s = denyClaim (byteOf Reason.notSent.code) s.link.station s := by
  simp only [reportFailure, claim, pending, waiting, Bool.not_false, and_self, if_true]
  rfl

/-- CANCEL queued, then the proposal ended with its reason (R94, R95). -/
theorem cancelProposal_proposed {reason : Reason} (act : s.trc.activity = .proposed id dir)
    (live : s.link.state ≠ .listen) (free : s.link.attempt = none) (room : s.link.coord.length < 8)
    (calm : s.link.congestionReported = false) (events : s.hpi.events.length ≤ 32) :
    cancelProposal id reason [] s = told [notice .transferCancelled [byteOf id.station.val, id.seq, byteOf reason.code]]
      ((s.modLink fun l => { l with
        coord := (l.coord.filter fun q => !ofProposal id q) ++ [queued (.cancel id (byteOf reason.code))] }).modTrc
          fun t => { t with activity := .none, proposal := none }) := by
  have posted := dropProposal_proposed (s := s.modLink fun l => { l with
    coord := l.coord ++ [queued (.cancel id (byteOf reason.code))] }) (r := reason) act free (by simp; omega) events
  have stays : (queued (.cancel id (byteOf reason.code)) :: []).filter (fun q => !ofProposal id q)
      = [queued (.cancel id (byteOf reason.code))] := rfl
  rw [cancelProposal, postCoord_room live room]
  refine posted.trans (congrArg (told _) ?_)
  refine congrArg (fun l => (State.modTrc _ { s with link := l })) ?_
  simp only [State.modLink_link, coordWithout, List.filter_append, stays, calm, Bool.false_and]

end

/-- Settles O29. -/
theorem failedAttemptCountsThenMutes : Obligations.FailedAttemptCountsThenMutes := by
  refine ⟨?_, ?_⟩
  · intro x a e rest s att kept few
    refine ⟨?_, ?_, ?_, ?_, ?_⟩
    · intro cls queue wanted
      have counts := attemptFailed_counts (x := x) att (e := e) (by rw [cls, headOf, queue]; rfl) kept few wanted
        (by simp [cls])
      simp only [cls, putHead, mismatched_urgent, queue, List.drop_succ_cons, List.drop_zero] at counts
      exact counts
    · intro cls queue wanted
      have counts := attemptFailed_counts (x := x) att (e := e) (by rw [cls, headOf, queue]; rfl) kept few wanted
        (by simp [cls])
      simp only [cls, putHead, mismatched_coord, queue, List.drop_succ_cons, List.drop_zero] at counts
      exact counts
    · intro cls queue gone inv
      have removes := attemptFailed_removes (x := x) att (e := e) (by rw [cls, headOf, queue]; rfl) kept few (.inl gone)
      rw [cls, removeHead_coord (e := e) (rest := rest) (by rw [mismatched_coord, queue])
        (by rw [mismatched_coord]; exact inv.coord)] at removes
      exact removes
    · intro cls slot held wanted
      have counts := attemptFailed_counts (x := x) att (e := e) (by rw [cls, headOf, slot]) kept few wanted
        fun _ => held
      rw [cls] at counts
      exact counts
    · intro cls slot m held
      have removes := attemptFailed_removes (x := x) att (e := e) (by rw [cls, headOf, slot]) kept few
        (.inr ⟨cls, by rw [held]; simp⟩)
      rw [cls, removeHead, mismatched_heldStatus, held] at removes
      exact removes
  · intro x a e rest s inv att kept spent
    have short : a.cls = .coord → s.link.coord = e :: rest → rest.length < 8 := fun _ queue => by
      have room := inv.coord
      rw [queue, List.length_cons] at room
      exact room
    have live : (coordDiscarded x a rest s).link.state ≠ .listen := fun listen => by
      have listen : s.link.state = .listen := (mismatched_state x a s.link).symm.trans listen
      rw [inv.attempt listen] at att
      exact absurd att (by simp)
    have free : (coordDiscarded x a rest s).link.attempt = none := mismatched_attempt x a s.link
    refine ⟨?_, ?_, ?_, ?_, ?_, ?_⟩
    · intro cause cls queue msg
      have silent := attemptFailed_silent (x := x) inv att (e := e) (by rw [cls, headOf, queue]; rfl) kept spent
        (.inr (by rw [msg]; rfl))
      rw [cls, removeHead_urgent (e := e) (rest := rest) (by rw [mismatched_urgent, queue]), msg] at silent
      exact silent
    · rintro cls slot ⟨m, msg⟩
      have silent := attemptFailed_silent (x := x) inv att (e := e) (by rw [cls, headOf, slot]) kept spent
        (.inr (by rw [msg]; rfl))
      rw [cls, removeHead, mismatched_heldStatus, msg] at silent
      exact silent
    · intro kind cls queue informing
      have head : headOf a.cls s.link = some e := by rw [cls, headOf, queue]; rfl
      obtain ⟨silent, code⟩ : (e.withdrawn ≠ none ∨ reportFailure e.msg (headDiscarded x a s) = headDiscarded x a s)
          ∧ byteOf e.msg.kindCode = kind := by
        rcases informing with ⟨⟨_, msg⟩, rfl⟩ | ⟨⟨_, _, msg⟩, rfl⟩ | ⟨⟨_, _, _, msg⟩, rfl⟩ | ⟨⟨_, _, msg⟩, rfl⟩
          | ⟨⟨_, _, msg⟩, rfl⟩ | ⟨⟨_, _, _, _, msg⟩, rfl, plan⟩ | ⟨⟨_, msg⟩, rfl, plan⟩ | ⟨⟨_, _, msg⟩, rfl, claim⟩
        case inr.inr.inr.inr.inr.inl =>
          exact ⟨plan.symm.imp id fun none => reportFailure_unplanned none (.inl ⟨_, _, _, _, msg⟩), by rw [msg]; rfl⟩
        case inr.inr.inr.inr.inr.inr.inl =>
          exact ⟨plan.symm.imp id fun none => reportFailure_unplanned none (.inr ⟨_, msg⟩), by rw [msg]; rfl⟩
        case inr.inr.inr.inr.inr.inr.inr =>
          exact ⟨claim.symm.imp id fun none => msg ▸ reportFailure_unclaimed none, by rw [msg]; rfl⟩
        all_goals exact ⟨.inr (by rw [msg]; rfl), by rw [msg]; rfl⟩
      have told := attemptFailed_silent (x := x) inv att head kept spent silent
      rw [cls, removeHead_coord (e := e) (rest := rest) (by rw [mismatched_coord, queue])
        (by rw [mismatched_coord]; exact inv.coord), mutedTold, code] at told
      exact told
    · intro seq dir at_ ex id r cls queue msg wanted act prop phase own
      have reported := (congrArg (reportFailure · (coordDiscarded x a rest s)) msg).trans
        ((reportFailure_propose (s := coordDiscarded x a rest s) act prop phase own).trans
          (dropProposal_proposed act free (short cls queue).le inv.events))
      have runs := attemptFailed_reported inv att cls queue spent wanted reported
      rw [msg] at runs
      exact linkTold_of_settle runs kept (mismatched_station x a s.link) rfl
    · intro dir id r cls queue msg wanted act prop phase
      have reported := (congrArg (reportFailure · (coordDiscarded x a rest s)) msg).trans
        ((reportFailure_order (s := coordDiscarded x a rest s) act prop phase).trans
          (cancelProposal_proposed act live free (short cls queue) rfl inv.events))
      have runs := attemptFailed_reported inv att cls queue spent wanted reported
      rw [msg] at runs
      exact linkTold_of_settle runs kept (mismatched_station x a s.link) rfl
    · intro c cls queue msg wanted claim pending waiting
      have running : s.hpi.running = true := by
        by_contra h
        exact live ((mismatched_state x a s.link).trans (inv.listen.mpr (by simpa using h)))
      have sends : Sends (coordDiscarded x a rest s) := ⟨running, live, free⟩
      have own : (coordDiscarded x a rest s).link.station = s.link.station := mismatched_station x a s.link
      refine ⟨?_, ?_⟩
      · intro test claiming
        have reported := (congrArg (reportFailure · (coordDiscarded x a rest s)) msg).trans
          ((reportFailure_claim (s := coordDiscarded x a rest s) claim pending waiting).trans
            (denyClaim_ofRun claim test waiting claiming sends (short cls queue).le inv.events))
        have runs := attemptFailed_reported inv att cls queue spent wanted reported
        rw [msg, own] at runs
        obtain ⟨m, settled⟩ := settle_told
          (u := (runDenied c (coordDiscarded x a rest s)).modLink failuresMuted) (claimKept_none rfl)
        rw [settled] at runs
        exact ⟨_, runs, ⟨rfl, portKept_told rfl, rfl, by simp only [ne_eq, decide_not]; rfl, statusQueued_of rfl⟩,
          rfl, rfl, raised_told _ (by constructor <;> rfl), sameBut_of_eq⟩
      · intro v service visit requested
        have reported := (congrArg (reportFailure · (coordDiscarded x a rest s)) msg).trans
          ((reportFailure_claim (s := coordDiscarded x a rest s) claim pending waiting).trans
            (denyClaim_ofVisit claim service waiting visit requested sends (short cls queue).le inv.events))
        have runs := attemptFailed_reported inv att cls queue spent wanted reported
        rw [msg, own] at runs
        obtain ⟨m, settled⟩ := settle_told
          (u := (visitDenied c v (coordDiscarded x a rest s)).modLink failuresMuted) (claimKept_none rfl)
        rw [settled] at runs
        exact ⟨_, runs, ⟨rfl, portKept_told rfl, rfl, by simp only [ne_eq, decide_not]; rfl, statusQueued_of rfl⟩,
          linesKept_told rfl, rfl, raised_told _ (by constructor <;> rfl), sameBut_of_eq⟩

end Sys2Proof.Machine
end

section
/-! The completed attempt (R14, R32, R93, R95, R115), and the execution of a planned transfer (R99). -/

namespace Sys2Proof.Machine

variable {s : State} {row : Instr}

/-- A longer list of blocks that may change says less. -/
theorem sameBut_mono {b c : List Block} {t : State} (sub : ∀ x ∈ b, x ∈ c) (h : SameBut b s t) : SameBut c s t :=
  fun x hx => h x fun hb => hx (sub x hb)

/-- A row that settles where the claim is kept leaves the last-known floor mode open, and nothing else. -/
theorem runs_settled {r u : State} (runs : exec row r = .next (settle u)) (kept : ClaimKept u) :
    ∃ m, exec row r = .next (u.modTrc fun t => { t with lastKnown := m }) := by
  obtain ⟨m, settled⟩ := settle_of_kept kept
  exact ⟨m, settled ▸ runs⟩

theorem runs_settled_told {r u : State} {l : List EventSpec} (runs : exec row r = .next (settle (told l u)))
    (kept : ClaimKept u) : ∃ m, exec row r = .next (told l (u.modTrc fun t => { t with lastKnown := m })) := by
  obtain ⟨m, settled⟩ := settle_told (l := l) kept
  exact ⟨m, settled ▸ runs⟩

/-! ## Floor time (R1) -/

theorem reached_iff {t : FloorTime} : reached s.ftu.floorTime t = true ↔ ¬ Ahead t s := by
  unfold reached timeDiff Ahead
  rw [decide_eq_true_iff, not_lt]

theorem windowTime_eq (s : State) : windowTime s = BitVec.ofNat 32 (10 * s.hpi.floor.respWindow) := by
  rw [windowTime, ticksTime, ticksOfMs, Nat.mul_comm]

theorem claimTerm_eq (s : State) : claimTerm s = 10 * s.hpi.floor.claimWindow := Nat.mul_comm _ _

/-! ## The message leaves its queue -/

section
variable {a : Attempt} {e : TxEntry} {rest : List TxEntry}

/-- The part after the head of the queue attempted has been driven in full. -/
def headSent (a : Attempt) (s : State) : State :=
  s.modLink fun l => { removeHead a.cls l with attempt := none, lastTransmitter := true }

theorem exec_attemptComplete (att : s.link.attempt = some a) (head : headOf a.cls s.link = some e) :
    exec .attemptComplete s = .next (settle (reportSent e a.txStart (headSent a s))) := by
  show Host.Outcome.next (attemptComplete s) = _
  simp only [attemptComplete, att, head]
  rfl

/-- The part after the head of COORD has been driven in full. -/
def coordSent (rest : List TxEntry) (s : State) : State :=
  s.modLink fun l => { l with attempt := none, lastTransmitter := true, coord := rest, congestionReported := false }

theorem exec_coordComplete (inv : Inv s) (att : s.link.attempt = some a) (cls : a.cls = .coord)
    (queue : s.link.coord = e :: rest) :
    exec .attemptComplete s = .next (settle (reportSent e a.txStart (coordSent rest s))) := by
  have sent : headSent a s = coordSent rest s := by
    refine congrArg (fun l => { s with link := l }) ?_
    dsimp only
    rw [cls, removeHead_coord queue inv.coord]
  rw [exec_attemptComplete att (by rw [cls, headOf, queue]; rfl), sent]

/-- A part with an attempt in progress is out of LISTEN, and so RUNNING. -/
theorem live_of_attempt (inv : Inv s) (att : s.link.attempt = some a) :
    s.hpi.running = true ∧ s.link.state ≠ .listen := by
  have live : s.link.state ≠ .listen := fun listen => by
    rw [inv.attempt listen] at att
    exact absurd att (by simp)
  refine ⟨?_, live⟩
  by_contra h
  exact live (inv.listen.mpr (by simpa using h))

end

/-! ## What a completion begins -/

section
variable {id : PropId} {dir : Direction} {r : ProposalRec} {e : TxEntry}

theorem setActivity_planned {a : Activity} (h : s.trc.activity ≠ .none) :
    setActivity a s = s.modTrc fun t => { t with activity := a } := by
  refine congrArg (fun t => { s with trc := t }) ?_
  dsimp only
  rw [if_neg fun both => h both.1]

theorem setActivity_none (s : State) : setActivity .none s = s.modTrc fun t => { t with activity := .none } := by
  simp [setActivity]

theorem modProposal_some (f : ProposalRec → ProposalRec) (h : s.trc.proposal = some r) :
    modProposal f s = s.modTrc fun t => { t with proposal := some (f r) } := by
  refine congrArg (fun t => { s with trc := t }) ?_
  dsimp only
  rw [h]
  rfl

/-- A PROPOSE withdrawn while it was driven is answered with CANCEL (R100). -/
theorem proposeSent_withdrawn {sq : Byte} {reason : Byte} (gone : e.withdrawn = some reason)
    (live : s.link.state ≠ .listen) (room : s.link.coord.length < 8) :
    proposeSent sq e s
      = s.modLink fun l => { l with coord := l.coord ++ [queued (.cancel ⟨s.link.station, sq⟩ reason)] } := by
  simp only [proposeSent, gone]
  exact postCoord_room live room

theorem proposeSent_late {sq : Byte} (wanted : e.withdrawn = none) (act : s.trc.activity = .proposed id dir)
    (prop : s.trc.proposal = some r) (phase : r.phase = some .queued) (own : id.seq = sq)
    (late : ¬ Ahead (r.executeAt - BitVec.ofNat 32 (10 * s.hpi.floor.respWindow)) s)
    (live : s.link.state ≠ .listen) (free : s.link.attempt = none) (room : s.link.coord.length < 8)
    (events : s.hpi.events.length ≤ 32) :
    proposeSent sq e s = told [notice .transferCancelled [byteOf id.station.val, id.seq, byteOf Reason.late.code]]
      (((s.modLink (coordWithout (ofProposal id))).modTrc fun t =>
        { t with activity := .none, proposal := none }).modLink fun l =>
          { l with coord := l.coord ++ [queued (.cancel id (byteOf Reason.late.code))] }) := by
  subst own
  have past := reached_iff.mpr late
  simp only [proposeSent, wanted, act, prop, phase, and_self, if_true, windowTime_eq, past]
  rw [dropProposal_proposed act free room.le events]
  have short : (coordWithout (ofProposal id) s.link).coord.length < 8 := (List.length_filter_le _ _).trans_lt room
  exact postCoord_room (s := told _ (State.modTrc _ (s.modLink (coordWithout (ofProposal id))))) live short

/-- The part with the response window of its proposal open over the present peers in the source mode (R93). -/
def windowOpened (dir : Direction) (r : ProposalRec) (s : State) : State :=
  s.modTrc fun t => { t with proposal := some { r with
    phase := some .window, consentSet := sourcePeers dir s, consents := []
    window := some (10 * s.hpi.floor.respWindow) } }

theorem proposeSent_window {sq : Byte} (wanted : e.withdrawn = none) (act : s.trc.activity = .proposed id dir)
    (prop : s.trc.proposal = some r) (phase : r.phase = some .queued) (own : id.seq = sq)
    (inTime : Ahead (r.executeAt - BitVec.ofNat 32 (10 * s.hpi.floor.respWindow)) s) :
    proposeSent sq e s = checkConsents (windowOpened dir r s) := by
  have early : reached s.ftu.floorTime (r.executeAt - BitVec.ofNat 32 (10 * s.hpi.floor.respWindow)) = false :=
    Bool.eq_false_iff.mpr fun h => reached_iff.mp h inTime
  have peers : (peersInSource s dir).map (·.station) = sourcePeers dir s := by
    rw [peersInSource, presentPeers, List.filter_filter]
    refine congrArg (List.map _) (List.filter_congr fun p _ => ?_)
    rw [Bool.and_comm, Bool.and_assoc]
    cases dir <;> simp only [Report.inSource, Bool.decide_and]
  have term : ticksOfMs s.hpi.floor.respWindow = 10 * s.hpi.floor.respWindow := Nat.mul_comm _ _
  simp only [proposeSent, wanted, act, prop, phase, own, and_self, if_true, windowTime_eq, early, Bool.false_eq_true,
    if_false, modProposal_some _ prop, peers, term, windowOpened]

/-- A member of the consent set is still to answer. -/
theorem checkConsents_open (act : s.trc.activity = .proposed id dir) (prop : s.trc.proposal = some r)
    (members : r.consentSet ≠ []) (consents : r.consents = []) : checkConsents s = s := by
  have missing : (r.consentSet.all fun p => r.consents.contains p) = false := by
    cases h : r.consentSet with
    | nil => exact absurd h members
    | cons p rest => simp [consents]
  simp only [checkConsents, act, prop, missing, Bool.false_eq_true, and_false, if_false]

/-- With no member to ask the ORDER is queued at once (R94). -/
theorem checkConsents_alone (act : s.trc.activity = .proposed id dir) (prop : s.trc.proposal = some r)
    (phase : r.phase = some .window) (members : r.consentSet = []) (live : s.link.state ≠ .listen)
    (room : s.link.coord.length < 8) :
    checkConsents s = (s.modTrc fun t => { t with
      proposal := some { r with phase := some .ordering, consentSet := [], window := none } }).modLink fun l =>
        { l with coord := l.coord ++ [queued (.order id)] } := by
  rw [← members]
  simp only [checkConsents, act, prop, phase, members, List.all_nil, and_self, if_true, queueOrder,
    modProposal_some _ prop]
  rw [queueCoord_room (s := State.modTrc _ s) live room]

theorem orderSent_arms (act : s.trc.activity = .proposed id dir) (prop : s.trc.proposal = some r)
    (phase : r.phase = some .ordering) : orderSent id s = arm id dir r.executeAt s := by
  simp only [orderSent, act, prop, phase, and_self, if_true]

/-- The proposal armed, with the record that R85 gives it. -/
def proposalArmed (id : PropId) (dir : Direction) (r : ProposalRec) (s : State) : State :=
  s.modTrc fun t => { t with activity := .armed id dir r.executeAt, proposal := some r.ordered }

theorem arm_eq (act : s.trc.activity = .proposed id dir) (prop : s.trc.proposal = some r) :
    arm id dir r.executeAt s
      = if reached s.ftu.floorTime r.executeAt then executeTransfer id dir (proposalArmed id dir r s)
        else proposalArmed id dir r s := by
  have planned : s.trc.activity ≠ .none := by rw [act]; exact fun h => by cases h
  have record := modProposal_some (s := s.modTrc fun t => { t with activity := .armed id dir r.executeAt })
    ProposalRec.ordered prop
  rw [arm, setActivity_planned planned, record]
  rfl

end

/-! ## The end of a run that holds its claim (R126, R138, R140) -/

section
variable {c : Claim} {cause : EndCause}

/-- The link after a claim is released: RELEASE of one that was made known, the CLAIM of one still queued withdrawn. -/
def claimReleased (c : Claim) (l : Link) : Link :=
  if c.granted || c.inWindow then { l with coord := l.coord ++ [queued (.release c.kind c.time)] }
  else coordWithout (fun e => decide (e.msg = .claim c.kind c.time)) l

theorem releaseClaim_eq (claim : s.lva = some c) (sends : Sends s) (room : s.link.coord.length < 8) :
    releaseClaim s = withStatus ((s.modLink (claimReleased c)).setLva none) := by
  obtain ⟨running, live, free⟩ := sends
  have left : (if c.granted || c.inWindow then postCoord (.release c.kind c.time) s
      else withdraw (isOwnClaim c) noReason s) = s.modLink (claimReleased c) := by
    unfold claimReleased
    split
    · exact postCoord_room live room
    · exact withdraw_free free room.le
  have stands : (claimReleased c s.link).state = s.link.state ∧ (claimReleased c s.link).attempt = s.link.attempt := by
    unfold claimReleased
    split <;> exact ⟨rfl, rfl⟩
  simp only [releaseClaim, claim, left]
  exact queueStatus_eq ⟨running, fun h => live (stands.1.symm.trans h), stands.2.trans free⟩

/-- The part after a run has ended, TEST-WD fallen and its claim released, before its result is filled. -/
def runReleasing (c : Claim) (s : State) : State :=
  withStatus (((s.modClu fun k => { k with testWd := false }).modLink (claimReleased c)).setLva none)

/-- A run that ends with no verdict while it holds its claim. -/
theorem endRun_releases (noVerdict : ∀ resistance r, verdictOf cause resistance r = none) (claim : s.lva = some c)
    (test : c.kind = .test) (sends : Sends s) (room : s.link.coord.length < 8) (events : s.hpi.events.length ≤ 32) :
    endRun cause s = told [runTold cause s] ((runReleasing c s).modTsq fun t =>
      { t with state := .ended, run := RunRec.blank, result := some (resultOf cause s) }) := by
  have kind : (s.modClu fun k => { k with testWd := false }).lva.map (·.kind) = some .test := by
    rw [State.modClu_lva, claim, Option.map_some, test]
  have released : releaseKind .test (s.modClu fun k => { k with testWd := false }) = runReleasing c s := by
    rw [releaseKind, if_pos kind]
    exact releaseClaim_eq (s := s.modClu _) claim sends room
  simp only [endRun, noVerdict, released, runTold, be16_ofNat]
  exact raise_eq_told _ _ events

end

/-- The part that stands as in `s` with the given link and transfer coordinator, after a run in progress has ended with
a cause and the STATUS slot holds `status`; without a run the part itself. -/
def runOver (cause : EndCause) (link : Link) (status : Option TxEntry) (trc : Trc) (s : State) : State :=
  { s with
    link := { runReleased s link with status := status }
    clu := wdOver s s.clu
    trc := trc
    lva := if s.tsq.state.inProgress then none else s.lva
    tsq := if s.tsq.state.inProgress then
        { s.tsq with state := .ended, run := RunRec.blank, result := some (resultOf cause s) } else s.tsq }

theorem runReleased_frame (s : State) (l : Link) :
    (runReleased s l).station = l.station ∧ (runReleased s l).status = l.status := by
  unfold runReleased
  split
  · exact ⟨rfl, rfl⟩
  · split <;> exact ⟨rfl, rfl⟩

theorem runReleased_eq {c : Claim} (claim : s.lva = some c) (test : c.kind = .test) (l : Link) :
    runReleased s l = claimReleased c l := by
  simp only [runReleased, runClaim, claim, test, Option.filter_some, decide_true, if_true, claimReleased]

/-- A run in progress that ends with no verdict leaves its claim released and its STATUS queued. -/
theorem abortRun_eq {cause : EndCause} {link : Link} {trc : Trc}
    (noVerdict : ∀ resistance r, verdictOf cause resistance r = none) (holds : RunHoldsClaim s)
    (running : s.hpi.running = true) (live : link.state ≠ .listen) (free : link.attempt = none)
    (room : link.coord.length < 8) (events : s.hpi.events.length ≤ 32) :
    ∃ status, abortRun cause { s with link := link, trc := trc }
        = told (runOverTold cause s) (runOver cause link status trc s)
      ∧ (s.tsq.state.inProgress = true → StatusQueued (runOver cause link status trc s))
      ∧ (s.tsq.state.inProgress = false → status = link.status) := by
  cases inProgress : s.tsq.state.inProgress with
  | false =>
    have unclaimed : runClaim s = none := by
      rw [RunHoldsClaim, inProgress] at holds
      simpa using holds.symm
    have stands : runOver cause link link.status trc s = { s with link := link, trc := trc } := by
      simp only [runOver, inProgress, runReleased, unclaimed, wdOver, Bool.not_false, Bool.and_true,
        Bool.false_eq_true, if_false]
    refine ⟨link.status, ?_, fun h => absurd h (by simp), fun _ => rfl⟩
    rw [stands, runOverTold, inProgress, if_neg Bool.false_ne_true, told_nil (by exact events), abortRun]
    exact if_neg (by rw [inProgress]; exact Bool.false_ne_true)
  | true =>
    obtain ⟨c, claim, test⟩ : ∃ c, s.lva = some c ∧ c.kind = .test := by
      rw [RunHoldsClaim, inProgress] at holds
      obtain ⟨c, held⟩ := Option.isSome_iff_exists.mp holds.symm
      obtain ⟨claim, kind⟩ := Option.filter_eq_some_iff.mp held
      exact ⟨c, claim, of_decide_eq_true kind⟩
    have ends : runOver cause link
          (runReleasing c { s with link := link, trc := trc }).link.status trc s
        = (runReleasing c { s with link := link, trc := trc }).modTsq fun t =>
          { t with state := .ended, run := RunRec.blank, result := some (resultOf cause s) } := by
      simp only [runOver, inProgress, runReleased_eq claim test, wdOver, Bool.not_true, Bool.and_false, if_true]
      rfl
    refine ⟨(runReleasing c { s with link := link, trc := trc }).link.status, ?_, fun _ => ?_,
      fun h => absurd h (by simp)⟩
    · rw [ends, runOverTold, inProgress, if_pos rfl, abortRun, if_pos (by exact inProgress)]
      exact endRun_releases noVerdict claim test ⟨running, live, free⟩ room events
    · rw [ends]
      exact statusQueued_of (u := ((State.modClu (fun k => { k with testWd := false })
        { s with link := link, trc := trc }).modLink (claimReleased c)).setLva none) rfl

/-! ## The execution of a planned transfer (R99) -/

section
variable {id : PropId} {dir : Direction} {target : Mode} {l : List EventSpec} {u : State}

/-- The part in SWITCHING(target, PLANNED) (R87). -/
def switchingPlanned (target : Mode) (s : State) : State :=
  (s.modTrc fun t => { t with
    activity := .switching target .planned, proposal := none, switchTimer := some 400
    overloadTimer := if target = .inv then t.overloadTimer else none }).modClu (commanded target)

theorem beginSwitch_told (o : Origin) : beginSwitch target o (told l s) = told l (beginSwitch target o s) := by
  rw [beginSwitch, setModeCmd_eq, beginSwitch, setModeCmd_eq]
  rfl

theorem beginSwitch_armed {i : PropId} {d : Direction} {ex : FloorTime} (act : s.trc.activity = .armed i d ex) :
    beginSwitch target .planned s = switchingPlanned target s := by
  have planned : s.trc.activity ≠ .none := by rw [act]; exact fun h => by cases h
  have timer : switchTimerFor target s.trc = some 400 := by rw [switchTimerFor, act]; rfl
  rw [beginSwitch, setActivity_planned (by exact planned), setModeCmd_eq]
  exact congrArg (fun n => (s.modTrc fun t => { t with
    activity := .switching target .planned, proposal := none, switchTimer := n
    overloadTimer := if target = .inv then t.overloadTimer else none }).modClu (commanded target)) timer

/-- An ARMED station enters the switch of its transfer where the feedback is not yet that of the target. -/
theorem switchTo_armed {i : PropId} {d : Direction} {ex : FloorTime} (act : s.trc.activity = .armed i d ex)
    (away : s.clu.fb.qual ≠ target.feedback) :
    switchTo target .planned (told l s) = told l (switchingPlanned target s) := by
  have stays : ¬ (told l (switchingPlanned target s)).clu.fb.qual = target.feedback := away
  rw [switchTo, beginSwitch_told, beginSwitch_armed act, if_neg stays]

/-- Hold bars an inverter transfer, which ends with TRANSFER_CANCELLED at this station (R99). -/
theorem executeTransfer_held (ended : abortRun .transfer s = told l u) (toInverter : dir = .toInverter)
    (hold : holdFlag u = true) :
    executeTransfer id dir s
      = told (l ++ [notice .transferCancelled [byteOf id.station.val, id.seq, byteOf Reason.hold.code]])
        (u.modTrc fun t => { t with activity := .none, proposal := none }) := by
  have holding : holdFlag (told l u) = true := hold
  unfold executeTransfer
  rw [ended, if_pos ⟨toInverter, holding⟩, setActivity_none, told_modTrc, told_modTrc, raise_told]
  rfl

/-- The mode that a planned transfer has the station switch to: OFF where its inverter is not ready (R99). -/
def transferTarget (dir : Direction) (s : State) : Mode :=
  match dir with
  | .toBypass => .byp
  | .toInverter => if inverterReady s then .inv else .off

theorem executeTransfer_switches {i : PropId} {d : Direction} {ex : FloorTime} (ended : abortRun .transfer s = told l u)
    (clear : dir = .toInverter → holdFlag u = false) (act : u.trc.activity = .armed i d ex)
    (aim : target = transferTarget dir u) (away : u.clu.fb.qual ≠ target.feedback) :
    executeTransfer id dir s
      = told l (switchingPlanned target (u.modTrc fun t => { t with executing := some (id, dir) })) := by
  have free : ¬ (dir = .toInverter ∧ holdFlag (told l u) = true) := fun h => by
    have := clear h.1
    exact Bool.false_ne_true (this.symm.trans h.2)
  unfold executeTransfer
  rw [ended, if_neg free, told_modTrc]
  have enters := switchTo_armed (s := u.modTrc fun t => { t with executing := some (id, dir) }) (l := l) act away
  subst aim
  cases dir <;> exact enters

variable {i : PropId} {d : Direction} {ex : FloorTime} {p : Option ProposalRec} {link : Link} {r : State}

theorem claimKept_runOver {cause : EndCause} {status : Option TxEntry} {trc : Trc}
    (kept : s.tsq.state.inProgress = false → ClaimKept s) (station : link.station = s.link.station)
    (mode : trc.ownMode = s.trc.ownMode) : ClaimKept (runOver cause link status trc s) := by
  cases inProgress : s.tsq.state.inProgress with
  | true =>
    refine claimKept_none ?_
    rw [runOver, inProgress]
    rfl
  | false =>
    have view : SameView s (runOver cause link status trc s) :=
      ⟨(runReleased_frame s link).1.trans station, mode, rfl, rfl, rfl, rfl, rfl⟩
    refine view.claimKept ?_ (kept inProgress)
    rw [runOver, inProgress]
    rfl

/-- What `ExecutesFrom` says of a row that ends in the part after the end of a run, behind events. -/
theorem runOver_settled {status : Option TxEntry} {trc : Trc} {clu : Clu} {cause : EndCause}
    (kept : s.tsq.state.inProgress = false → ClaimKept s) (station : link.station = s.link.station)
    (mode : trc.ownMode = s.trc.ownMode) (horn : clu.horn = s.clu.horn) (hornTimer : clu.hornTimer = s.clu.hornTimer)
    (queuedIn : s.tsq.state.inProgress = true → StatusQueued (runOver cause link status trc s))
    (stood : s.tsq.state.inProgress = false → status = link.status)
    (runs : exec row r = .next (settle (told l { runOver cause link status trc s with clu := clu }))) :
    ∃ t, exec row r = .next t ∧
      (RunOver cause s t ∧ t.link = { runReleased s link with status := t.link.status } ∧
        (s.tsq.state.inProgress = true → StatusQueued t) ∧
        (s.tsq.state.inProgress = false → t.link.status = link.status) ∧ PortKept s t ∧
        SameBut [.tsq, .lva, .link, .trc, .clu, .hpi] s t) ∧
      TrcIs trc t ∧ t.clu = { clu with horn := t.clu.horn, hornTimer := t.clu.hornTimer } ∧ Raised l s t := by
  have keeps : ClaimKept { runOver cause link status trc s with clu := clu } :=
    SameView.claimKept (s := runOver cause link status trc s) ⟨rfl, rfl, rfl, rfl, rfl, rfl, rfl⟩ rfl
      (claimKept_runOver kept station mode)
  obtain ⟨m, runs⟩ := runs_settled_told runs keeps
  exact ⟨_, runs, ⟨⟨rfl, rfl⟩, rfl, queuedIn, stood, portKept_told rfl, sameBut_of_eq⟩, rfl, rfl,
    raised_told l ⟨rfl, rfl, rfl, rfl, rfl, rfl, horn, hornTimer⟩⟩

/-- An ARMED station that stands as in `s`, with its link at `link`, executes its transfer. -/
theorem executesFrom_of_settle (holds : RunHoldsClaim s) (running : s.hpi.running = true)
    (events : s.hpi.events.length ≤ 32) (kept : s.tsq.state.inProgress = false → ClaimKept s)
    (live : link.state ≠ .listen) (free : link.attempt = none) (room : link.coord.length < 8)
    (station : link.station = s.link.station)
    (runs : exec row r = .next (settle (executeTransfer id dir
      { s with link := link, trc := { s.trc with activity := .armed i d ex, proposal := p } }))) :
    ExecutesFrom r row id dir link s := by
  obtain ⟨status, ended, queuedIn, stood⟩ := abortRun_eq (cause := .transfer)
    (trc := { s.trc with activity := .armed i d ex, proposal := p })
    (fun _ _ => rfl) holds running live free room events
  refine ⟨?_, ?_⟩
  · intro toInverter hold
    have last := executeTransfer_held (id := id) ended toInverter (Option.isSome_iff_ne_none.mpr hold)
    rw [last] at runs
    exact runOver_settled kept station rfl rfl rfl queuedIn stood runs
  · intro target clear aim away
    have clear' : dir = .toInverter → s.trc.holdTimer.isSome = false := fun h => by rw [clear h]; rfl
    have aims : target = transferTarget dir (runOver .transfer link status
        { s.trc with activity := .armed i d ex, proposal := p } s) := by cases dir <;> exact aim
    have last := executeTransfer_switches (id := id) (i := i) (d := d) (ex := ex) ended clear' rfl aims away
    rw [last] at runs
    exact runOver_settled kept station rfl rfl rfl queuedIn stood runs

end

/-! ## The own STATUS and the own CLAIM -/

/-- A completed STATUS counts its number on; one held back is queued anew (R13, R32). -/
theorem statusSent_eq {start : FloorTime} (sends : Sends s) : statusSent start s
    = if s.link.status.isSome then
        withStatus (s.modPvu fun p => { p with nextSeq := p.nextSeq + 1#8, lastSent := some start })
      else s.modPvu fun p => { p with nextSeq := p.nextSeq + 1#8, lastSent := some start } := by
  rw [statusSent, queueStatus_eq (by exact sends)]

theorem claimSent_standing {kind : ClaimKind} {time : FloorTime} {e : TxEntry} {c : Claim}
    (wanted : e.withdrawn = none) (claim : s.lva = some c) (pending : c.granted = false) (same : c.kind = kind)
    (at_ : c.time = time) : claimSent kind time e s = s.setLva (some { c with
      queueTimer := none, inWindow := true, windowTimer := some (10 * s.hpi.floor.claimWindow) }) := by
  simp only [claimSent, wanted, claim, same, at_, pending, Bool.not_false, and_self, if_true, claimTerm_eq]

theorem claimSent_gone {kind : ClaimKind} {time : FloorTime} {e : TxEntry} (gone : e.withdrawn ≠ none ∨ s.lva = none)
    (live : s.link.state ≠ .listen) (room : s.link.coord.length < 8) :
    claimSent kind time e s = s.modLink fun l => { l with coord := l.coord ++ [queued (.release kind time)] } := by
  have posts : claimSent kind time e s = postCoord (.release kind time) s := by
    unfold claimSent
    split
    · rename_i c wanted claim
      exact absurd gone (by rw [wanted, claim]; simp)
    · rfl
  rw [posts, postCoord_room live room]

/-- The messages that only inform (R14). -/
theorem reportSent_informing {e : TxEntry} {start : FloorTime}
    (informs : (∃ id, e.msg = .consent id) ∨ (∃ id r, e.msg = .cancel id r) ∨ (∃ id r, e.msg = .objectTransfer id r)
      ∨ (∃ p c r, e.msg = .objectClaim p c r) ∨ ∃ k c, e.msg = .release k c) : reportSent e start s = s := by
  rcases informs with ⟨_, msg⟩ | ⟨_, _, msg⟩ | ⟨_, _, msg⟩ | ⟨_, _, _, msg⟩ | ⟨_, _, msg⟩ <;> rw [reportSent, msg]

section
variable {e : TxEntry} {start : FloorTime}

theorem reportSent_status {m : StatusMsg} (msg : e.msg = .status m) : reportSent e start s = statusSent start s := by
  rw [reportSent, msg]

theorem reportSent_force {cause : Byte} (msg : e.msg = .force cause) : reportSent e start s = s := by
  rw [reportSent, msg]

theorem reportSent_propose {seq : Byte} {d : Direction} {p q : FloorTime} (msg : e.msg = .propose seq d p q) :
    reportSent e start s = proposeSent seq e s := by
  rw [reportSent, msg]

theorem reportSent_order {id : PropId} (msg : e.msg = .order id) : reportSent e start s = orderSent id s := by
  rw [reportSent, msg]

theorem reportSent_claim {kind : ClaimKind} {time : FloorTime} (msg : e.msg = .claim kind time) :
    reportSent e start s = claimSent kind time e s := by
  rw [reportSent, msg]

end

theorem headSent_urgent {a : Attempt} {e : TxEntry} {rest : List TxEntry} (cls : a.cls = .urgent)
    (queue : s.link.urgent = e :: rest) :
    headSent a s = s.modLink fun l => { l with attempt := none, lastTransmitter := true, urgent := rest } := by
  refine congrArg (fun l => { s with link := l }) ?_
  dsimp only
  rw [cls, removeHead_urgent queue]

theorem headSent_status {a : Attempt} (cls : a.cls = .status) :
    headSent a s = s.modLink fun l => { l with
      attempt := none, lastTransmitter := true, status := l.heldStatus.map fun m => queued (.status m)
      heldStatus := none } := by
  refine congrArg (fun l => { s with link := l }) ?_
  dsimp only
  rw [cls]
  rfl

/-- Settles O30. -/
theorem completedAttemptIsReported : Obligations.CompletedAttemptIsReported := by
  refine ⟨?_, ?_, ?_⟩
  · intro a e rest s inv att kept
    refine ⟨?_, ?_, ?_⟩
    · rintro cls queue ⟨cause, msg⟩
      have runs := exec_attemptComplete att (e := e) (by rw [cls, headOf, queue]; rfl)
      rw [reportSent_force msg, headSent_urgent cls queue] at runs
      exact linkLeft_of_settle runs kept rfl rfl
    · intro cls queue informs
      have runs := exec_coordComplete inv att cls queue
      rw [reportSent_informing informs] at runs
      exact linkLeft_of_settle runs kept rfl rfl
    · rintro cls slot ⟨m, msg⟩
      obtain ⟨running, live⟩ := live_of_attempt inv att
      have runs := exec_attemptComplete att (e := e) (by rw [cls, headOf, slot])
      rw [reportSent_status msg, headSent_status cls, statusSent_eq (by exact ⟨running, live, rfl⟩)] at runs
      cases held : s.link.heldStatus with
      | none =>
        rw [if_neg (by simp [held])] at runs
        obtain ⟨k, runs⟩ := runs_settled runs (SameView.claimKept (s := s) ⟨rfl, rfl, rfl, rfl, rfl, rfl, rfl⟩ rfl kept)
        exact ⟨_, runs, rfl, rfl, fun _ => by simp [held], fun waits => absurd rfl waits, rfl, sameBut_of_eq⟩
      | some m =>
        rw [if_pos (by simp [held])] at runs
        obtain ⟨k, runs⟩ := runs_settled runs (SameView.claimKept (s := s) ⟨rfl, rfl, rfl, rfl, rfl, rfl, rfl⟩ rfl kept)
        exact ⟨_, runs, rfl, rfl, fun none => absurd none (by simp), fun _ _ => statusQueued_of rfl, rfl, sameBut_of_eq⟩
  · intro a e rest s inv running att cls queue kept
    have live := (live_of_attempt inv att).2
    have room : rest.length < 8 := by
      have := inv.coord
      rw [queue, List.length_cons] at this
      exact this
    have runs := exec_coordComplete inv att cls queue
    refine ⟨?_, ?_, ?_, ?_, ?_⟩
    · intro seq dir at_ ex id r msg wanted act prop phase own
      rw [reportSent_propose msg] at runs
      refine ⟨?_, ?_, ?_⟩
      · intro late
        rw [proposeSent_late (s := coordSent rest s) wanted act prop phase own late live rfl room inv.events] at runs
        obtain ⟨t, done, link, raised, port, lines, trc, but⟩ := linkTold_of_settle runs kept rfl rfl
        exact ⟨t, done, link, trc, raised, port, lines, sameBut_mono (by decide) but⟩
      · intro inTime members
        rw [proposeSent_window (s := coordSent rest s) wanted act prop phase own inTime,
          checkConsents_open (s := windowOpened dir r (coordSent rest s)) act rfl members rfl] at runs
        exact linkLeft_of_settle runs kept rfl rfl
      · intro inTime alone
        rw [proposeSent_window (s := coordSent rest s) wanted act prop phase own inTime,
          checkConsents_alone (s := windowOpened dir r (coordSent rest s)) act rfl rfl alone live room] at runs
        exact linkLeft_of_settle runs kept rfl rfl
    · intro seq dir at_ ex reason msg gone
      rw [reportSent_propose msg, proposeSent_withdrawn (s := coordSent rest s) gone live room] at runs
      exact linkLeft_of_settle runs kept rfl rfl
    · intro id dir r msg act prop phase ahead
      have early : ¬ reached (coordSent rest s).ftu.floorTime r.executeAt = true := fun h => reached_iff.mp h ahead
      rw [reportSent_order msg, orderSent_arms (s := coordSent rest s) act prop phase,
        arm_eq (s := coordSent rest s) act prop, if_neg early] at runs
      exact linkLeft_of_settle runs kept rfl rfl
    · intro kind time c msg wanted claim pending same at_
      rw [reportSent_claim msg, claimSent_standing (s := coordSent rest s) wanted claim pending same at_] at runs
      obtain ⟨m, runs⟩ := runs_settled runs fun d held => by
        cases held
        exact .inl pending
      exact ⟨_, runs, rfl, rfl, rfl, sameBut_of_eq⟩
    · intro kind time msg gone
      rw [reportSent_claim msg, claimSent_gone (s := coordSent rest s) gone live room] at runs
      exact linkLeft_of_settle runs kept rfl rfl
  · intro a e rest id dir r s inv running att cls queue msg act prop phase past holds kept
    have live := (live_of_attempt inv att).2
    have room : rest.length < 8 := by
      have := inv.coord
      rw [queue, List.length_cons] at this
      exact this
    have runs := exec_coordComplete inv att cls queue
    rw [reportSent_order msg, orderSent_arms (s := coordSent rest s) act prop phase,
      arm_eq (s := coordSent rest s) act prop, if_pos (reached_iff (s := coordSent rest s).mpr past)] at runs
    exact executesFrom_of_settle holds running inv.events kept live rfl room rfl runs

end Sys2Proof.Machine
end

section
/-! The refusals as lists of checks (R91, R96, R113), a forced transfer at a station on INV (R102, R103), and requests
that find their queue full (R13). -/

namespace Sys2Proof.Machine

variable {s u : State} {l : List EventSpec} {dir : Direction}

/-! ## Refusals as lists of checks -/

theorem firstFailing_nil : firstFailing [] = none := rfl

theorem firstFailing_cons (b : Bool) (r : Reason) (checks : List (Bool × Reason)) :
    firstFailing ((b, r) :: checks) = if b then some r else firstFailing checks := by
  cases b <;> rfl

/-- With no check failing each of them passes. -/
theorem firstFailing_none {checks : List (Bool × Reason)} (h : firstFailing checks = none) {c : Bool × Reason}
    (mem : c ∈ checks) : c.1 = false := by
  have all := List.find?_eq_none.mp (Option.map_eq_none_iff.mp h) c mem
  simpa using all

theorem ownInSource_eq (dir : Direction) (s : State) : ownInSource s dir = inSource dir s := by
  cases dir <;> rfl

theorem maintBars_eq (s : State) : maintBars s = (s.clu.maint.qual || maintFlag s
    || s.peers.any fun e => decide (e.presence = .present) && e.report.maint) := by
  rw [maintBars, presentPeers, List.any_filter]

theorem transferRefusal_eq (dir : Direction) (s : State) :
    transferRefusal dir s = firstFailing (transferChecks dir s) := by
  cases dir
  · simp only [transferRefusal, transferChecks, List.cons_append, List.nil_append, firstFailing_cons,
      firstFailing_nil, ownInSource_eq, linkMuted, decide_eq_true_eq, Bool.or_eq_true]
  · simp only [transferRefusal, transferChecks, List.cons_append, List.nil_append, firstFailing_cons,
      firstFailing_nil, ownInSource_eq, maintBars_eq, linkMuted, inverterReady, holdFlag, decide_eq_true_eq,
      Bool.or_eq_true]
    congr

theorem readinessRefusal_eq (dir : Direction) (s : State) :
    readinessRefusal dir s = firstFailing (readinessChecks dir s) := by
  cases dir
  · cases h : s.clu.bypOk.qual <;> simp [readinessRefusal, readinessChecks, firstFailing_cons, firstFailing_nil, h]
  · simp only [readinessRefusal, readinessChecks, firstFailing_cons, firstFailing_nil, maintBars_eq, inverterReady,
      holdFlag]

theorem claimRefusal_eq (unclaimed : s.lva = none) : claimRefusal s = firstFailing (claimChecks s) := by
  simp only [claimRefusal, unclaimed, Option.isSome_none, Bool.false_eq_true, if_false, claimChecks, firstFailing_cons,
    firstFailing_nil, linkMuted, decide_eq_true_eq, Bool.decide_or, Bool.or_eq_true]

/-! ## Activities that begin at NONE (R85, R108) -/

theorem setActivity_leaves {a : Activity} (idle : s.trc.activity = .none) (some_ : a ≠ .none) :
    setActivity a s = s.modTrc fun t => { t with activity := a, splits := Vector.replicate 16 0 } := by
  refine congrArg (fun t => { s with trc := t }) ?_
  dsimp only
  rw [if_pos ⟨idle, some_⟩]
  rfl

/-! ## A forced transfer at a station on INV (R102, R103) -/

/-- The part forced from INV into SWITCHING(BYP, FORCED), in hold (R103, R105). -/
def forcedToBypass (s : State) : State :=
  (s.modTrc fun _ => switchEntered .byp .forced (some (10000 * s.hpi.floor.hold)) s).modClu (commanded .byp)

/-- A station with no planned activity, no run and no own claim has nothing to end for a FORCE. -/
theorem clearForForce_idle (act : s.trc.activity = .none) (idle : s.tsq.state.inProgress = false)
    (unclaimed : s.lva = none) : clearForForce s = s := by
  have drops : dropProposal none [] s = s := by rw [dropProposal, act]
  have ends : abortRun .forced s = s := by rw [abortRun, idle, if_neg Bool.false_ne_true]
  rw [clearForForce, drops, ends, releaseKind, unclaimed]
  rfl

/-- A switch that begins at NONE with the feedback elsewhere. -/
theorem switchAway_eq {target : Mode} {o : Origin} (act : s.trc.activity = .none) (planned : o ≠ .planned)
    (other : target ≠ .inv) (away : s.clu.fb.qual ≠ target.feedback) :
    switchAway target o s = (s.modTrc fun _ => switchEntered target o s.trc.holdTimer s).modClu (commanded target) := by
  have begins : beginSwitch target o s
      = (s.modTrc fun _ => switchEntered target o s.trc.holdTimer s).modClu (commanded target) := by
    have timer : switchTimerFor target s.trc = some 400 := by rw [switchTimerFor, act]; rfl
    rw [beginSwitch, setActivity_leaves (by exact act) (fun h => by cases h), setModeCmd_eq]
    simp only [State.modTrc, timer, planned, other, if_false, switchEntered]
  have stays : ¬ (beginSwitch target o s).clu.fb.qual = target.feedback := by
    rw [begins]
    exact away
  rw [switchAway, if_neg stays, begins]

theorem actOnForce_onInverter {forcing : Station} {ownFault : Bool} (present : isolatedFlag s = false)
    (inv : s.trc.ownMode = .inv) (act : s.trc.activity = .none) (idle : s.tsq.state.inProgress = false)
    (unclaimed : s.lva = none) (bypass : s.clu.bypOk.qual = true) (away : s.clu.fb.qual ≠ .byp) :
    actOnForce forcing ownFault s = forcedToBypass s := by
  rw [actOnForce, present, if_neg Bool.false_ne_true, if_pos (.inl inv), if_pos bypass,
    clearForForce_idle act idle unclaimed, switchAway_eq (target := .byp) act (by decide) (by decide) away, startHold]
  simp only [State.modTrc, State.modClu, forcedToBypass, switchEntered, ticksOfSeconds, Nat.mul_comm]

theorem postForce_frame (c : ForceCause) (s : State) : postForce c s = s.modLink fun _ => (postForce c s).link := by
  unfold postForce
  split
  · rfl
  · split <;> rfl

theorem postForce_told (c : ForceCause) : postForce c (told l s) = told l (postForce c s) := by
  unfold postForce
  rw [told_link]
  split
  · rfl
  · split <;> rfl

/-- TRANSFER_FORCED of an own force. -/
def forcedTold (c : ForceCause) (s : State) : EventSpec :=
  alarm .transferForced [byteOf c.code, byteOf s.link.station.val]

/-- A station on INV that forces the floor, up to the report of a fault cause (R102). -/
theorem forceSteps_onInverter (c : ForceCause) {ownFault : Bool} (present : isolatedFlag s = false)
    (inv : s.trc.ownMode = .inv) (act : s.trc.activity = .none) (idle : s.tsq.state.inProgress = false)
    (unclaimed : s.lva = none) (bypass : s.clu.bypOk.qual = true) (away : s.clu.fb.qual ≠ .byp) :
    actOnForce (told l s).own ownFault
        (postForce c (raise .transferForced (u8 c.code ++ stationByte (told l s).own) (told l s)))
      = told (l ++ [forcedTold c s]) (forcedToBypass (postForce c s)) := by
  rw [raise_told, postForce_told, postForce_frame]
  exact actOnForce_onInverter present inv act idle unclaimed bypass away

/-! ## Commands that settle (R170) -/

/-- The answer of a command stands in the host port alone. -/
theorem sameBut_respond {b : List Block} {r : Reply} {t : State} (port : .hpi ∈ b) (h : SameBut b s t) :
    SameBut b s (respond r t) := fun c hc => by
  have kept := h c hc
  cases c
  case hpi => exact absurd port hc
  all_goals exact kept

/-- What a command answered OK leaves, whose rule ends in a settled state behind events. -/
structure CommandLeft (code : Byte) (window : List Byte) (l : List EventSpec) (u s t : State) : Prop where
  rest     : SameBut [.trc, .clu, .hpi] u t
  trc      : TrcIs u.trc t
  clu      : t.clu = { u.clu with horn := t.clu.horn, hornTimer := t.clu.hornTimer }
  raised   : Raised l s t
  answered : Answered code window 0 0 [] t
  settings : SettingsKept s t

theorem command_leaves {code : Byte} {lengths : Nat → Bool} {taken : TakenIn} {rule : Rule} {window args : List Byte}
    (carried : argBytes window = some args) (fits : lengths args.length = true) (accepted : taken.accepts s = true)
    (ruled : rule args (openCommand code window s) = (settle (told l u), okReply)) (kept : ClaimKept u)
    (port : u.hpi = (openCommand code window s).hpi) (minutes : u.bau.minutes = s.bau.minutes)
    (time : u.ftu.floorTime = s.ftu.floorTime) (horn : u.clu.horn = s.clu.horn)
    (hornTimer : u.clu.hornTimer = s.clu.hornTimer) :
    ∃ t, hostCommand code lengths taken rule window s = t ∧ CommandLeft code window l u s t := by
  obtain ⟨m, settled⟩ := settle_told (l := l) kept
  have same {α} (f : Hpi → α) : f u.hpi = f (openCommand code window s).hpi := congrArg f port
  have stamps : SameStamps s (u.modTrc fun t => { t with lastKnown := m }) :=
    ⟨same (·.events), same (·.eventsLost), same (·.floor), same (·.cab), minutes, time, horn, hornTimer⟩
  refine ⟨_, hostCommand_of_taken carried fits accepted, ?_⟩
  rw [ruled, settled]
  refine ⟨sameBut_respond (by decide) sameBut_of_eq, rfl, rfl, raised_told l stamps, ?_, ?_⟩
  · exact answered_respond (by show u.hpi.command = _; rw [port]; rfl) rfl rfl rfl rfl
  · have stands : SettingsKept s u := by
      unfold SettingsKept
      rw [port]
      exact ⟨rfl, rfl, rfl, rfl, rfl, rfl⟩
    exact stands

theorem CommandLeft.statusQueued {code : Byte} {window : List Byte} {t : State}
    (h : CommandLeft code window l u s t) (q : StatusQueued u) : StatusQueued t := by
  obtain ⟨m, slot, seq, prev, mode, isolated, claim⟩ := q
  have link : t.link = u.link := h.rest .link (by decide)
  have pvu : t.pvu = u.pvu := h.rest .pvu (by decide)
  have vsm : t.vsm = u.vsm := h.rest .vsm (by decide)
  have lva : t.lva = u.lva := h.rest .lva (by decide)
  have own : t.trc.ownMode = u.trc.ownMode := by
    have trc : t.trc = { u.trc with lastKnown := t.trc.lastKnown } := h.trc
    rw [trc]
  have present : isolatedFlag t = isolatedFlag u := by rw [isolatedFlag, vsm]; rfl
  refine ⟨m, by rw [link, slot], by rw [pvu, seq], by rw [pvu, prev], by rw [own, mode], by rw [present, isolated], ?_⟩
  rw [ownShown, lva]
  exact claim

/-! ## Full queues (R13) -/

theorem heard_of_hears {p : Station} {m : Msg} {frame : List Byte} (h : Hears p m frame s) :
    heard frame s = some (p, m) := by
  obtain ⟨rx, parsed, other, live⟩ := h
  obtain ⟨start, rx⟩ := Option.ne_none_iff_exists'.mp rx
  have accepted : acceptedMessage frame s = some (p, m) := by rw [acceptedMessage, rx, parsed]
  have own : ¬ p = s.own := other
  rw [heard, accepted]
  dsimp only
  rw [if_neg own, if_neg fun h => live h.1]

/-- A COORD message that finds its queue full, asked for by a block that does not go on behind it. -/
theorem postCoord_full {m : Msg} (live : s.link.state ≠ .listen) (full : s.link.coord.length = 8)
    (events : s.hpi.events.length ≤ 32) :
    postCoord m s = told (congestionTold m s) (s.modLink fun l => { l with congestionReported := true }) := by
  rw [postCoord, queueCoord_full live full events]

/-- With no message picked a full queue stands as it is. -/
theorem coordWithout_none {which : TxEntry → Bool} {k : Link} (full : k.coord.length = 8)
    (others : ∀ e ∈ k.coord, which e = false) : coordWithout which k = k := by
  have all : k.coord.filter (fun e => !which e) = k.coord :=
    List.filter_eq_self.mpr fun e he => by rw [others e he]; rfl
  simp only [coordWithout, all, full, decide_true, Bool.and_true]

/-- A station that follows a heard proposal (R96). -/
theorem follow_told {h : HeardProposal} (idle : s.trc.activity = .none) :
    follow h (told l s) = told l (s.modTrc fun t => { t with
      activity := .following h.id h.dir, splits := Vector.replicate 16 0
      proposal := some (heardProposal h.id.station h.proposedAt h.executeAt) }) := by
  rw [follow, setActivity_leaves (s := told l s) idle (fun h => by cases h)]
  rfl

/-- The part with a new own proposal, whose PROPOSE is still to be queued (R92). -/
def proposalBegun (dir : Direction) (s : State) : State :=
  s.modTrc fun t => { t with
    proposalSeq := t.proposalSeq + 1#8, activity := .proposed ⟨s.link.station, t.proposalSeq + 1#8⟩ dir
    splits := Vector.replicate 16 0
    proposal := some ⟨s.link.station, s.ftu.floorTime, s.ftu.floorTime + ticksTime (ticksOfMs (leadMs s)),
      some .queued, [], [], none⟩ }

def proposeOf (dir : Direction) (s : State) : Msg :=
  .propose (s.trc.proposalSeq + 1#8) dir s.ftu.floorTime (s.ftu.floorTime + ticksTime (ticksOfMs (leadMs s)))

theorem beginProposal_eq (notAlone : s.ftu.align ≠ .alone) (idle : s.trc.activity = .none) :
    beginProposal dir s = match queueCoord (proposeOf dir s) (proposalBegun dir s) with
      | (t, true) => t
      | (t, false) => dropProposal (some .notSent) [] t := by
  unfold beginProposal
  dsimp only
  rw [if_neg notAlone, setActivity_leaves (by exact idle) (fun h => by cases h)]
  rfl

/-- A PROPOSE that finds its queue full is not sent: the proposal ends with NOT_SENT (R92). -/
theorem beginProposal_unsent (notAlone : s.ftu.align ≠ .alone) (idle : s.trc.activity = .none)
    (live : s.link.state ≠ .listen) (free : s.link.attempt = none) (full : s.link.coord.length = 8)
    (events : s.hpi.events.length ≤ 32)
    (others : ∀ e ∈ s.link.coord, ofProposal ⟨s.link.station, s.trc.proposalSeq + 1#8⟩ e = false) :
    beginProposal dir s = told
      (congestionTold (proposeOf dir s) s ++ [notice .transferCancelled
        [byteOf s.link.station.val, s.trc.proposalSeq + 1#8, byteOf Reason.notSent.code]])
      { s with
        link := { s.link with congestionReported := true }
        trc := { s.trc with
          proposalSeq := s.trc.proposalSeq + 1#8, proposal := none, splits := Vector.replicate 16 0 } } := by
  rw [beginProposal_eq notAlone idle, queueCoord_full (s := proposalBegun dir s) live full events]
  dsimp only
  rw [dropProposal_proposed (s := told _ (State.modLink _ (proposalBegun dir s))) rfl (by exact free)
    (by exact full.le) told_events_le, told_modLink, told_modTrc, told_told']
  have link := coordWithout_none (which := ofProposal ⟨s.link.station, s.trc.proposalSeq + 1#8⟩)
    (k := { s.link with congestionReported := true }) full others
  have trc := congrArg (fun a => { s.trc with
    proposalSeq := s.trc.proposalSeq + 1#8, activity := a, proposal := none
    splits := Vector.replicate 16 0 }) idle.symm
  exact congrArg₂ (fun k t => told _ { s with link := k, trc := t }) link trc

/-- The part with a run begun and numbered, its claim still to be asked for (R131). -/
def runBegun (single : Bool) (s : State) : State :=
  (s.modBau fun b => { b with carry := { b.carry with
    nextRun := if s.bau.carry.nextRun = 65535 then 1 else s.bau.carry.nextRun + 1 } }).modTsq fun t =>
      { t with state := .claiming, run := { RunRec.blank with number := s.bau.carry.nextRun, single := single } }

theorem beginRun_eq (single : Bool) (s : State) : beginRun single s = takeClaimRequest .test (runBegun single s) := rfl

theorem runDenied_told (c : Claim) : runDenied c (told l s) = told l (runDenied c s) := rfl

theorem runDenied_link {c : Claim} {k : Link}
    (left : coordWithout (fun e => decide (e.msg = .claim c.kind c.time)) s.link = k) :
    (runDenied c s).link = { k with status := (runDenied c s).link.status } := by
  rw [← left]
  rfl

/-- The part whose TEST claim found its queue full, before the claim is denied. -/
def claimUnsent (s : State) : State :=
  (s.setLva (some (newClaim .test s))).modLink fun l => { l with congestionReported := true }

/-- A CLAIM that finds its queue full is not sent: it is denied, and the run that asked ends (R115, R132). -/
theorem takeClaimRequest_unsent (notAlone : s.ftu.align ≠ .alone) (sends : Sends s) (full : s.link.coord.length = 8)
    (events : s.hpi.events.length ≤ 32) (claiming : s.tsq.state = .claiming) :
    takeClaimRequest .test s = told
      (congestionTold (.claim .test s.ftu.floorTime) s
        ++ [notice .claimDenied [1#8, byteOf Reason.notSent.code, byteOf s.link.station.val], runTold .claimDenied s])
      (runDenied (newClaim .test s) (claimUnsent s)) := by
  obtain ⟨running, live, free⟩ := sends
  unfold takeClaimRequest
  dsimp only
  rw [if_neg notAlone, queueCoord_full (s := s.setLva (some (newClaim .test s))) live full events]
  dsimp only
  refine (denyClaim_ofRun (s := told _ (claimUnsent s)) (c := newClaim .test s) rfl rfl rfl claiming
    ⟨running, live, free⟩ full.le told_events_le).trans ?_
  rw [runDenied_told, told_told']
  rfl

/-- Settles O59. -/
theorem fullQueueIsNotSent : Obligations.FullQueueIsNotSent := by
  rintro s inv ⟨running, active, free⟩
  have live : s.link.state ≠ .listen := by rw [active]; decide
  refine ⟨?_, ?_, ?_, ?_⟩
  · intro p seq dir at_ ex frame hears kept full present source act
    have row : exec (.proposeReceived frame) s
        = .next (settle (answerProposal ⟨⟨p, seq⟩, dir, at_, ex⟩ (endReception s))) := by
      have takes : takePropose ⟨⟨p, seq⟩, dir, at_, ex⟩ (endReception s)
          = answerProposal ⟨⟨p, seq⟩, dir, at_, ex⟩ (endReception s) := by
        have joins : (isolatedFlag (endReception s) || !ownInSource (endReception s) dir) = false := by
          rw [ownInSource_eq]
          show (isolatedFlag s || !inSource dir s) = false
          rw [present, source]
          rfl
        have none_ : (endReception s).trc.activity = .none := act
        simp only [takePropose, joins, Bool.false_eq_true, if_false, none_]
      show Host.Outcome.next (proposeReceived frame s) = _
      simp only [proposeReceived, heard_of_hears hears, takes]
    have same : firstFailing (readinessChecks dir (endReception s)) = firstFailing (readinessChecks dir s) := by
      cases dir <;> rfl
    cases ready : firstFailing (readinessChecks dir s) with
    | some r =>
      simp only [answerProposal, readinessRefusal_eq, same, ready] at row
      rw [postCoord_full (s := endReception s) live full inv.events] at row
      obtain ⟨t, runs, link, raised, port, lines, trc, but⟩ := linkTold_of_settle row kept rfl rfl
      exact ⟨t, runs, link, port, lines, sameBut_mono (by decide) but, fun _ => ⟨trc, raised⟩, fun h => by cases h⟩
    | none =>
      simp only [answerProposal, readinessRefusal_eq, same, ready] at row
      rw [postCoord_full (s := endReception s) live full inv.events,
        follow_told (s := State.modLink _ (endReception s)) (by exact act)] at row
      obtain ⟨t, runs, link, raised, port, lines, trc, but⟩ := linkTold_of_settle row kept rfl rfl
      exact ⟨t, runs, link, port, lines, sameBut_mono (by decide) but, fun h => absurd rfl h, fun _ => ⟨trc, raised⟩⟩
  · intro dir kept full checks aligned others
    have idle : s.trc.activity = .none := by
      have passes := firstFailing_none checks (c := (decide (s.trc.activity ≠ .none), .busy)) (by simp [transferChecks])
      simpa using passes
    have notAlone : s.ftu.align ≠ .alone := by rw [aligned]; decide
    have begins := beginProposal_unsent (s := openCommand 0x20 [1#8, byteOf dir.code] s) (dir := dir) notAlone idle
      live free full inv.events others
    have accepted : transferRefusal dir (openCommand 0x20 [1#8, byteOf dir.code] s) = none := by
      rw [transferRefusal_eq]
      exact checks
    have ruled : ruleTransfer [byteOf dir.code] (openCommand 0x20 [1#8, byteOf dir.code] s)
        = (settle (beginProposal dir (openCommand 0x20 [1#8, byteOf dir.code] s)), okReply) := by
      have code : Direction.ofCode (byteAt [byteOf dir.code] 0) = some dir := by cases dir <;> rfl
      simp only [ruleTransfer, code, accepted]
    rw [begins] at ruled
    obtain ⟨t, runs, left⟩ := command_leaves (lengths := len 1) (taken := .running) rfl rfl running ruled
      (SameView.claimKept (s := s) ⟨rfl, rfl, rfl, rfl, rfl, rfl, rfl⟩ rfl kept) rfl rfl rfl rfl rfl
    exact ⟨t, congrArg Host.Outcome.next runs, left.rest .link (by decide), left.trc, left.raised, left.answered,
      left.settings, left.clu, sameBut_trans (by exact sameBut_of_eq) (sameBut_mono (by decide) left.rest)⟩
  · intro single full idle unclaimed visits checks aligned others
    have free' : visitBars (openCommand 0x23 [1#8, single] s) = false := by
      show (match s.vsm.visit with | some v => decide (v.kind ≠ .inspection) | none => false) = false
      cases visit : s.vsm.visit with
      | none => rfl
      | some v => simp [visits v visit]
    have accepted : claimRefusal (openCommand 0x23 [1#8, single] s) = none := by
      rw [claimRefusal_eq (by exact unclaimed)]
      exact checks
    have ruled : ruleRunTest [single] (openCommand 0x23 [1#8, single] s) = (settle (takeClaimRequest .test
        (runBegun (decide (byteAt [single] 0 ≠ 0)) (openCommand 0x23 [1#8, single] s))), okReply) := by
      have state : (openCommand 0x23 [1#8, single] s).tsq.state = .idle := idle
      have claim : (openCommand 0x23 [1#8, single] s).lva = none := unclaimed
      simp only [ruleRunTest, state, free', claim, accepted, RunState.inProgress, Option.isSome_none,
        Bool.false_eq_true, if_false, reduceCtorEq, beginRun_eq]
    have notAlone : s.ftu.align ≠ .alone := by rw [aligned]; decide
    rw [takeClaimRequest_unsent (by exact notAlone) (by exact ⟨running, live, free⟩) (by exact full)
      (by exact inv.events) rfl] at ruled
    obtain ⟨t, runs, left⟩ := command_leaves (lengths := len 1) (taken := .running) rfl rfl running ruled
      (claimKept_none rfl) rfl rfl rfl rfl rfl
    have link := coordWithout_none (which := fun e => decide (e.msg = .claim .test s.ftu.floorTime))
      (k := { s.link with congestionReported := true }) full fun e he => decide_eq_false (others e he)
    have lva : t.lva = none := left.rest .lva (by decide)
    have same : t.link = (runDenied _ _).link := left.rest .link (by decide)
    have tsq : t.tsq = (runDenied _ _).tsq := left.rest .tsq (by decide)
    refine ⟨t, congrArg Host.Outcome.next runs, lva, ?_, left.statusQueued (statusQueued_of rfl),
      by rw [tsq]; rfl, by rw [tsq]; rfl, by rw [tsq]; rfl, left.raised, left.answered, left.settings, left.trc,
      sameBut_trans (sameBut_of_eq (lva := fun _ => unclaimed.symm)) (sameBut_mono (by decide) left.rest)⟩
    rw [same]
    exact runDenied_link link
  · intro full present unclaimed idle act own bypass away
    have ruled : ruleForceBypass [] (openCommand 0x21 [0#8] s)
        = (settle (told [forcedTold .host s] (forcedToBypass (openCommand 0x21 [0#8] s))), okReply) := by
      have accepted : forceRefusal (openCommand 0x21 [0#8] s) = none := by
        have still : isolatedFlag (openCommand 0x21 [0#8] s) = false := present
        have line : (openCommand 0x21 [0#8] s).clu.bypOk.qual = true := bypass
        rw [forceRefusal, still, line]
        rfl
      have steps := forceSteps_onInverter (s := openCommand 0x21 [0#8] s) (l := []) (ownFault := false) .host present
        own act idle unclaimed bypass away
      rw [told_nil (s := openCommand 0x21 [0#8] s) inv.events,
        postForce_full (s := openCommand 0x21 [0#8] s) full] at steps
      rw [ruleForceBypass, accepted]
      exact congrArg (fun t => (settle t, okReply)) steps
    obtain ⟨t, runs, left⟩ := command_leaves (lengths := len 0) (taken := .running) rfl rfl running ruled
      (claimKept_none unclaimed) rfl rfl rfl rfl rfl
    exact ⟨t, congrArg Host.Outcome.next runs, left.rest .link (by decide), left.raised, left.trc, left.answered,
      left.settings, sameBut_trans (by exact sameBut_of_eq) (sameBut_mono (by decide) left.rest)⟩

end Sys2Proof.Machine
end

section
/-! The dues that an evaluation raises, in closed form (R146 to R148), and START (R86, R172). -/

namespace Sys2Proof.Machine

variable {s u : State} {l : List EventSpec}

/-! ## Dues -/

/-- The entry that a condition adds to the due list, where none of its kind stands. -/
def dueNew (cond : Bool) (k : DueKind) (e : EventSpec) (s : State) : List (DueKind × EventSpec) :=
  if cond && !s.vsm.dues.any (fun d => decide (d.kind = k)) then [(k, e)] else []

/-- The part with entries added to its due list. -/
def addDues (new : List (DueKind × EventSpec)) (s : State) : State :=
  s.modVsm fun v => { v with dues := v.dues ++ new.map fun x => ⟨x.1, s.bau.minutes⟩ }

theorem addDues_nil (s : State) : addDues [] s = s := by
  rw [addDues, List.map_nil]
  exact congrArg (fun d => { s with vsm := { s.vsm with dues := d } }) (List.append_nil _)

theorem addDues_append (a b : List (DueKind × EventSpec)) (s : State) :
    addDues b (addDues a s) = addDues (a ++ b) s := by
  refine congrArg (fun d => { s with vsm := { s.vsm with dues := d } }) ?_
  simp [addDues]

/-- An entry of another kind does not stand in the way. -/
theorem dueNew_addDues {cond : Bool} {k : DueKind} {e : EventSpec} {new : List (DueKind × EventSpec)}
    (other : ∀ x ∈ new, x.1 ≠ k) : dueNew cond k e (addDues new s) = dueNew cond k e s := by
  have none_ : new.any (fun x => decide (x.1 = k)) = false := by
    rw [List.any_eq_false]
    exact fun x hx => by simpa using other x hx
  simp only [dueNew, addDues, State.modVsm_vsm, List.any_append, List.any_map, Function.comp_def, none_, Bool.or_false]

theorem mem_dueNew {cond : Bool} {k : DueKind} {e : EventSpec} {x : DueKind × EventSpec} (h : x ∈ dueNew cond k e s) :
    x.1 = k := by
  unfold dueNew at h
  split at h
  · rw [List.mem_singleton.mp h]
  · exact absurd h (List.not_mem_nil)

/-- An entry is raised where its condition stands and none of its kind does (R146). -/
theorem raiseDue_told {cond : Prop} [Decidable cond] {k : DueKind} {d : List Byte} :
    (if cond then raiseDue k d (told l s) else told l s)
      = told (l ++ (dueNew (decide cond) k (notice .dueRaised d) s).map (·.2))
        (addDues (dueNew (decide cond) k (notice .dueRaised d) s) s) := by
  unfold dueNew
  by_cases stands : cond
  · cases holds : s.vsm.dues.any (fun x => decide (x.kind = k)) with
    | true =>
      have known : holdsDue k (told l s) = true := holds
      simp [stands, raiseDue, known, addDues_nil]
    | false =>
      have fresh : holdsDue k (told l s) = false := holds
      simp only [stands, raiseDue, fresh, Bool.false_eq_true, if_false, if_true, decide_true, Bool.not_false,
        Bool.and_self, told_modVsm, raise_told]
      rfl
  · simp [stands, addDues_nil]

/-- A due with an arm flag: where its condition stands the flag is cleared and the due raised if it was set, and
where it does not the flag is set (R147). -/
theorem raiseArmed_told {cond : Prop} [Decidable cond] {arm : Bool} {k : DueKind} {d : List Byte}
    {cleared filled : State}
    (dues : cleared.vsm.dues = s.vsm.dues) (same : arm = false → cleared = s) :
    (if cond then if arm then raiseDue k d (told l cleared) else told l s else told l filled)
      = told (l ++ (dueNew (decide cond && arm) k (notice .dueRaised d) s).map (·.2))
        (addDues (dueNew (decide cond && arm) k (notice .dueRaised d) s) (if cond then cleared else filled)) := by
  by_cases stands : cond
  · cases arm with
    | true =>
      have raised := raiseDue_told (l := l) (s := cleared) (cond := True) (k := k) (d := d)
      simp only [dueNew, dues, if_true, decide_true] at raised
      simp only [stands, dueNew, if_true, decide_true, Bool.and_true]
      exact raised
    | false => simp [stands, dueNew, same rfl, addDues_nil]
  · simp [stands, dueNew, addDues_nil]

/-- BATTERY_REPLACE as an evaluation adds it (R147). -/
def replaceNew (s : State) : List (DueKind × EventSpec) :=
  dueNew (decide (s.bau.h < s.hpi.cab.replaceTh) && s.vsm.armReplace) .batteryReplace
    (notice .dueRaised (healthDetail .batteryReplace s)) s

theorem evaluateReplace_told : evaluateReplace (told l s) = told (l ++ (replaceNew s).map (·.2))
    (addDues (replaceNew s) (s.modVsm fun v => { v with armReplace := !decide (s.bau.h < s.hpi.cab.replaceTh) })) := by
  have same : s.vsm.armReplace = false → (s.modVsm fun v => { v with armReplace := false }) = s := fun arm => by
    rw [← arm]
    rfl
  have flag : (if s.bau.h < s.hpi.cab.replaceTh then s.modVsm fun v => { v with armReplace := false }
      else s.modVsm fun v => { v with armReplace := true })
      = s.modVsm fun v => { v with armReplace := !decide (s.bau.h < s.hpi.cab.replaceTh) } := by
    split <;> rename_i low <;> simp [low]
  exact (raiseArmed_told (s := s) (cond := s.bau.h < s.hpi.cab.replaceTh) (k := .batteryReplace)
    (d := healthDetail .batteryReplace s) (by rfl) same).trans (congrArg (fun r => told _ (addDues _ r)) flag)

/-- BATTERY_INSPECT as an evaluation adds it (R147). -/
def inspectNew (s : State) : List (DueKind × EventSpec) :=
  dueNew (decide (s.bau.h < s.hpi.cab.inspectTh ∨ s.bau.carry.verdict = .weak) && s.vsm.armInspect) .batteryInspect
    (notice .dueRaised (healthDetail .batteryInspect s)) s

theorem evaluateInspect_told : evaluateInspect (told l s) = told (l ++ (inspectNew s).map (·.2))
    (addDues (inspectNew s) (s.modVsm fun v =>
      { v with armInspect := !decide (s.bau.h < s.hpi.cab.inspectTh ∨ s.bau.carry.verdict = .weak) })) := by
  have same : s.vsm.armInspect = false → (s.modVsm fun v => { v with armInspect := false }) = s := fun arm => by
    rw [← arm]
    rfl
  have flag : (if s.bau.h < s.hpi.cab.inspectTh ∨ s.bau.carry.verdict = .weak then
        s.modVsm fun v => { v with armInspect := false }
      else s.modVsm fun v => { v with armInspect := true }) = s.modVsm fun v =>
        { v with armInspect := !decide (s.bau.h < s.hpi.cab.inspectTh ∨ s.bau.carry.verdict = .weak) } := by
    split <;> rename_i low <;> simp [low]
  exact (raiseArmed_told (s := s) (cond := s.bau.h < s.hpi.cab.inspectTh ∨ s.bau.carry.verdict = .weak)
    (k := .batteryInspect) (d := healthDetail .batteryInspect s) (by rfl) same).trans
      (congrArg (fun r => told _ (addDues _ r)) flag)

def overdueNew (s : State) : List (DueKind × EventSpec) :=
  dueNew (decide (s.hpi.cab.testInt * 1440 < s.bau.carry.minTest)) .testOverdue
    (notice .dueRaised (u8 DueKind.testOverdue.code ++ u32 s.bau.carry.minTest)) s

theorem evaluateOverdue_told :
    evaluateOverdue (told l s) = told (l ++ (overdueNew s).map (·.2)) (addDues (overdueNew s) s) := raiseDue_told

def periodicNew (s : State) : List (DueKind × EventSpec) :=
  dueNew (decide (s.hpi.cab.periodInt * 1440 < s.bau.carry.minVisit)) .periodic
    (notice .dueRaised (u8 DueKind.periodic.code ++ u32 s.bau.carry.minVisit)) s

theorem evaluatePeriodic_told :
    evaluatePeriodic (told l s) = told (l ++ (periodicNew s).map (·.2)) (addDues (periodicNew s) s) := raiseDue_told

theorem duesRaised_eq (s : State) : duesRaised s = replaceNew s ++ inspectNew s ++ overdueNew s ++ periodicNew s := by
  have filtered (c₁ c₂ c₃ c₄ : Bool) (x₁ x₂ x₃ x₄ : DueKind × EventSpec) :
      ([(c₁, x₁), (c₂, x₂), (c₃, x₃), (c₄, x₄)].filter fun x =>
          x.1 && !s.vsm.dues.any fun d => decide (d.kind = x.2.1)).map (·.2)
        = dueNew c₁ x₁.1 x₁.2 s ++ dueNew c₂ x₂.1 x₂.2 s ++ dueNew c₃ x₃.1 x₃.2 s ++ dueNew c₄ x₄.1 x₄.2 s := by
    simp only [dueNew, List.filter_cons, List.filter_nil, apply_ite (List.map _), List.map_cons, List.map_nil]
    generalize s.vsm.dues.any (fun d => decide (d.kind = x₁.1)) = b₁,
      s.vsm.dues.any (fun d => decide (d.kind = x₂.1)) = b₂,
      s.vsm.dues.any (fun d => decide (d.kind = x₃.1)) = b₃, s.vsm.dues.any (fun d => decide (d.kind = x₄.1)) = b₄
    cases (c₁ && !b₁) <;> cases (c₂ && !b₂) <;> cases (c₃ && !b₃) <;> cases (c₄ && !b₄) <;> rfl
  refine (filtered _ _ _ _ _ _ _ _).trans ?_
  simp only [replaceNew, inspectNew, overdueNew, periodicNew, healthDetail, be16_ofNat, be32_ofNat]
  cases s.bau.carry.verdict <;> rfl

/-- What an evaluation adds depends on the account, the thresholds, the arm flags and the kinds on the list. -/
theorem duesRaised_congr {t : State} (bau : t.bau = s.bau) (cab : t.hpi.cab = s.hpi.cab)
    (armReplace : t.vsm.armReplace = s.vsm.armReplace) (armInspect : t.vsm.armInspect = s.vsm.armInspect)
    (dues : ∀ k, k ≠ .faultFollowup →
      t.vsm.dues.any (fun d => decide (d.kind = k)) = s.vsm.dues.any fun d => decide (d.kind = k)) :
    duesRaised t = duesRaised s := by
  simp only [duesRaised_eq, replaceNew, inspectNew, overdueNew, periodicNew, dueNew, healthDetail, bau, cab, armReplace,
    armInspect, dues .batteryReplace (by decide), dues .batteryInspect (by decide), dues .testOverdue (by decide),
    dues .periodic (by decide)]

/-- The part with the arm flags as an evaluation leaves them (R147). -/
def duesArmed (s : State) : State :=
  s.modVsm fun v => { v with
    armReplace := !decide (s.bau.h < s.hpi.cab.replaceTh)
    armInspect := !decide (s.bau.h < s.hpi.cab.inspectTh ∨ s.bau.carry.verdict = .weak) }

/-- An evaluation in closed form: the conditions of the four kinds do not disturb one another. -/
theorem evaluateDues_told :
    evaluateDues (told l s) = told (l ++ (duesRaised s).map (·.2)) (s.modVsm fun _ => duesEvaluated s) := by
  have inspect : inspectNew (addDues (replaceNew s) (s.modVsm fun v =>
      { v with armReplace := !decide (s.bau.h < s.hpi.cab.replaceTh) })) = inspectNew s :=
    dueNew_addDues (s := s.modVsm _) fun x hx => by rw [mem_dueNew hx]; decide
  have overdue : overdueNew (addDues (replaceNew s ++ inspectNew s) (duesArmed s)) = overdueNew s :=
    dueNew_addDues (s := duesArmed s) fun x hx => by
      rcases List.mem_append.mp hx with hx | hx <;> rw [mem_dueNew hx] <;> decide
  have periodic : periodicNew (addDues (replaceNew s ++ inspectNew s ++ overdueNew s) (duesArmed s)) = periodicNew s :=
    dueNew_addDues (s := duesArmed s) fun x hx => by
      rcases List.mem_append.mp hx with hx | hx
      · rcases List.mem_append.mp hx with hx | hx <;> rw [mem_dueNew hx] <;> decide
      · rw [mem_dueNew hx]
        decide
  have armed : addDues (inspectNew s) ((addDues (replaceNew s) (s.modVsm fun v =>
        { v with armReplace := !decide (s.bau.h < s.hpi.cab.replaceTh) })).modVsm fun v =>
          { v with armInspect := !decide (s.bau.h < s.hpi.cab.inspectTh ∨ s.bau.carry.verdict = .weak) })
      = addDues (replaceNew s ++ inspectNew s) (duesArmed s) :=
    (addDues_append (replaceNew s) (inspectNew s) (duesArmed s) :)
  rw [evaluateDues, evaluateReplace_told, evaluateInspect_told, inspect]
  refine (congrArg (fun r => evaluatePeriodic (evaluateOverdue (told _ r))) armed).trans ?_
  rw [evaluateOverdue_told, overdue, addDues_append, evaluatePeriodic_told, periodic, addDues_append]
  have dues : addDues (duesRaised s) (duesArmed s) = s.modVsm fun _ => duesEvaluated s := rfl
  rw [← dues, duesRaised_eq]
  simp only [List.map_append, List.append_assoc]

end Sys2Proof.Machine
end

section
/-! START: the record taken up, the stage's mode adopted, and what stands against INV (R69, R86, R172). -/

namespace Sys2Proof.Machine

variable {s u v t : State} {l : List EventSpec} {m : Mode}

/-! ## The account taken up (R69) -/

/-- The account of START, from the carry-over record (R63, R69, R76, R79 to R81). -/
def accountTaken (s : State) : Bau :=
  let h := healthOf s.bau.carry.u s.bau.carry.hTest s
  let q := s.hpi.cab.cRated.getD 0 * 144000 * h / 1000 * s.bau.carry.soc / 1000
  { s.bau with
    carry := { s.bau.carry with d := min s.bau.carry.d (s.hpi.cab.cRated.getD 0 * 1440 - 1) }
    hAge := 1000 - min 1000 (1000 * s.bau.carry.u / (s.hpi.cab.life * 8415360)), h := h, q := q, floatCount := 0
    tfInit := false, tf := s.hpi.cab.assumed
    weak := decide (h < s.hpi.cab.weakTh) || decide (s.bau.carry.verdict = .weak)
    runtime := runtimeFor q (ownLoad s) s }

/-- The own load does not read the account. -/
theorem ownLoad_account (s : State) (b : Bau) : ownLoad { s with bau := b } = ownLoad s := rfl

theorem takeUpRecord_eq (s : State) : takeUpRecord s = s.modBau fun _ => accountTaken s := by
  simp only [takeUpRecord, previewHealth, refreshWeak, refreshRuntime, setCharge, State.modBau, healthNow, ageHealth,
    uRated, weakOf, stepSize, qFullOf, runtimeOf, accountTaken, healthOf, runtimeFor, ownLoad_account]
  rfl

/-! ## Opened, with the stage's mode adopted (R16, R86) -/

/-- LINK_MUTED of a link that START opens with the duplicate-seen flag set (R16). -/
def openedTold (s : State) : List EventSpec := if s.link.duplicateSeen then [specOf .linkMuted [2#8]] else []

/-- RUNNING, with the record taken up and the link out of LISTEN (R16, R69). -/
def linkOpened (s : State) : State :=
  { s with
    link := { s.link with state := if s.link.duplicateSeen then .mutedDuplicate else .active }
    bau := accountTaken s
    hpi := { s.hpi with running := true } }

/-- The mode `m` adopted from the feedback, with the activity `a` (R44, R86). -/
def stageAdopted (m : Mode) (a : Activity) (s : State) : State :=
  { linkOpened s with
    clu := { s.clu with modeCmd := m, supv := true }
    trc := { s.trc with ownMode := m, activity := a, lastKnown := if m = .off then none else some m } }

theorem opened_live {a : Activity} (s : State) : (stageAdopted m a s).link.state ≠ .listen := by
  show (if s.link.duplicateSeen then LinkState.mutedDuplicate else .active) ≠ .listen
  split <;> decide

/-- START up to the adoption of the stage's mode. -/
def openedPart (s : State) : State := (openLink (takeUpRecord s)).modHpi fun h => { h with running := true }

theorem openedPart_eq (events : s.hpi.events.length ≤ 32) : openedPart s = told (openedTold s) (linkOpened s) := by
  rw [openedPart, takeUpRecord_eq, openLink, openedTold, linkOpened]
  cases seen : s.link.duplicateSeen with
  | true =>
    have seen' : (s.modBau fun _ => accountTaken s).link.duplicateSeen = true := seen
    rw [if_pos seen', raise_eq_told _ _ (by exact events)]
    rfl
  | false =>
    have seen' : ¬ (s.modBau fun _ => accountTaken s).link.duplicateSeen = true := by
      rw [State.modBau_link, seen]; decide
    rw [if_neg seen']
    exact (told_nil (s := { s with
      link := { s.link with state := .active }, bau := accountTaken s, hpi := { s.hpi with running := true } })
      events).symm

theorem adopted_feedback (m : Mode) : m.feedback.adopted = m := by cases m <;> rfl

theorem adoptMode_feedback (events : s.hpi.events.length ≤ 32) (fb : s.clu.fb.qual = m.feedback) :
    adoptMode (openedPart s) = told (openedTold s) (stageAdopted m .none s) := by
  have valid : m.feedback ≠ .invalid := by cases m <;> decide
  have same : (told (openedTold s) (linkOpened s)).clu.fb.qual = m.feedback := fb
  have kept (f : Trc → Trc) :
      adoptInvalid ((told (openedTold s) (linkOpened s)).modTrc f) = (told (openedTold s) (linkOpened s)).modTrc f :=
    if_neg fun h => valid (fb.symm.trans h)
  simp only [openedPart_eq events, adoptMode, kept, same, adopted_feedback]
  rfl

/-- Feedback INVALID is adopted as OFF, with MISMATCH (R86). -/
theorem adoptMode_invalid (events : s.hpi.events.length ≤ 32) (fb : s.clu.fb.qual = .invalid) :
    adoptMode (openedPart s)
      = told (openedTold s ++ [specOf .mismatch [3#8]]) (stageAdopted .off (.mismatch .off .stage) s) := by
  have same : (told (openedTold s) (linkOpened s)).clu.fb.qual = .invalid := fb
  have mismatch (f : Trc → Trc) : adoptInvalid ((told (openedTold s) (linkOpened s)).modTrc f)
      = told (openedTold s ++ [specOf .mismatch [3#8]])
        (((linkOpened s).modTrc f).modTrc fun t => { t with activity := .mismatch .off .stage }) := by
    refine (if_pos (by exact fb)).trans ?_
    rw [told_modTrc, told_modTrc, raise_told]
    rfl
  simp only [openedPart_eq events, adoptMode, mismatch, same, FbMode.adopted]
  rfl

/-! ## The checks of what stands against INV (R86) -/

theorem checkOverload_clear (h : ¬ (u.trc.ownMode = .inv ∧ u.clu.overload.qual = true)) :
    checkOverload (told l u) = told l u := if_neg h

theorem checkMaint_clear (h : ¬ (u.trc.ownMode = .inv ∧ u.clu.maint.qual = true)) :
    checkMaint (told l u) = told l u := if_neg h

theorem checkFault_clear (h : ¬ (u.trc.ownMode = .inv ∧ u.clu.invFault.qual = true)) :
    checkFault (told l u) = told l u := if_neg fun c => h ⟨c.1, c.2.1⟩

/-! ## The end of START (R172) -/

/-- START behind the checks of R86: the STATUS queued and the dues evaluated. -/
def startEnded (v : State) : State := (withStatus v).modVsm fun _ => duesEvaluated v

theorem evaluateDues_queueStatus (sends : Sends v) :
    evaluateDues (queueStatus (told l v)) = told (l ++ (duesRaised v).map (·.2)) (startEnded v) := by
  rw [queueStatus_told_eq sends, evaluateDues_told]
  rfl

/-- What START leaves, where the checks of R86 end in the state `v` behind the events of `l`. -/
structure StartLeft (l : List EventSpec) (v s t : State) : Prop where
  rest     : SameBut [.link, .clu, .bau, .trc, .vsm, .hpi] s t
  link     : t.link = (withStatus v).link
  status   : StatusQueued t
  trc      : TrcIs v.trc t
  clu      : t.clu = { v.clu with horn := t.clu.horn, hornTimer := t.clu.hornTimer }
  bau      : t.bau = accountTaken s
  vsm      : t.vsm = duesEvaluated v
  raised   : Raised (l ++ (duesRaised v).map (·.2)) s t
  answered : Answered 0x06 [0#8] 0 0 [] t
  running  : t.hpi.running = true
  settings : t.hpi.configured = s.hpi.configured ∧ t.hpi.floor = s.hpi.floor ∧ t.hpi.cab = s.hpi.cab

/-- The buffer with the window of START. -/
abbrev startCommand (s : State) : State := openCommand 0x06 [0#8] s

theorem start_leaves {a : Activity} (stopped : s.hpi.running = false) (unclaimed : s.lva = none)
    (configured : s.hpi.configured = true)
    (checked : checkFault (checkMaint (checkOverload (adoptMode (openedPart (startCommand s))))) = told l v)
    (rest : SameBut [.link, .clu, .trc, .vsm] (stageAdopted m a (startCommand s)) v)
    (live : v.link.state ≠ .listen) (free : v.link.attempt = none) (horn : v.clu.horn = s.clu.horn)
    (hornTimer : v.clu.hornTimer = s.clu.hornTimer) :
    ∃ t, exec (.start [0#8]) s = .next t ∧ StartLeft l v s t := by
  have port : v.hpi = { (startCommand s).hpi with running := true } := rest .hpi (by decide)
  have bau : v.bau = accountTaken s := rest .bau (by decide)
  have ftu : v.ftu = s.ftu := rest .ftu (by decide)
  have lva : v.lva = none := (rest .lva (by decide) : v.lva = s.lva).trans unclaimed
  have ruled : ruleStart [] (startCommand s) = (settle (evaluateDues (queueStatus (told l v))), okReply) := by
    have taken : (startCommand s).hpi.configured = true := configured
    rw [ruleStart, if_pos taken, ← checked]
    rfl
  rw [evaluateDues_queueStatus ⟨by rw [port], live, free⟩] at ruled
  obtain ⟨m, settled⟩ := settle_told (l := l ++ (duesRaised v).map (·.2)) (claimKept_none (s := startEnded v) lva)
  rw [settled] at ruled
  have accepted : TakenIn.accepts .configuring s = true := by rw [TakenIn.accepts, stopped]; rfl
  have runs := hostCommand_of_taken (rule := ruleStart) (code := 0x06) (lengths := len 0) (taken := .configuring)
    (window := [0#8]) (args := []) rfl rfl accepted
  rw [ruled] at runs
  have command : v.hpi.command = some (0x06#8 :: [0#8]) := by rw [port]; rfl
  have stamps : SameStamps s ((startEnded v).modTrc fun t => { t with lastKnown := m }) := by
    refine ⟨congrArg (·.events) port, congrArg (·.eventsLost) port, congrArg (·.floor) port, congrArg (·.cab) port,
      ?_, congrArg (·.floorTime) ftu, horn, hornTimer⟩
    exact congrArg (·.minutes) bau
  refine ⟨_, congrArg Host.Outcome.next runs, ?_, rfl, statusQueued_of (u := v) rfl, rfl, rfl, bau, rfl,
    raised_told _ stamps, answered_respond command rfl rfl rfl rfl, ?_, ?_⟩
  · exact sameBut_respond (by decide) (sameBut_of_eq (peers := fun _ => rest .peers (by decide))
      (pvu := fun _ => rest .pvu (by decide)) (ftu := fun _ => ftu) (sns := fun _ => rest .sns (by decide))
      (lva := fun _ => rest .lva (by decide)) (tsq := fun _ => rest .tsq (by decide))
      (pending := fun _ => rest .pending (by decide)))
  · exact congrArg (·.running) port
  · exact ⟨congrArg (·.configured) port, congrArg (·.floor) port, congrArg (·.cab) port⟩

/-! ## The figures of DROPOUT and FAULT_FOLLOWUP (R106, R148) -/

theorem othersCarrying_eq (s : State) : othersCarrying s = carriedByOthers s := by
  simp only [othersCarrying, carriedByOthers, presentPeers, sumOf, List.filter_map, List.filter_filter, List.map_map,
    Function.comp_def, Counted.inverting, Peer.counted, Bool.decide_and, Bool.and_comm]
  rfl

theorem faultFollowup_told (c : Byte) :
    faultFollowup c (told l u) = told (l ++ followupTold c u) (u.modVsm fun _ => followedUp u) := by
  rw [faultFollowup, raiseDue, followupTold, followedUp]
  cases holds : u.vsm.dues.any (fun d => decide (d.kind = .faultFollowup)) with
  | true =>
    have known : holdsDue .faultFollowup (told l u) = true := holds
    rw [if_pos known, if_pos rfl, if_pos rfl, List.append_nil]
    rfl
  | false =>
    have fresh : ¬ holdsDue .faultFollowup (told l u) = true := by rw [holdsDue, told_vsm, holds]; decide
    rw [if_neg fresh, if_neg Bool.false_ne_true, if_neg Bool.false_ne_true, told_modVsm, raise_told]
    rfl

/-- A report of a fault cause leaves the other dues as they stand. -/
theorem followedUp_dues {k : DueKind} (other : k ≠ .faultFollowup) :
    (followedUp s).dues.any (fun d => decide (d.kind = k)) = s.vsm.dues.any fun d => decide (d.kind = k) := by
  unfold followedUp
  split
  · rfl
  · simp [List.any_append, other.symm]

theorem followedUp_arms (s : State) :
    (followedUp s).armReplace = s.vsm.armReplace ∧ (followedUp s).armInspect = s.vsm.armInspect := by
  unfold followedUp
  split <;> exact ⟨rfl, rfl⟩

/-! ## START on INV (R86, R104, R106, R107) -/

/-- The stage is on INV, nothing is under way, and the link opens in ACTIVE. -/
structure StartsOnInverter (s : State) : Prop where
  inv        : Inv s
  stopped    : s.hpi.running = false
  unclaimed  : s.lva = none
  configured : s.hpi.configured = true
  feedback   : s.clu.fb.qual = .inv
  single     : s.link.duplicateSeen = false
  present    : s.vsm.visit = none
  idle       : s.tsq.state.inProgress = false
  room       : s.link.urgent.length < 2

/-- The stage's INV adopted, and nothing else. -/
abbrev invStage (s : State) : State := { s with trc := { s.trc with ownMode := .inv, activity := .none } }

/-- The part at START on INV, its mode adopted. -/
abbrev onInverter (s : State) : State := stageAdopted .inv .none (startCommand s)

/-- What START leaves at a stage on INV, with the mode command that the checks leave. -/
structure StartedOn (l : List EventSpec) (mode : Mode) (s t : State) : Prop where
  running  : t.hpi.running = true
  answered : Answered 0x06 [0#8] 0 0 [] t
  link     : t.link.state = .active
  status   : StatusQueued t
  ownMode  : t.trc.ownMode = .inv
  clu      : t.clu = { s.clu with
    modeCmd := mode, supv := true, dead := s.clu.dead || decide (mode = .byp), horn := t.clu.horn
    hornTimer := t.clu.hornTimer }
  raised   : Raised (l ++ (duesRaised { s with bau := t.bau }).map (·.2)) s t
  rest     : SameBut [.link, .clu, .bau, .trc, .vsm, .hpi] s t

theorem free_of_stopped (inv : Inv s) (stopped : s.hpi.running = false) : s.link.attempt = none :=
  inv.attempt (inv.listen.mpr stopped)

theorem onInverter_active (h : StartsOnInverter s) : (onInverter s).link.state = .active := by
  have seen : (startCommand s).link.duplicateSeen = false := h.single
  simp only [onInverter, stageAdopted, linkOpened, seen, Bool.false_eq_true, if_false]

theorem start_onInverter {mode : Mode} (h : StartsOnInverter s)
    (checked : checkFault (checkMaint (checkOverload (told [] (onInverter s)))) = told l v)
    (rest : SameBut [.link, .clu, .trc, .vsm] (onInverter s) v)
    (active : v.link.state = (onInverter s).link.state) (free : v.link.attempt = s.link.attempt)
    (own : v.trc.ownMode = .inv)
    (clu : v.clu = { s.clu with modeCmd := mode, supv := true, dead := s.clu.dead || decide (mode = .byp) })
    (vsm : v.vsm = s.vsm ∨ v.vsm = followedUp s) :
    ∃ t, exec (.start [0#8]) s = .next t ∧ StartedOn l mode s t ∧ TrcIs v.trc t ∧ t.link.urgent = v.link.urgent := by
  have opened : openedTold (startCommand s) = [] :=
    if_neg (by show ¬ s.link.duplicateSeen = true; rw [h.single]; decide)
  have active := active.trans (onInverter_active h)
  rw [← opened, ← adoptMode_feedback (s := startCommand s) (m := .inv) h.inv.events h.feedback] at checked
  obtain ⟨t, runs, left⟩ := start_leaves h.stopped h.unclaimed h.configured checked rest
    (by rw [active]; decide) (free.trans (free_of_stopped h.inv h.stopped)) (by rw [clu]) (by rw [clu])
  have bau : v.bau = t.bau := (rest .bau (by decide) : v.bau = accountTaken s).trans left.bau.symm
  have cab : v.hpi.cab = s.hpi.cab := congrArg (·.cab) (rest .hpi (by decide) : v.hpi = (onInverter s).hpi)
  obtain ⟨followReplace, followInspect⟩ := followedUp_arms s
  have dues : duesRaised v = duesRaised { s with bau := t.bau } := by
    rcases vsm with vsm | vsm
    · exact duesRaised_congr bau cab (by rw [vsm]) (by rw [vsm]) fun _ _ => by rw [vsm]
    · exact duesRaised_congr bau cab (by rw [vsm, followReplace]) (by rw [vsm, followInspect])
        fun _ other => by rw [vsm]; exact followedUp_dues other
  have trc : t.trc = { v.trc with lastKnown := t.trc.lastKnown } := left.trc
  refine ⟨t, runs, ⟨left.running, left.answered, ?_, left.status, ?_, ?_, ?_, left.rest⟩, left.trc, ?_⟩
  · rw [left.link, withStatus]
    exact active
  · rw [trc]
    exact own
  · rw [left.clu, clu]
  · rw [← dues]
    exact left.raised
  · rw [left.link]
    rfl

/-- The part with the FORCE of a cause queued (R102). -/
def forceQueued (c : ForceCause) (s : State) : State :=
  s.modLink fun k => { k with urgent := k.urgent ++ [queued (.force (BitVec.ofNat 8 c.code))] }

/-- START forces the floor from the adopted INV, the fault cause not yet reported. -/
theorem forceSteps_atStart (h : StartsOnInverter s) (c : ForceCause) {ownFault : Bool}
    (bypass : s.clu.bypOk.qual = true) : actOnForce (told l (onInverter s)).own ownFault (postForce c
        (raise .transferForced (u8 c.code ++ stationByte (told l (onInverter s)).own) (told l (onInverter s))))
      = told (l ++ [forcedTold c s]) (forcedToBypass (forceQueued c (onInverter s))) := by
  have present : isolatedFlag (onInverter s) = false := by
    have none_ : (onInverter s).vsm.visit = none := h.present
    rw [isolatedFlag, none_]
  have away : (onInverter s).clu.fb.qual ≠ .byp := by
    show s.clu.fb.qual ≠ .byp
    rw [h.feedback]
    decide
  have live : (onInverter s).link.state ≠ .listen := by rw [onInverter_active h]; decide
  rw [forceSteps_onInverter c present rfl rfl h.idle h.unclaimed bypass away, postForce_room live h.room]
  rfl

/-- Behind a force at START the part is on its way to BYP, and the later checks pass. -/
theorem start_forced (h : StartsOnInverter s) {c : ForceCause}
    (vsm : Vsm) (follows : vsm = s.vsm ∨ vsm = followedUp s)
    (checked : checkFault (checkMaint (checkOverload (told [] (onInverter s)))) = told l
      ((forcedToBypass (forceQueued c (onInverter s))).modVsm fun _ => vsm)) :
    ∃ t, exec (.start [0#8]) s = .next t ∧ StartedOn l .byp s t
      ∧ TrcIs (switchEntered .byp .forced (some (10000 * s.hpi.floor.hold)) (invStage s)) t
      ∧ t.link.urgent = s.link.urgent ++ [queued (.force (BitVec.ofNat 8 c.code))] :=
  start_onInverter h checked sameBut_of_eq rfl rfl rfl rfl follows

/-! ## The one condition that stands (R86) -/

section
variable (h : StartsOnInverter s) (overload : s.clu.overload.qual = true) (maint : s.clu.maint.qual = false)
  (sound : s.clu.invFault.qual = false)
include h overload maint sound

theorem start_overload_waits (tolerance : 0 < s.hpi.floor.overloadTol) :
    ∃ t, exec (.start [0#8]) s = .next t ∧ StartedOn [] .inv s t
      ∧ TrcIs { s.trc with
        ownMode := .inv, activity := .none, overloadTimer := some (10000 * s.hpi.floor.overloadTol) } t := by
  have waits : startOverload (told [] (onInverter s)) = told [] ((onInverter s).modTrc fun t =>
      { t with overloadTimer := some (10000 * s.hpi.floor.overloadTol) }) := by
    have some_ : ¬ (told [] (onInverter s)).hpi.floor.overloadTol = 0 := by
      show ¬ s.hpi.floor.overloadTol = 0
      omega
    rw [startOverload, if_neg some_, ticksOfSeconds, Nat.mul_comm]
    rfl
  have checked : checkFault (checkMaint (checkOverload (told [] (onInverter s)))) = told [] ((onInverter s).modTrc
      fun t => { t with overloadTimer := some (10000 * s.hpi.floor.overloadTol) }) := by
    have stands : (told [] (onInverter s)).trc.ownMode = .inv ∧ (told [] (onInverter s)).clu.overload.qual = true :=
      ⟨rfl, overload⟩
    rw [checkOverload, if_pos stands, waits, checkMaint_clear fun c => ?_, checkFault_clear fun c => ?_]
    · exact Bool.false_ne_true (sound.symm.trans c.2)
    · exact Bool.false_ne_true (maint.symm.trans c.2)
  obtain ⟨t, runs, started, trc, -⟩ := start_onInverter (mode := .inv) h checked sameBut_of_eq rfl rfl rfl
    (by simp [State.modTrc, onInverter, stageAdopted, openCommand, State.modHpi]) (.inl rfl)
  exact ⟨t, runs, started, trc⟩

theorem start_overload_forces (none_ : s.hpi.floor.overloadTol = 0) (bypass : s.clu.bypOk.qual = true) :
    ∃ t, exec (.start [0#8]) s = .next t ∧ StartedOn [forcedTold .overload s] .byp s t
      ∧ TrcIs (switchEntered .byp .forced (some (10000 * s.hpi.floor.hold)) (invStage s)) t
      ∧ t.link.urgent = s.link.urgent ++ [queued (.force 2#8)] := by
  refine start_forced (c := .overload) h s.vsm (.inl rfl) ?_
  have stands : (told [] (onInverter s)).trc.ownMode = .inv ∧ (told [] (onInverter s)).clu.overload.qual = true :=
    ⟨rfl, overload⟩
  have zero : (told [] (onInverter s)).hpi.floor.overloadTol = 0 := none_
  rw [checkOverload, if_pos stands, startOverload, if_pos zero, force]
  rw [forceSteps_atStart h .overload bypass, checkMaint_clear fun c => ?_, checkFault_clear fun c => ?_]
  · rfl
  · exact Bool.false_ne_true (sound.symm.trans c.2)
  · exact Bool.false_ne_true (maint.symm.trans c.2)

end

theorem start_maint_forces (h : StartsOnInverter s) (load : s.clu.overload.qual = false)
    (maint : s.clu.maint.qual = true) (sound : s.clu.invFault.qual = false) (bypass : s.clu.bypOk.qual = true) :
    ∃ t, exec (.start [0#8]) s = .next t
      ∧ StartedOn [alarm .interlock [1#8, 1#8], forcedTold .interlock s] .byp s t
      ∧ TrcIs (switchEntered .byp .forced (some (10000 * s.hpi.floor.hold)) (invStage s)) t
      ∧ t.link.urgent = s.link.urgent ++ [queued (.force 5#8)] := by
  refine start_forced (c := .interlock) h s.vsm (.inl rfl) ?_
  have stands : (told [] (onInverter s)).trc.ownMode = .inv ∧ (told [] (onInverter s)).clu.maint.qual = true :=
    ⟨rfl, maint⟩
  rw [checkOverload_clear fun c => ?_, checkMaint, if_pos stands, tellInterlock, raise_told, force]
  rw [forceSteps_atStart h .interlock bypass, checkFault_clear fun c => ?_]
  · rfl
  · exact Bool.false_ne_true (sound.symm.trans c.2)
  · exact Bool.false_ne_true (load.symm.trans c.2)

theorem floorLoad_onInverter (s : State) : floorLoad (told [] (onInverter s)) = floorLoad (invStage s) :=
  SameView.floorLoad ⟨rfl, rfl, rfl, rfl, rfl, rfl, rfl⟩

/-- The part dropped out at START, its STATUS queued. -/
def droppedOut (s : State) : State :=
  withStatus (((onInverter s).modTrc fun _ => switchEntered .off .dropout s.trc.holdTimer (onInverter s)).modClu
    (commanded .off))

theorem dropOut_atStart (h : StartsOnInverter s) : dropOut (told [] (onInverter s))
    = told (alarm .dropout (dropoutFigures (invStage s)) :: followupTold Config.dropoutCauseCode s)
      ((droppedOut s).modVsm fun _ => followedUp s) := by
  have tells : tellDropout (told [] (onInverter s))
      = told [alarm .dropout (dropoutFigures (invStage s))] (onInverter s) := by
    rw [tellDropout, othersCarrying_eq, floorLoad_onInverter, raise_told, dropoutFigures, be32_ofNat, be32_ofNat]
    rfl
  have away : (onInverter s).clu.fb.qual ≠ .off := by
    show s.clu.fb.qual ≠ .off
    rw [h.feedback]
    decide
  have switches (l : List EventSpec) : switchAway .off .dropout (told l (onInverter s)) = told l (((onInverter s).modTrc
      fun _ => switchEntered .off .dropout s.trc.holdTimer (onInverter s)).modClu (commanded .off)) :=
    switchAway_eq (s := told l (onInverter s)) rfl (by decide) (by decide) away
  have sends : Sends (((onInverter s).modTrc fun _ => switchEntered .off .dropout s.trc.holdTimer (onInverter s)).modClu
      (commanded .off)) := by
    refine ⟨rfl, ?_, (free_of_stopped h.inv h.stopped : _)⟩
    show (onInverter s).link.state ≠ .listen
    rw [onInverter_active h]
    decide
  have idle (l : List EventSpec) : abortRun .forced (told l (onInverter s)) = told l (onInverter s) := by
    have idle : (told l (onInverter s)).tsq.state.inProgress = false := h.idle
    rw [abortRun, idle, if_neg Bool.false_ne_true]
  have unclaimed (l : List EventSpec) : releaseKind .test (told l (onInverter s)) = told l (onInverter s) := by
    have unclaimed : (told l (onInverter s)).lva = none := h.unclaimed
    rw [releaseKind, unclaimed]
    rfl
  rw [dropOut, tells]
  rw [idle, unclaimed, switches, queueStatus_told_eq sends, faultFollowup_told]
  rfl

section
variable (load : s.clu.overload.qual = false) (open_ : s.clu.maint.qual = false)
  (fault : s.clu.invFault.qual = true)
include load open_ fault

/-- An inverter fault is what the checks come to. -/
theorem checked_fault : checkFault (checkMaint (checkOverload (told [] (onInverter s))))
    = if floorLoad (invStage s) ≤ carriedByOthers s
      then dropOut (told [] (onInverter s)) else force .inverterFault (told [] (onInverter s)) := by
  have others : othersCarrying (told [] (onInverter s)) = carriedByOthers s := othersCarrying_eq _
  have drops : dropProposal (some .fault) [] (told [] (onInverter s)) = told [] (onInverter s) := rfl
  have stands : (told [] (onInverter s)).trc.ownMode = .inv ∧ (told [] (onInverter s)).clu.invFault.qual = true
      ∧ ((told [] (onInverter s)).trc.activity.aim = none
        ∨ (told [] (onInverter s)).trc.activity.aim.map Prod.fst = some .inv) := ⟨rfl, fault, .inl rfl⟩
  rw [checkOverload_clear fun c => ?_, checkMaint_clear fun c => ?_, checkFault, if_pos stands, inverterFault]
  · rw [drops, floorLoad_onInverter, others]
  · exact Bool.false_ne_true (open_.symm.trans c.2)
  · exact Bool.false_ne_true (load.symm.trans c.2)

theorem start_fault_forces (h : StartsOnInverter s) (bypass : s.clu.bypOk.qual = true)
    (short : carriedByOthers s < floorLoad (invStage s)) :
    ∃ t, exec (.start [0#8]) s = .next t
      ∧ StartedOn (forcedTold .inverterFault s :: followupTold 6#8 s) .byp s t
      ∧ TrcIs (switchEntered .byp .forced (some (10000 * s.hpi.floor.hold)) (invStage s)) t
      ∧ t.link.urgent = s.link.urgent ++ [queued (.force 6#8)] := by
  refine start_forced (c := .inverterFault) h (followedUp s) (.inr rfl) ?_
  rw [checked_fault load open_ fault, if_neg (by omega), force]
  rw [forceSteps_atStart h .inverterFault bypass, faultFollowup_told]
  rfl

theorem start_fault_dropsOut (h : StartsOnInverter s)
    (backed : floorLoad (invStage s) ≤ carriedByOthers s) :
    ∃ t, exec (.start [0#8]) s = .next t
      ∧ StartedOn (alarm .dropout (dropoutFigures (invStage s))
        :: followupTold Config.dropoutCauseCode s) .off s t
      ∧ TrcIs (switchEntered .off .dropout s.trc.holdTimer (invStage s)) t
      ∧ t.link.urgent = s.link.urgent := by
  refine start_onInverter (v := (droppedOut s).modVsm fun _ => followedUp s) (mode := .off) h ?_ sameBut_of_eq rfl rfl
    rfl ?_ (.inr rfl)
  · rw [checked_fault load open_ fault, if_pos backed, dropOut_atStart h]
  · simp [droppedOut, withStatus, commanded, onInverter, stageAdopted, openCommand, State.modHpi, State.modTrc,
      State.modClu, State.modVsm, State.modLink]

end

/-! ## The obligation -/

/-- With the cabinet not configured START is answered, and changes nothing (R172). -/
theorem start_notConfigured (stopped : s.hpi.running = false) (configured : s.hpi.configured = false) :
    exec (.start [0#8]) s = .next (onlyAnswered 0x06 [0#8] 2 18 [] s) := by
  have accepted : TakenIn.accepts .configuring s = true := by rw [TakenIn.accepts, stopped]; rfl
  have ruled : ruleStart [] (startCommand s)
      = (startCommand s, { wrongState with reason := Reason.notConfigured.byte }) := by
    have bare : ¬ (startCommand s).hpi.configured = true := by
      show ¬ s.hpi.configured = true
      rw [configured]
      decide
    rw [ruleStart, if_neg bare]
  have runs := hostCommand_of_taken (rule := ruleStart) (code := 0x06) (lengths := len 0) (taken := .configuring)
    (window := [0#8]) (args := []) rfl rfl accepted
  rw [ruled] at runs
  obtain ⟨-, response⟩ := answered_respond (code := 0x06) (window := [0#8]) (t := startCommand s)
    (r := { wrongState with reason := Reason.notConfigured.byte }) (status := 2) (reason := 18) (body := []) rfl rfl rfl
    rfl rfl
  refine congrArg Host.Outcome.next (runs.trans ?_)
  refine congrArg (fun r => { s with hpi := { s.hpi with command := some [0x06#8, 0#8], response := r } }) ?_
  exact response

/-- START that finds nothing standing against the adopted mode. -/
theorem start_clear (inv : Inv s) (stopped : s.hpi.running = false) (unclaimed : s.lva = none)
    (configured : s.hpi.configured = true) (fb : s.clu.fb.qual = m.feedback)
    (clear : ¬ (m = .inv ∧ (s.clu.overload.qual ∨ s.clu.maint.qual ∨ s.clu.invFault.qual))) :
    ∃ t, exec (.start [0#8]) s = .next t
      ∧ StartLeft (openedTold (startCommand s)) (stageAdopted m .none (startCommand s)) s t := by
  have free := free_of_stopped inv stopped
  refine start_leaves stopped unclaimed configured ?_ (sameBut_refl _ _) ?_ free rfl rfl
  · rw [adoptMode_feedback (s := startCommand s) inv.events fb, checkOverload_clear (u := stageAdopted _ _ _) ?_,
      checkMaint_clear (u := stageAdopted _ _ _) ?_, checkFault_clear (u := stageAdopted _ _ _) ?_]
    · exact fun c => clear ⟨c.1, .inr (.inr c.2)⟩
    · exact fun c => clear ⟨c.1, .inr (.inl c.2)⟩
    · exact fun c => clear ⟨c.1, .inl c.2⟩
  · exact opened_live _

/-- Settles O12. -/
theorem startAdoptsStageAndRecord : Obligations.StartAdoptsStageAndRecord := by
  refine ⟨?_, ?_, ?_⟩
  · intro s inv stopped unclaimed
    refine ⟨start_notConfigured stopped, ?_⟩
    intro m configured fb clear
    obtain ⟨t, runs, left⟩ := start_clear inv stopped unclaimed configured fb clear
    have trc : t.trc = { (stageAdopted m .none (startCommand s)).trc with lastKnown := t.trc.lastKnown } := left.trc
    obtain ⟨conf, floor, cab⟩ := left.settings
    exact ⟨t, runs, left.running, conf.trans configured, floor, cab, left.answered, by rw [left.link]; rfl, left.status,
      by rw [left.link]; rfl, by rw [left.link]; rfl, by rw [trc]; rfl, by rw [trc]; rfl, left.clu, left.bau,
      by rw [left.vsm]; rfl, by rw [left.vsm]; rfl, left.rest⟩
  · intro s inv stopped unclaimed configured fb single empty
    have free := free_of_stopped inv stopped
    have checked : checkFault (checkMaint (checkOverload (adoptMode (openedPart (startCommand s)))))
        = told [specOf .mismatch [3#8]] (stageAdopted .off (.mismatch .off .stage) (startCommand s)) := by
      have opened : openedTold (startCommand s) = [] :=
        if_neg (by show ¬ s.link.duplicateSeen = true; rw [single]; decide)
      have off : (stageAdopted .off (.mismatch .off .stage) (startCommand s)).trc.ownMode ≠ .inv := Mode.noConfusion
      rw [adoptMode_invalid (s := startCommand s) inv.events fb, opened, List.nil_append,
        checkOverload_clear fun c => off c.1, checkMaint_clear fun c => off c.1, checkFault_clear fun c => off c.1]
    obtain ⟨t, runs, left⟩ := start_leaves stopped unclaimed configured checked (sameBut_refl _ _) (opened_live _)
      (by exact free) rfl rfl
    have trc : t.trc = { (stageAdopted .off (.mismatch .off .stage) (startCommand s)).trc with
      lastKnown := t.trc.lastKnown } := left.trc
    obtain ⟨events, -, -⟩ := left.raised
    refine ⟨t, runs, left.running, by rw [trc]; rfl, by rw [trc]; rfl, by rw [left.clu]; rfl, by rw [left.clu]; rfl, ?_⟩
    rw [events, empty]
    rfl
  · intro s inv stopped unclaimed configured fb single present idle room
    have h : StartsOnInverter s := ⟨inv, stopped, unclaimed, configured, fb, single, present, idle, room⟩
    have reads {l : List EventSpec} {mode : Mode} {t : State} (st : StartedOn l mode s t) :
        _ ∧ _ ∧ _ ∧ _ ∧ _ ∧ _ ∧ _ ∧ _ :=
      ⟨st.running, st.answered, st.link, st.status, st.ownMode, st.clu, st.raised, st.rest⟩
    refine ⟨?_, ?_, ?_, ?_⟩
    · intro overload maint sound tolerance
      obtain ⟨t, runs, started, trc⟩ := start_overload_waits h overload maint sound tolerance
      exact ⟨t, runs, reads started, trc⟩
    · intro overload maint sound none_ bypass
      obtain ⟨t, runs, started, forced⟩ := start_overload_forces h overload maint sound none_ bypass
      exact ⟨t, runs, forced, reads started⟩
    · intro load maint sound bypass
      obtain ⟨t, runs, started, forced⟩ := start_maint_forces h load maint sound bypass
      exact ⟨t, runs, forced, reads started⟩
    · intro load open_ fault
      refine ⟨fun backed => ?_, fun short bypass => ?_⟩
      · obtain ⟨t, runs, started, trc, urgent⟩ := start_fault_dropsOut load open_ fault h backed
        exact ⟨t, runs, trc, urgent, reads started⟩
      · obtain ⟨t, runs, started, forced⟩ := start_fault_forces load open_ fault h bypass short
        exact ⟨t, runs, forced, reads started⟩

end Sys2Proof.Machine
end

section
/-! The reset state item by item, by the tables of the chapters. -/

namespace Sys2Proof.Machine

/-- Settles O2. -/
theorem resetStateHoldsHardResetValues : Obligations.ResetStateHoldsHardResetValues := by
  refine ⟨⟨rfl, rfl⟩, rfl, rfl, rfl, rfl, rfl, rfl, rfl, rfl, rfl, rfl, rfl, rfl, rfl, rfl, rfl, rfl, rfl, ?entries,
    rfl, rfl, rfl, rfl, rfl, rfl, rfl, rfl, rfl, rfl, rfl, rfl, rfl, rfl, rfl, rfl, rfl, rfl, rfl, rfl, rfl, rfl, rfl,
    rfl, rfl, rfl, rfl, rfl, rfl, rfl, rfl, rfl, rfl, rfl, rfl, rfl, rfl, rfl, rfl, rfl, rfl, rfl, rfl, rfl, rfl, rfl,
    rfl, rfl, rfl, rfl, ?splits, rfl, rfl, rfl, rfl, rfl, rfl, rfl, rfl, rfl, rfl, rfl⟩
  case entries =>
    intro e mem
    rw [mem_blankPeers mem]
    exact ⟨rfl, rfl, rfl, rfl, rfl, rfl, rfl, rfl⟩
  case splits => exact fun p => Vector.getElem_replicate p.isLt

end Sys2Proof.Machine
end

section
/-! The tick of the reference clock: the timers of every block, floor time and the pending slew (R33, R37, R71). -/

namespace Sys2Proof.Machine

variable {s : State}

theorem tickAdvance_eq (f : Ftu) : tickAdvance f
    = if f.tickCount = 99 then (if 0 < f.slew then 2 else if f.slew < 0 then 0 else 1) else 1 := by
  unfold tickAdvance slewDue
  by_cases last : f.tickCount = 99 <;> simp [last]

theorem slewAfter_eq (f : Ftu) : slewAfter f
    = if f.tickCount = 99 then (if 0 < f.slew then f.slew - 1 else if f.slew < 0 then f.slew + 1 else f.slew)
      else f.slew := by
  unfold slewAfter slewDue
  by_cases last : f.tickCount = 99 <;> simp [last]

theorem slewTick_eq (last : s.ftu.tickCount = 99) : slewTick s = referenceTick s :=
  if_pos (decide_eq_true last)

/-- The FTU after any tick. -/
theorem referenceTick_ftu (s : State) : (referenceTick s).ftu = s.ftu.tick := rfl

/-- Settles O43. -/
theorem slewTickMovesFloorTime : Obligations.SlewTickMovesFloorTime := by
  refine fun s => ⟨fun last => ?_, fun other => ?_⟩
  · refine ⟨_, congrArg Host.Outcome.next (slewTick_eq last), ?_, fun ahead => ?_, fun behind => ?_, fun even => ?_⟩
    · simp [referenceTick_ftu, Ftu.tick, slewDue, last]
    · simp [referenceTick_ftu, Ftu.tick, tickAdvance_eq, slewAfter_eq, last, ahead, ticksTime]
    · simp [referenceTick_ftu, Ftu.tick, tickAdvance_eq, slewAfter_eq, last, behind, behind.not_gt, ticksTime]
    · simp [referenceTick_ftu, Ftu.tick, tickAdvance_eq, slewAfter_eq, last, even, ticksTime]
  · refine ⟨referenceTick s, rfl, ?_, ?_, ?_⟩
    · simp [referenceTick_ftu, Ftu.tick, slewDue, other]
    · simp [referenceTick_ftu, Ftu.tick, tickAdvance_eq, other, ticksTime]
    · simp [referenceTick_ftu, Ftu.tick, slewAfter_eq, other]

/-- An advance of at most 2 passes through or onto a multiple of 1000 exactly where one of the times it reaches is
one. -/
theorem crosses_eq {advance : Nat} (few : advance ≤ 2) (t : FloorTime) : crosses advance t
    = decide (∃ n, n < advance ∧ (t - BitVec.ofNat 32 n).toNat % 1000 = 0) := by
  have back {n : Nat} (le : n ≤ t.toNat) : (t - BitVec.ofNat 32 n).toNat = t.toNat - n := by
    have fits := t.isLt
    rw [BitVec.toNat_sub_of_le (by simp [BitVec.le_def]; omega), BitVec.toNat_ofNat, Nat.mod_eq_of_lt (by omega)]
  refine decide_eq_decide.mpr ⟨fun near => ⟨t.toNat % 1000, near, ?_⟩, fun ⟨n, below, onto⟩ => ?_⟩
  · rw [back (Nat.mod_le _ _)]
    omega
  · by_cases le : n ≤ t.toNat
    · rw [back le] at onto
      omega
    · omega

theorem tickAdvance_le (f : Ftu) : tickAdvance f ≤ 2 := by
  rw [tickAdvance_eq]
  repeat' split
  all_goals decide

/-- Settles O44. -/
theorem tickMovesEveryTimer : Obligations.TickMovesEveryTimer := by
  refine fun s => ⟨fun last => congrArg Host.Outcome.next (slewTick_eq last), fun other => ?_, ?_⟩
  · exact congrArg Host.Outcome.next (if_neg (by simpa [slewDue] using other))
  · refine ⟨referenceTick s, rfl, rfl, rfl, rfl, rfl, ?_, rfl, rfl, rfl, rfl, ⟨?_, rfl, rfl⟩, sameBut_of_eq⟩
    · show s.bau.tick s.hpi.running = _
      unfold Bau.tick
      split <;> rfl
    · rw [← tickAdvance_eq, referenceTick_ftu, ← crosses_eq (tickAdvance_le _)]
      rfl

end Sys2Proof.Machine
end

section
/-! The peer table in closed form: what stands in the entry of one station, its markers with the one PEER_CHANGE they
raise, and its claim record (R19, R25, R26). -/

namespace Sys2Proof.Machine

variable {p : Station} {e e₀ e₁ : Peer} {s u : State} {l : List EventSpec}

/-! ## The entry of a station (R19) -/

/-- `e` stands in the peer table as the one entry of station `p`. -/
structure EntryOf (p : Station) (e : Peer) (s : State) : Prop where
  station : e.station = p
  mem     : e ∈ s.peers
  only    : ∀ x ∈ s.peers, x.station = p → x = e

/-- The table with `e` in the place of the entry of station `p`. -/
def withEntry (p : Station) (e : Peer) (s : State) : State :=
  s.modPeers fun l => l.map fun x => if x.station = p then e else x

theorem entryOf_inv (inv : Inv s) (mem : e ∈ s.peers) (station : e.station = p) : EntryOf p e s := by
  have distinct : (s.peers.map (·.station)).Nodup := by
    rw [inv.peers]
    exact (List.nodup_finRange 16).filter _
  exact ⟨station, mem, fun x hx same => List.inj_on_of_nodup_map distinct hx mem (same.trans station.symm)⟩

theorem EntryOf.find (h : EntryOf p e s) : findPeer p s = some e := by
  have found : (findPeer p s).isSome := List.find?_isSome.mpr ⟨e, h.mem, decide_eq_true h.station⟩
  obtain ⟨x, hx⟩ := Option.isSome_iff_exists.mp found
  rw [hx, h.only x (List.mem_of_find?_eq_some hx) (findPeer_station hx)]

theorem EntryOf.update (h : EntryOf p e s) (f : Peer → Peer) : updatePeer p f s = withEntry p (f e) s := by
  refine congrArg (fun l => { s with peers := l }) (List.map_congr_left fun x hx => ?_)
  split
  · rw [h.only x hx ‹_›]
  · rfl

/-- The table with its own entry put back. -/
theorem EntryOf.stands (h : EntryOf p e s) : withEntry p e s = s := by
  have same : s.peers.map (fun x => if x.station = p then e else x) = s.peers := by
    refine (List.map_congr_left fun x hx => ?_).trans (List.map_id _)
    split
    · exact (h.only x hx ‹_›).symm
    · rfl
  exact congrArg (fun l => { s with peers := l }) same

theorem EntryOf.replaced (h : EntryOf p e₀ s) (station : e.station = p) : EntryOf p e (withEntry p e s) := by
  refine ⟨station, List.mem_map.mpr ⟨e₀, h.mem, if_pos h.station⟩, fun x hx same => ?_⟩
  obtain ⟨y, -, rfl⟩ := List.mem_map.mp hx
  by_cases there : y.station = p
  · exact if_pos there
  · simp only [if_neg there] at same
    exact absurd same there

theorem EntryOf.of_peers (h : EntryOf p e s) (same : u.peers = s.peers) : EntryOf p e u :=
  ⟨h.station, same ▸ h.mem, same ▸ h.only⟩

theorem EntryOf.behind (h : EntryOf p e u) : EntryOf p e (told l u) := h.of_peers rfl

theorem withEntry_withEntry (station : e.station = p) : withEntry p e₁ (withEntry p e s) = withEntry p e₁ s := by
  refine congrArg (fun l => { s with peers := l }) ?_
  simp only [withEntry, State.modPeers_peers, List.map_map]
  refine List.map_congr_left fun x _ => ?_
  by_cases there : x.station = p <;> simp [there, station]

theorem withEntry_told : withEntry p e (told l s) = told l (withEntry p e s) := rfl

theorem EntryOf.updateAgain (h : EntryOf p e₀ s) (station : e.station = p) (f : Peer → Peer) :
    updatePeer p f (told l (withEntry p e s)) = told l (withEntry p (f e) s) := by
  rw [(h.replaced station).behind.update, withEntry_told, withEntry_withEntry station]

/-! ## Change markers (R26) -/

/-- A marker set where its condition holds. -/
def Markers.setIf (m : Markers) (b : Bool × Marker) : Markers :=
  match b.2 with
  | .presence => { m with presence := m.presence || b.1 }
  | .mode => { m with mode := m.mode || b.1 }
  | .claim => { m with claim := m.claim || b.1 }
  | .health => { m with health := m.health || b.1 }

/-- The entry with the markers of a list set, each where its condition holds. -/
def markAll (bits : List (Bool × Marker)) (e : Peer) : Peer := { e with markers := bits.foldl Markers.setIf e.markers }

/-- The byte in which PEER_CHANGE names a marker. -/
def markByte : Marker → Byte
  | .presence => 1#8 | .mode => 2#8 | .claim => 4#8 | .health => 8#8

/-- PEER_CHANGE of the first marker that is set in an entry with none. -/
def firstMark (p : Station) (e : Peer) (bits : List (Bool × Marker)) : List EventSpec :=
  if e.markers = Markers.clear then
    ((bits.find? fun b => b.1).map fun b => info .peerChange [byteOf p.val, markByte b.2]).toList
  else []

theorem setIf_false (m : Markers) (k : Marker) : m.setIf (false, k) = m := by
  cases k <;> simp [Markers.setIf]

theorem setIf_true (m : Markers) (k : Marker) : m.setIf (true, k) = m.set k := by
  cases k <;> simp [Markers.setIf, Markers.set]

theorem markers_any (m : Markers) : m.any = true ↔ m ≠ Markers.clear := by
  obtain ⟨a, b, c, d⟩ := m
  revert a b c d
  decide

theorem set_ne_clear (m : Markers) (k : Marker) : m.set k ≠ Markers.clear := by
  rw [← markers_any]
  cases k <;> simp [Markers.set, Markers.any]

section
variable (bits : List (Bool × Marker))

/-- A marker once set stays set. -/
theorem foldl_setIf_ne_clear {m : Markers} (h : m ≠ Markers.clear) : bits.foldl Markers.setIf m ≠ Markers.clear := by
  induction bits generalizing m with
  | nil => exact h
  | cons b rest ih =>
    obtain ⟨b, k⟩ := b
    refine ih ?_
    cases b with
    | false => rwa [setIf_false]
    | true =>
      rw [setIf_true]
      exact set_ne_clear m k

theorem foldl_setIf_unset (m : Markers) (off : bits.find? (fun b => b.1) = none) : bits.foldl Markers.setIf m = m := by
  induction bits with
  | nil => rfl
  | cons b rest ih =>
    obtain ⟨b, k⟩ := b
    cases b with
    | false =>
      rw [List.foldl_cons, setIf_false]
      exact ih off
    | true => exact absurd off (by simp)

theorem markAll_snoc (b : Bool × Marker) : markAll (bits ++ [b]) e
    = { markAll bits e with markers := (markAll bits e).markers.setIf b } := by
  simp only [markAll, List.foldl_append, List.foldl_cons, List.foldl_nil]

/-- Once a marker is set no further one raises PEER_CHANGE. -/
theorem firstMark_snoc (b : Bool × Marker) :
    firstMark p e bits ++ firstMark p (markAll bits e) [b] = firstMark p e (bits ++ [b]) := by
  by_cases clear : e.markers = Markers.clear
  · rw [firstMark, if_pos clear, firstMark, firstMark, if_pos clear, List.find?_append]
    cases first : bits.find? (fun b => b.1) with
    | none =>
      have stands : (markAll bits e).markers = e.markers := foldl_setIf_unset bits e.markers first
      rw [if_pos (stands.trans clear)]
      rfl
    | some x =>
      have set : (markAll bits e).markers ≠ Markers.clear := by
        obtain ⟨on, before, after, rfl, -⟩ := List.find?_eq_some_iff_append.mp first
        obtain ⟨c, k⟩ := x
        have on : c = true := by simpa using on
        simp only [markAll, List.foldl_append, List.foldl_cons, on, setIf_true]
        exact foldl_setIf_ne_clear after (set_ne_clear _ _)
      rw [if_neg set]
      rfl
  · have silent : (markAll bits e).markers ≠ Markers.clear := foldl_setIf_ne_clear bits clear
    rw [firstMark, if_neg clear, firstMark, if_neg silent, firstMark, if_neg clear]
    rfl

/-- The markers of a list by the bytes that name them. -/
theorem firstMark_bytes : firstMark p e bits =
    match (bits.map fun b => (b.1, markByte b.2)).find? (fun b => b.1) with
    | some b => if e.markers = Markers.clear then [info .peerChange [byteOf p.val, b.2]] else []
    | none => [] := by
  have named : (bits.map fun b => (b.1, markByte b.2)).find? (fun b => b.1)
      = (bits.find? fun b => b.1).map fun b => (b.1, markByte b.2) := List.find?_map
  rw [named, firstMark]
  cases bits.find? (fun b => b.1) <;> simp

theorem firstMark_single (c : Prop) [Decidable c] (k : Marker) : firstMark p e [(decide c, k)]
    = if e.markers = Markers.clear ∧ c then [info .peerChange [byteOf p.val, markByte k]] else [] := by
  by_cases clear : e.markers = Markers.clear <;> by_cases holds : c <;> simp [firstMark, clear, holds]

/-- The part after the entry of `p` has become `e` with the markers of `bits` set in their order. -/
def marks (p : Station) (e : Peer) (bits : List (Bool × Marker)) (s : State) : State :=
  told (firstMark p e bits) (withEntry p (markAll bits e) s)

theorem marks_nil (events : s.hpi.events.length ≤ 32) : marks p e [] s = withEntry p e s := by
  have none_ : firstMark p e [] = [] := by unfold firstMark; split <;> rfl
  rw [marks, none_]
  exact told_nil events

theorem EntryOf.inMarks (h : EntryOf p e₀ s) (station : e.station = p) :
    EntryOf p (markAll bits e) (marks p e bits s) :=
  (h.replaced (e := markAll bits e) (station)).behind

theorem markPeer_marks (h : EntryOf p e₀ s) (station : e.station = p) (k : Marker) :
    markPeer p k (marks p e bits s) = marks p e (bits ++ [(true, k)]) s := by
  have there : (markAll bits e).station = p := station
  have shown : specOf .peerChange (stationByte p ++ u8 (Markers.clear.set k).byte)
      = info .peerChange [byteOf p.val, markByte k] := by cases k <;> rfl
  rw [markPeer, (h.inMarks bits station).find]
  dsimp only
  rw [marks, h.updateAgain there, raise_told, shown, marks, ← firstMark_snoc, markAll_snoc, setIf_true]
  by_cases clear : (markAll bits e).markers = Markers.clear
  · rw [if_neg fun h => (markers_any _).mp h clear]
    simp [firstMark, clear]
  · rw [if_pos ((markers_any _).mpr clear)]
    simp [firstMark, clear]

/-- A marker set where a condition holds. -/
theorem markIf_marks {c : Prop} [Decidable c] (h : EntryOf p e₀ s) (station : e.station = p) (k : Marker) :
    (if c then markPeer p k (marks p e bits s) else marks p e bits s) = marks p e (bits ++ [(decide c, k)]) s := by
  by_cases holds : c
  · rw [if_pos holds, decide_eq_true holds, markPeer_marks bits h station]
  · have silent : firstMark p (markAll bits e) [(false, k)] = [] := by unfold firstMark; split <;> rfl
    rw [if_neg holds, decide_eq_false holds, marks, marks, markAll_snoc, setIf_false, ← firstMark_snoc, silent,
      List.append_nil]

/-! ## The claim record (R25, R26) -/

/-- The claim record of an entry: its CLAIM marker follows a change. -/
theorem setPeerClaim_marks (h : EntryOf p e₀ s) (station : e.station = p) (c : Option ShownClaim) (t : Option Ticks) :
    setPeerClaim p c t (marks p e bits s)
      = marks p { e with claim := c, claimTimer := t } (bits ++ [(decide (e.claim ≠ c), .claim)]) s := by
  have there : (markAll bits e).station = p := station
  have put : updatePeer p (fun e => { e with claim := c, claimTimer := t }) (marks p e bits s)
      = marks p { e with claim := c, claimTimer := t } bits s := by
    exact h.updateAgain (e := markAll bits e) station _
  rw [setPeerClaim, (h.inMarks bits station).find]
  dsimp only
  have marked := markIf_marks bits (c := ¬ e.claim = c) (e := { e with claim := c, claimTimer := t }) h station .claim
  rw [ite_not] at marked
  rw [put]
  exact marked

end

/-- The claim record of an entry as it stands. -/
theorem setPeerClaim_eq (h : EntryOf p e s) (c : Option ShownClaim) (t : Option Ticks)
    (events : s.hpi.events.length ≤ 32) : setPeerClaim p c t s
      = marks p { e with claim := c, claimTimer := t } [(decide (e.claim ≠ c), .claim)] s := by
  have put := setPeerClaim_marks [] h h.station c t
  rwa [marks_nil events, h.stands] at put

end Sys2Proof.Machine
end

section
/-! The re-evaluation of the own claim behind events, where it finds the TEST claim of a run under way failing (R122,
R125, R126, R138). -/

namespace Sys2Proof.Machine

variable {s t u : State} {l : List EventSpec} {c : Claim} {r : Reason}

/-- The part after the run that held the claim `c` has ended with its loss: the claim released, the STATUS queued. -/
def claimLost (c : Claim) (r : Reason) (u : State) : State :=
  (runReleasing c u).modTsq fun t =>
    { t with state := .ended, run := RunRec.blank, result := some (resultOf (lossCause r) u) }

theorem endRun_claimLost (lva : u.lva = some c) (test : c.kind = .test) (sends : Sends u)
    (room : u.link.coord.length < 8) :
    endRun (lossCause r) (told l u) = told (l ++ [runTold (lossCause r) u]) (claimLost c r u) := by
  rw [endRun_releases (s := told l u) (fun _ _ => verdictOf_lossCause _ _ _) lva test sends room told_events_le]
  exact told_told' l (claimLost c r u) _

/-- Where the TEST claim fails, `settle` ends its run, and beside that changes the last-known floor mode alone. -/
theorem settle_lost (online : OnLine u) (room : u.link.coord.length < 8) (fails : TestClaimFails c r u) :
    ∃ m n, settle (told l u) = told (l ++ lossTold c r u)
      ((claimLost c r (u.modTrc fun t => { t with lastKnown := m })).modTrc fun t => { t with lastKnown := n }) := by
  obtain ⟨running, active, free⟩ := online
  have sends : Sends u := ⟨running, by rw [active]; decide, free⟩
  have view : SameView u (told l u) := ⟨rfl, rfl, rfl, rfl, rfl, rfl, rfl⟩
  obtain ⟨lva, test, granted, loose, underway, check⟩ := fails
  obtain ⟨m, settled⟩ := settle_of_testClaimFails (s := told l u) running
    ⟨lva, test, granted, loose, underway, (view.keepCheck c.time).trans check⟩
  have kind : specOf .claimLost (u8 c.kind.code ++ [r.byte])
      = notice .claimLost [kindOfClaim c.kind, byteOf r.code] := by
    cases c.kind <;> rfl
  rw [told_modTrc, raise_told, kind, endRun_claimLost (by exact lva) test (by exact sends) (by exact room),
    List.append_assoc] at settled
  rw [noteFloorMode, if_pos (by exact running), told_modTrc] at settled
  exact ⟨m, _, settled⟩

/-- What `RunLost` says of the part after the loss, which stood as in `s` but for its link, its view and its clock. -/
theorem runLost_of (test : c.kind = .test) (granted : c.granted = true)
    (underway : u.tsq.state.underway = true) (tsq : u.tsq = s.tsq) (clu : u.clu = s.clu)
    (link : t.link = (claimLost c r u).link) (tsqLost : t.tsq = (claimLost c r u).tsq) (lvaLost : t.lva = none)
    (cluLost : t.clu = { (claimLost c r u).clu with horn := t.clu.horn, hornTimer := t.clu.hornTimer })
    (pvu : t.pvu = u.pvu) (mode : t.trc.ownMode = u.trc.ownMode) (vsm : t.vsm = u.vsm) :
    RunLost c r u.link s t := by
  have inProgress : s.tsq.state.inProgress = true := by
    rw [← tsq]
    cases state : u.tsq.state <;> simp_all [RunState.underway, RunState.inProgress]
  have result : resultOf (lossCause r) u = resultOf (lossCause r) s := by
    unfold resultOf
    rw [tsq]
  have released : claimReleased c u.link
      = { u.link with coord := u.link.coord ++ [queued (.release .test c.time)] } := by
    rw [claimReleased, granted, Bool.true_or, if_pos rfl, test]
  refine ⟨⟨?_, ?_⟩, ?_, ?_, ?_⟩
  · rw [tsqLost, inProgress, if_pos rfl, ← tsq, ← result]
    rfl
  · rw [inProgress, if_pos rfl, lvaLost]
  · have left : (claimLost c r u).link
        = { claimReleased c u.link with status := (claimLost c r u).link.status } := rfl
    rw [link, left, released]
  · have present : isolatedFlag t = isolatedFlag u := by rw [isolatedFlag, vsm]; rfl
    exact statusQueued_of (u := ((u.modClu fun k => { k with testWd := false }).modLink (claimReleased c)).setLva none)
      (by rw [link]; rfl) pvu mode present lvaLost
  · rw [cluLost, ← clu]
    rfl

end Sys2Proof.Machine
end

section
/-! A heard STATUS: the entry it fills, the markers it sets, and the own claim evaluated again on the view with that
entry (R20, R22, R25, R26, R34, R108, R122). -/

namespace Sys2Proof.Machine

variable {p : Station} {e : Peer} {m : StatusMsg} {start : FloorTime} {s u : State} {l : List EventSpec}

/-! ## The entry after a STATUS -/

theorem onStatus_eq_present : e.presence.onStatus = .present ↔ e.presence ≠ .absent := by
  cases e.presence <;> simp [Presence.onStatus]

/-- The claim record after a STATUS: an entry that it takes to JOINING keeps what it holds (R25). -/
def statusClaim (e : Peer) (m : StatusMsg) : Option ShownClaim :=
  if e.presence.onStatus = .present then claimAfter e.claim m.claim else e.claim

def statusClaimTimer (e : Peer) (m : StatusMsg) : Option Ticks :=
  if e.presence.onStatus = .present then claimTimerAfter e.claim (statusClaim e m) e.claimTimer else e.claimTimer

/-- The mode or the isolated flag of a known station has changed. -/
def modeMoved (e : Peer) (m : StatusMsg) : Bool :=
  decide (e.presence ≠ .absent) &&
    (decide (m.report.mode ≠ e.report.mode) || decide (m.report.isolated ≠ e.report.isolated))

/-- The weak flag of a known station has changed. -/
def healthMoved (e : Peer) (m : StatusMsg) : Bool :=
  decide (e.presence ≠ .absent) && decide (m.report.weak ≠ e.report.weak)

/-- The markers that a STATUS sets before CLAIM, in the order in which they are set. -/
def seenMarks (e : Peer) (m : StatusMsg) : List (Bool × Marker) :=
  [(decide (e.presence = .joining ∨ e.presence = .stale), .presence), (modeMoved e m, .mode),
   (healthMoved e m, .health)]

def statusMarks (e : Peer) (m : StatusMsg) : List (Bool × Marker) :=
  seenMarks e m ++ [(decide (e.claim ≠ statusClaim e m), .claim)]

/-- The entry that a STATUS leaves, its markers apart. -/
def statusEntry (m : StatusMsg) (start : FloorTime) (delay : Nat) (e : Peer) : Peer :=
  { writeEntry m start delay e with claim := statusClaim e m, claimTimer := statusClaimTimer e m }

theorem markStatus_marks {e₁ : Peer} (bits : List (Bool × Marker)) (h : EntryOf p e s) (station : e₁.station = p) :
    markStatus e m (marks p e₁ bits s)
      = marks p e₁ (bits ++ [(modeMoved e m, .mode)] ++ [(healthMoved e m, .health)]) s := by
  have mode := markIf_marks bits (c := modeMoved e m = true) h station .mode
  have health := markIf_marks (bits ++ [(modeMoved e m, .mode)]) (c := healthMoved e m = true) h station .health
  rw [Bool.decide_eq_true] at mode health
  rw [← health, ← mode, ← h.station]
  rfl

/-- Steps 1 to 3 of R22 with the markers that they set. -/
theorem seen_eq (h : EntryOf p e s) (events : s.hpi.events.length ≤ 32) :
    (let written := updatePeer p (writeEntry m start s.hpi.floor.linkDelay) s
     markStatus e m (if e.presence = .joining ∨ e.presence = .stale then markPeer p .presence written else written))
      = marks p (writeEntry m start s.hpi.floor.linkDelay e) (seenMarks e m) s := by
  dsimp only
  rw [h.update, ← marks_nil (by exact events), markIf_marks [] h (by exact h.station)]
  exact markStatus_marks _ h h.station

theorem applyStatus_eq (h : EntryOf p e s) (events : s.hpi.events.length ≤ 32) : applyStatus e m start s
    = marks p (statusEntry m start s.hpi.floor.linkDelay e) (statusMarks e m) s := by
  have seen := seen_eq (m := m) (start := start) h events
  rw [← h.station] at seen
  rw [applyStatus]
  dsimp only at seen ⊢
  rw [seen, h.station]
  by_cases known : e.presence.onStatus = .present
  · have claim : claimAfter e.claim m.claim = statusClaim e m := (if_pos known).symm
    have timer : claimTimerAfter e.claim (statusClaim e m) e.claimTimer = statusClaimTimer e m := (if_pos known).symm
    rw [if_pos known, claim, timer]
    exact setPeerClaim_marks _ h (by exact h.station) _ _
  · have claim : statusClaim e m = e.claim := if_neg known
    have timer : statusClaimTimer e m = e.claimTimer := if_neg known
    have unmarked := markIf_marks (c := e.claim ≠ statusClaim e m) (seenMarks e m) h
      (e := writeEntry m start s.hpi.floor.linkDelay e) h.station .claim
    rw [if_neg (by rw [claim]; exact not_not.mpr rfl)] at unmarked
    rw [if_neg known, unmarked, statusEntry, statusMarks, claim, timer]
    rfl

/-! ## The claim record, as R25 puts it -/

/-- The record held and the claim shown have one kind and one claim time. -/
def sameClaim (held shown : Option ShownClaim) : Bool :=
  match held, shown with
  | some h, some c => decide (h.kind = c.kind ∧ h.time = c.time)
  | _, _ => false

theorem claimAfter_eq (held shown : Option ShownClaim) : claimAfter held shown = match shown with
    | none => none
    | some c => if c.granted then some c else if sameClaim held shown then held else none := by
  cases shown with
  | none => rfl
  | some c =>
    cases held with
    | none => rfl
    | some h =>
      simp only [claimAfter, sameClaim, decide_eq_true_eq]

/-- The claim timer runs on exactly where a PENDING record is kept. -/
theorem claimTimerAfter_eq (held shown : Option ShownClaim) (timer : Option Ticks) :
    claimTimerAfter held (claimAfter held shown) timer =
      if sameClaim held shown && decide (claimAfter held shown = held)
        && decide ((claimAfter held shown).map (·.granted) = some false) then timer else none := by
  by_cases same : sameClaim held shown = true
  · cases after : claimAfter held shown with
    | none => simp [claimTimerAfter]
    | some c => cases granted : c.granted <;> simp [claimTimerAfter, granted, same, eq_comm]
  · rw [Bool.eq_false_iff.mpr same, Bool.false_and, Bool.false_and, if_neg Bool.false_ne_true]
    cases shown with
    | none => rfl
    | some c => cases granted : c.granted <;> simp [claimAfter_eq, claimTimerAfter, granted, same]

/-! ## The entry, as R20 to R26 and R34 put it -/

/-- The station was known before the STATUS: its entry was not ABSENT. -/
def known (e : Peer) : Bool := decide (e.presence ≠ .absent)

theorem onStatus_eq (e : Peer) : e.presence.onStatus = if known e then .present else .joining := by
  unfold known
  cases e.presence <;> rfl

theorem onStatus_iff_known (e : Peer) : (e.presence.onStatus = .present) = (known e = true) :=
  propext (onStatus_eq_present.trans decide_eq_true_iff.symm)

theorem writeEntry_eq (delay : Nat) : writeEntry m start delay e =
    (let offset := if known e = true ∧ m.seq = e.seq + 1#8 then
         m.prevStart.map fun sent => sent + BitVec.ofNat 32 delay - e.rxStart
       else none
     { e with
       presence := if known e then .present else .joining
       seq := m.seq, rxStart := start, offset := offset, fresh := if offset = none then 0 else 2
       report := m.report, presTimer := some 3500, staleTimer := none }) := by
  have captured : capturedOffset e m delay = if known e = true ∧ m.seq = e.seq + 1#8 then
      m.prevStart.map fun sent => sent + BitVec.ofNat 32 delay - e.rxStart else none := by
    simp only [capturedOffset, known, decide_eq_true_eq]
    rfl
  simp only [writeEntry, onStatus_eq, captured]
  generalize (if known e = true ∧ m.seq = e.seq + 1#8 then
      m.prevStart.map fun sent => sent + BitVec.ofNat 32 delay - e.rxStart else none) = offset
  cases offset <;> rfl

theorem statusClaim_eq (e : Peer) (m : StatusMsg) : statusClaim e m = if known e then
      match m.claim with
      | none => none
      | some c => if c.granted then some c else if sameClaim e.claim m.claim then e.claim else none
    else e.claim := by
  simp only [statusClaim, claimAfter_eq, onStatus_iff_known]

theorem statusClaimTimer_eq (e : Peer) (m : StatusMsg) : statusClaimTimer e m = if known e then
      (if known e && sameClaim e.claim m.claim && decide (statusClaim e m = e.claim)
        && decide ((statusClaim e m).map (·.granted) = some false) then e.claimTimer else none)
    else e.claimTimer := by
  by_cases old : known e = true
  · have after : statusClaim e m = claimAfter e.claim m.claim := if_pos (onStatus_iff_known e ▸ old)
    rw [if_pos old, old, Bool.true_and, after, ← claimTimerAfter_eq, ← after]
    exact if_pos (onStatus_iff_known e ▸ old)
  · rw [if_neg old]
    exact if_neg (onStatus_iff_known e ▸ old)

theorem modeMoved_eq (e : Peer) (m : StatusMsg) : modeMoved e m
    = (known e && decide (m.report.mode ≠ e.report.mode ∨ m.report.isolated ≠ e.report.isolated)) := by
  rw [Bool.decide_or]
  rfl

theorem statusMarks_eq (e : Peer) (m : StatusMsg) : statusMarks e m =
    [(decide (e.presence = .joining ∨ e.presence = .stale), .presence),
     (known e && decide (m.report.mode ≠ e.report.mode ∨ m.report.isolated ≠ e.report.isolated), .mode),
     (known e && decide (m.report.weak ≠ e.report.weak), .health), (decide (statusClaim e m ≠ e.claim), .claim)] := by
  rw [← modeMoved_eq, decide_eq_decide.mpr (ne_comm (a := statusClaim e m))]
  rfl

/-! ## The row -/

theorem heard_status {frame : List Byte} (accepted : parseFloorFrame frame = .accepted p (.status m))
    (other : p ≠ s.link.station) (rx : s.link.rx = some start) : heard frame s = some (p, .status m) := by
  have own : ¬ p = s.own := other
  have taken : acceptedMessage frame s = some (p, .status m) := by rw [acceptedMessage, rx, accepted]
  rw [heard, taken]
  dsimp only
  rw [if_neg own, if_neg fun h => h.2 rfl]

/-- A STATUS that counts toward no split sets the sender's count to 0, while RUNNING (R108). -/
theorem split_settled {known : Bool} {trc : Trc} (unsplit : splitShown m u = false) (kept : ClaimKept u)
    (before : TrcIs trc u) :
    ∃ trc', (if u.hpi.running && known then settle (countSplit p m (told l u)) else told l u)
        = told l (u.modTrc fun _ => trc')
      ∧ TrcIs (if u.hpi.running && known then { trc with splits := trc.splits.set p.val 0 } else trc)
        (told l (u.modTrc fun _ => trc')) := by
  by_cases counts : (u.hpi.running && known) = true
  · have off : splitShown m (told l u) = false := unsplit
    have zero : countSplit p m (told l u) = told l (setSplit p 0 u) := by
      rw [countSplit, off, if_neg Bool.false_ne_true]
      rfl
    have view : SameView u (setSplit p 0 u) := ⟨rfl, rfl, rfl, rfl, rfl, rfl, rfl⟩
    obtain ⟨k, settled⟩ := settle_told (l := l) (view.claimKept rfl kept)
    rw [if_pos counts, if_pos counts, zero, settled]
    refine ⟨{ u.trc with splits := u.trc.splits.set p.val 0, lastKnown := k }, rfl, ?_⟩
    unfold TrcIs at before ⊢
    rw [before]
    rfl
  · rw [if_neg counts, if_neg counts]
    exact ⟨u.trc, rfl, before⟩

/-- The part with the entry that a STATUS leaves, before the own claim is evaluated again. -/
def statusFilled (p : Station) (m : StatusMsg) (start : FloorTime) (e : Peer) (s : State) : State :=
  withEntry p (markAll (statusMarks e m) (statusEntry m start s.hpi.floor.linkDelay e)) (endReception s)

def statusTold (p : Station) (m : StatusMsg) (e : Peer) : List EventSpec := firstMark p e (statusMarks e m)

theorem exec_statusReceived {frame : List Byte} (inv : Inv s)
    (accepted : parseFloorFrame frame = .accepted p (.status m)) (other : p ≠ s.link.station)
    (rx : s.link.rx = some start) (mem : e ∈ s.peers) (station : e.station = p) :
    exec (.statusReceived frame) s = .next
      (let t := settle (told (statusTold p m e) (statusFilled p m start e s))
       if s.hpi.running && decide (e.presence ≠ .absent) then settle (countSplit p m t) else t) := by
  have entry : EntryOf p e (endReception s) := (entryOf_inv inv mem station).of_peers rfl
  have applied := applyStatus_eq (m := m) (start := start) entry inv.events
  show Host.Outcome.next (statusReceived frame s) = _
  simp only [statusReceived, rx, heard_status accepted other rx, takeStatus, entry.find, applied,
    onStatus_eq_present]
  rfl

/-- Settles O32. -/
theorem statusFillsEntry : Obligations.StatusFillsEntry := by
  intro p m frame start e s inv accepted other rx mem station unsplit old offset kept claim pendingKept presenceMark
    modeMark healthMark claimMark bits e₁ view heard changed filled
  have runs := exec_statusReceived inv accepted other rx mem station
  have claimed : statusClaim e m = claim := statusClaim_eq e m
  have timed : statusClaimTimer e m = e₁.claimTimer := by
    rw [statusClaimTimer_eq, claimed]
    rfl
  have entry : markAll (statusMarks e m) (statusEntry m start s.hpi.floor.linkDelay e) = e₁ := by
    rw [statusMarks_eq, statusEntry, writeEntry_eq, claimed, timed]
    rfl
  have events : statusTold p m e = changed := by
    rw [statusTold, firstMark_bytes, statusMarks_eq, claimed]
    rfl
  have unshown : splitShown m s = false :=
    Bool.eq_false_iff.mpr fun h => unsplit (by simpa [splitShown, and_assoc] using h)
  have left : statusFilled p m start e s = { view with link := heard } := by
    rw [statusFilled, entry]
    rfl
  rw [events, left] at runs
  have same : SameView view { view with link := heard } := ⟨rfl, rfl, rfl, rfl, rfl, rfl, rfl⟩
  constructor
  · intro keeps
    have keeps := same.claimKept rfl keeps
    obtain ⟨k, settled⟩ := settle_told (l := changed) keeps
    obtain ⟨trc, ended, trcIs⟩ := split_settled (l := changed) (known := old) (m := m) (p := p) (trc := s.trc)
      (u := State.modTrc (fun t => { t with lastKnown := k }) { view with link := heard }) unshown
      (SameView.claimKept (s := { view with link := heard }) ⟨rfl, rfl, rfl, rfl, rfl, rfl, rfl⟩ rfl keeps) rfl
    rw [settled] at runs
    exact ⟨_, runs.trans (congrArg Host.Outcome.next ended), ⟨rfl, portKept_told rfl, trcIs⟩,
      raised_told _ ⟨rfl, rfl, rfl, rfl, rfl, rfl, rfl, rfl⟩, rfl, linesKept_told rfl, sameBut_of_eq⟩
  · intro c r online room fails
    obtain ⟨lva, test, granted, loose, underway, check⟩ := fails
    obtain ⟨k, n, settled⟩ := settle_lost (l := changed) (u := { view with link := heard }) online room
      ⟨lva, test, granted, loose, underway, (same.keepCheck c.time).trans check⟩
    obtain ⟨trc, ended, trcIs⟩ := split_settled (l := changed ++ lossTold c r { view with link := heard })
      (known := old) (m := m) (p := p) (trc := s.trc)
      (u := (claimLost c r (State.modTrc (fun t => { t with lastKnown := k }) { view with link := heard })).modTrc
        fun t => { t with lastKnown := n }) unshown (claimKept_none rfl) rfl
    rw [settled] at runs
    have mode : trc.ownMode = s.trc.ownMode := by
      refine (congrArg Trc.ownMode trcIs).trans ?_
      dsimp only
      split <;> rfl
    exact ⟨_, runs.trans (congrArg Host.Outcome.next ended), ⟨rfl, portKept_told rfl, trcIs⟩,
      raised_told _ ⟨rfl, rfl, rfl, rfl, rfl, rfl, rfl, rfl⟩,
      runLost_of (u := State.modTrc (fun t => { t with lastKnown := k }) { view with link := heard }) test granted
        underway rfl rfl rfl rfl rfl rfl rfl mode rfl, sameBut_of_eq⟩

end Sys2Proof.Machine
end

section
/-! The timers of an entry, and the claims heard from other stations (R21, R24, R25, R94, R117, R127). -/

namespace Sys2Proof.Machine

variable {p : Station} {e : Peer} {s u : State} {l : List EventSpec} {id : PropId} {dir : Direction} {r : ProposalRec}

/-! ## A member that leaves the consent set (R94) -/

/-- Every member has consented: the window stops and the ORDER is queued. -/
theorem checkConsents_done (act : s.trc.activity = .proposed id dir) (prop : s.trc.proposal = some r)
    (phase : r.phase = some .window) (done : ∀ q ∈ r.consentSet, q ∈ r.consents) (live : s.link.state ≠ .listen)
    (room : s.link.coord.length < 8) :
    checkConsents s = (s.modTrc fun t => { t with
      proposal := some { r with phase := some .ordering, window := none } }).modLink fun l =>
        { l with coord := l.coord ++ [queued (.order id)] } := by
  have all : (r.consentSet.all fun q => r.consents.contains q) = true :=
    List.all_eq_true.mpr fun q hq => List.contains_iff_mem.mpr (done q hq)
  simp only [checkConsents, act, prop, phase, all, and_self, if_true, queueOrder, modProposal_some _ prop]
  rw [queueCoord_room (s := State.modTrc _ s) live room]

/-- With a consent missing, or no own proposal, nothing is ordered. -/
theorem checkConsents_waits (prop : s.trc.proposal = some r)
    (waits : ∀ id dir, s.trc.activity = .proposed id dir → ∃ q ∈ r.consentSet, q ∉ r.consents) :
    checkConsents s = s := by
  unfold checkConsents
  split
  · rename_i id dir r' act prop'
    obtain ⟨q, member, missing⟩ := waits _ _ act
    obtain rfl : r' = r := Option.some.inj (prop'.symm.trans prop)
    refine if_neg fun h => missing ?_
    exact List.contains_iff_mem.mp (List.all_eq_true.mp h.2 q member)
  · rfl

/-- The proposal without `p` in its consent set. -/
def without (p : Station) (r : ProposalRec) : ProposalRec :=
  { r with consentSet := r.consentSet.filter fun q => decide (q ≠ p) }

theorem mem_without {q : Station} : q ∈ (without p r).consentSet ↔ q ∈ r.consentSet ∧ q ≠ p := by
  simp [without]

theorem excuseMember_window (prop : u.trc.proposal = some r) (phase : r.phase = some .window) :
    excuseMember p u = checkConsents (u.modTrc fun t => { t with proposal := some (without p r) }) := by
  rw [excuseMember, prop]
  dsimp only
  rw [if_pos phase, modProposal_some _ prop]
  rfl

theorem excuseMember_closed (closed : ∀ r, u.trc.proposal = some r → r.phase ≠ some .window) :
    excuseMember p u = u := by
  unfold excuseMember
  split
  · exact if_neg (closed _ ‹_›)
  · rfl

/-- What the excuse of a member leaves of the link and the transfer coordinator. -/
structure Excused (p : Station) (u : State) (link : Link) (trc : Trc) : Prop where
  station : link.station = u.link.station
  mode    : trc.ownMode = u.trc.ownMode
  closed  : (∀ r, u.trc.proposal = some r → r.phase ≠ some .window) → trc = u.trc ∧ link = u.link
  orders  : ∀ id dir r, u.trc.activity = .proposed id dir → u.trc.proposal = some r → r.phase = some .window →
    (∀ q ∈ r.consentSet, q = p ∨ q ∈ r.consents) →
    trc = { u.trc with proposal := some { without p r with phase := some .ordering, window := none } }
      ∧ link = { u.link with coord := u.link.coord ++ [queued (.order id)] }
  waits   : ∀ id dir r, u.trc.activity = .proposed id dir → u.trc.proposal = some r → r.phase = some .window →
    (∃ q ∈ r.consentSet, q ≠ p ∧ q ∉ r.consents) →
    trc = { u.trc with proposal := some (without p r) } ∧ link = u.link

theorem excuseMember_told (may : (∀ r, u.trc.proposal = some r → r.phase ≠ some .window)
      ∨ u.link.state ≠ .listen ∧ u.link.coord.length < 8) :
    ∃ link trc, excuseMember p (told l u) = told l { u with link := link, trc := trc } ∧ Excused p u link trc := by
  by_cases closed : ∀ r, u.trc.proposal = some r → r.phase ≠ some .window
  · refine ⟨u.link, u.trc, excuseMember_closed (u := told l u) closed, rfl, rfl, fun _ => ⟨rfl, rfl⟩, ?_, ?_⟩
    · intro id dir r _ prop phase
      exact absurd phase (closed r prop)
    · intro id dir r _ prop phase
      exact absurd phase (closed r prop)
  · obtain ⟨live, room⟩ := may.resolve_left closed
    push Not at closed
    obtain ⟨r, prop, phase⟩ := closed
    have excused : excuseMember p (told l u)
        = checkConsents (told l (u.modTrc fun t => { t with proposal := some (without p r) })) :=
      excuseMember_window (u := told l u) prop phase
    by_cases done : ∃ id dir, u.trc.activity = .proposed id dir ∧ ∀ q ∈ r.consentSet, q = p ∨ q ∈ r.consents
    · obtain ⟨id, dir, act, done⟩ := done
      have all : ∀ q ∈ (without p r).consentSet, q ∈ r.consents := fun q hq =>
        (done q (mem_without.mp hq).1).resolve_left (mem_without.mp hq).2
      rw [checkConsents_done (s := told l (u.modTrc fun t => { t with proposal := some (without p r) })) act rfl phase
        all live room] at excused
      refine ⟨{ u.link with coord := u.link.coord ++ [queued (.order id)] },
        { u.trc with proposal := some { without p r with phase := some .ordering, window := none } }, excused, rfl, rfl,
        fun h => absurd phase (h r prop), ?_, ?_⟩
      · intro id' dir' r' act' prop' _ _
        cases act.symm.trans act'
        cases prop.symm.trans prop'
        exact ⟨rfl, rfl⟩
      · rintro id' dir' r' - prop' - ⟨q, member, other, missing⟩
        cases prop.symm.trans prop'
        exact absurd (done q member) (by simp [other, missing])
    · rw [checkConsents_waits (s := told l (u.modTrc fun t => { t with proposal := some (without p r) })) rfl
        ?_] at excused
      · refine ⟨u.link, { u.trc with proposal := some (without p r) }, excused, rfl, rfl,
          fun h => absurd phase (h r prop), ?_, ?_⟩
        · intro id' dir' r' act' prop' _ done'
          cases prop.symm.trans prop'
          exact absurd ⟨id', dir', act', done'⟩ done
        · intro id' dir' r' _ prop' _ _
          cases prop.symm.trans prop'
          exact ⟨rfl, rfl⟩
      · intro id' dir' act'
        have missing : ¬ ∀ q ∈ r.consentSet, q = p ∨ q ∈ r.consents := fun h => done ⟨id', dir', act', h⟩
        push Not at missing
        obtain ⟨q, member, other, silent⟩ := missing
        exact ⟨q, mem_without.mpr ⟨member, other⟩, silent⟩

/-! ## The timers of an entry (R21, R25) -/

/-- A PRESENT entry as it enters STALE, its markers apart. -/
def staleEntry (e : Peer) : Peer :=
  { e with presence := .stale, presTimer := none, staleTimer := some staleTerm, claim := none, claimTimer := none }

/-- The markers set by the entry to STALE: PRESENCE, and CLAIM where a record is removed. -/
def staleMarks (e : Peer) : List (Bool × Marker) := [(true, .presence), (decide (e.claim ≠ none), .claim)]

theorem goStale_eq (h : EntryOf p e s) (events : s.hpi.events.length ≤ 32) :
    goStale p s = settle (excuseMember p (setSplit p 0 (marks p (staleEntry e) (staleMarks e) s))) := by
  have entered := marks_nil (p := p) (e := { e with
    presence := .stale, presTimer := none, staleTimer := some staleTerm }) (by exact events)
  have marked := markPeer_marks [] h (e := { e with
    presence := .stale, presTimer := none, staleTimer := some staleTerm }) h.station .presence
  have cleared := setPeerClaim_marks [(true, .presence)] h (e := { e with
    presence := .stale, presTimer := none, staleTimer := some staleTerm }) h.station none none
  rw [goStale, h.update, ← entered, marked]
  exact congrArg (fun t => settle (excuseMember p (setSplit p 0 t))) cleared

theorem presenceTimerExpiry_of_due (h : EntryOf p e s) (ended : e.presTimer = some 0) :
    presenceTimerExpiry p s = match e.presence with
      | .joining => clearEntry p s
      | .present => goStale p s
      | .absent => s
      | .stale => s := by
  rw [presenceTimerExpiry, h.find]
  exact if_pos (decide_eq_true ended)

/-- Settles O34. -/
theorem entryTimersClear : Obligations.EntryTimersClear := by
  refine ⟨fun p e s inv mem station => ?_, fun p e s inv mem station => ?_⟩
  · have entry := entryOf_inv inv mem station
    refine ⟨fun runs => ?_, fun ended joining => ?_, fun ended present may => ?_⟩
    · show Host.Outcome.next (presenceTimerExpiry p s) = _
      rw [presenceTimerExpiry, entry.find]
      exact congrArg Host.Outcome.next (if_neg fun ended => runs (of_decide_eq_true ended))
    · show Host.Outcome.next (presenceTimerExpiry p s) = _
      rw [presenceTimerExpiry_of_due entry ended, joining]
      rfl
    · intro e₁ after keeps
      have stale : markAll (staleMarks e) (staleEntry e) = e₁ := by
        simp only [markAll, staleMarks, staleEntry, List.foldl_cons, List.foldl_nil, Markers.setIf, Bool.or_true, e₁]
        rfl
      have told_ : firstMark p (staleEntry e) (staleMarks e)
          = if e.markers = Markers.clear then [info .peerChange [byteOf p.val, 1#8]] else [] := rfl
      have runs : exec (.presenceTimerExpiry p) s = .next (settle (excuseMember p
          (told (firstMark p (staleEntry e) (staleMarks e)) (setSplit p 0 { s with peers := after })))) := by
        show Host.Outcome.next (presenceTimerExpiry p s) = _
        rw [presenceTimerExpiry_of_due entry ended, present, goStale_eq entry inv.events, marks, stale]
        rfl
      obtain ⟨link, trc, excused, left⟩ := excuseMember_told (p := p) (u := setSplit p 0 { s with peers := after })
        (l := firstMark p (staleEntry e) (staleMarks e)) may
      rw [excused] at runs
      obtain ⟨m, runs⟩ := runs_settled_told runs (SameView.claimKept (s := { s with peers := after })
        ⟨left.station, left.mode, rfl, rfl, rfl, rfl, rfl⟩ rfl keeps)
      refine ⟨_, runs, rfl, raised_told _ ⟨rfl, rfl, rfl, rfl, rfl, rfl, rfl, rfl⟩, portKept_told rfl,
        linesKept_told rfl, sameBut_of_eq, fun closed => ?_, fun id dir r act prop phase all => ?_,
        fun id dir r act prop phase missing => ?_⟩
      · obtain ⟨rfl, rfl⟩ := left.closed closed
        exact ⟨rfl, rfl⟩
      · obtain ⟨rfl, rfl⟩ := left.orders id dir r act prop phase all
        exact ⟨rfl, rfl⟩
      · obtain ⟨rfl, rfl⟩ := left.waits id dir r act prop phase missing
        exact ⟨rfl, rfl⟩
  · have entry := entryOf_inv inv mem station
    refine ⟨fun stale ended => ?_, fun other => ?_, fun c claim pending ended => ?_, fun other => ?_⟩
    · show Host.Outcome.next (staleTimerExpiry p s) = _
      rw [staleTimerExpiry, entry.find]
      exact congrArg Host.Outcome.next (if_pos ⟨stale, decide_eq_true ended⟩)
    · show Host.Outcome.next (staleTimerExpiry p s) = _
      rw [staleTimerExpiry, entry.find]
      exact congrArg Host.Outcome.next (if_neg fun h => other.elim (absurd h.1) (absurd (of_decide_eq_true h.2)))
    · intro e₁ after keeps
      have held : decide (e.claim ≠ none) = true := by simp [claim]
      have cleared := setPeerClaim_eq entry none none inv.events
      rw [held, marks] at cleared
      have runs : exec (.claimTimerExpiry p) s = .next (settle (setPeerClaim p none none s)) := by
        show Host.Outcome.next (claimTimerExpiry p s) = _
        rw [claimTimerExpiry, entry.find]
        exact congrArg Host.Outcome.next (if_pos ⟨by simp [claim, pending], decide_eq_true ended⟩)
      have gone : markAll [(true, .claim)] { e with claim := none, claimTimer := none } = e₁ := by
        simp only [markAll, List.foldl_cons, List.foldl_nil, Markers.setIf, Bool.or_true, e₁]
      rw [cleared, gone] at runs
      obtain ⟨m, runs⟩ := runs_settled_told runs keeps
      exact ⟨_, runs, rfl, raised_told _ ⟨rfl, rfl, rfl, rfl, rfl, rfl, rfl, rfl⟩, rfl, portKept_told rfl,
        linesKept_told rfl, sameBut_of_eq⟩
    · show Host.Outcome.next (claimTimerExpiry p s) = _
      rw [claimTimerExpiry, entry.find]
      refine congrArg Host.Outcome.next (if_neg fun h => ?_)
      obtain ⟨c, claim, pending⟩ := Option.map_eq_some_iff.mp h.1
      rcases other with runs | granted
      · exact runs (of_decide_eq_true h.2)
      · exact Bool.false_ne_true (pending.symm.trans (granted c claim))

/-! ## Claims heard from other stations (R24, R25, R117, R127) -/

theorem exec_claimReceived {kind : ClaimKind} {time : FloorTime} {frame : List Byte}
    (hears : Hears p (.claim kind time) frame s)
    (stands : ∀ c, s.lva = some c → c.kind = .test → c.granted = false → kind = .test →
      ¬ ((time - c.time).toInt < 0 ∨ time = c.time ∧ p < s.link.station)) :
    exec (.claimReceived frame) s = .next (settle (if peerPresent p s then
      judgeClaim p kind time (endReception s) else endReception s)) := by
  have yields : yieldClaim p kind time (endReception s) = endReception s := by
    unfold yieldClaim
    split
    · rename_i c claim
      refine if_neg fun ⟨test, other, pending, older⟩ => ?_
      refine stands c claim test (by simpa using pending) other ?_
      simp only [olderClaim, earlier, timeDiff, Bool.or_eq_true, Bool.and_eq_true, decide_eq_true_eq] at older
      exact older.imp of_decide_eq_true id
    · rfl
  show Host.Outcome.next (claimReceived frame s) = _
  rw [claimReceived, heard_of_hears hears]
  dsimp only
  rw [takeClaim, yields]
  rfl

theorem EntryOf.isPresent (h : EntryOf p e s) : peerPresent p s = decide (e.presence = .present) := by
  rw [peerPresent, h.find]

/-- Settles O40. -/
theorem heardClaimAndReleaseChangeRecord : Obligations.HeardClaimAndReleaseChangeRecord := by
  refine ⟨?_, ?_⟩
  · intro p kind time frame e s inv hears stands mem station room heard record e₁ after
    have entry := entryOf_inv inv mem station
    have runs := exec_claimReceived hears stands
    rw [entry.isPresent] at runs
    refine ⟨fun away keeps => ?_, fun r present fails keeps => ?_, fun present passes keeps => ?_⟩
    · rw [decide_eq_false away, if_neg Bool.false_ne_true] at runs
      obtain ⟨t, done, link, trc, but⟩ := linkLeft_of_settle (link := heard) (trc := s.trc) runs keeps rfl rfl
      exact ⟨t, done, trc, link, but⟩
    · have judged : leaveCheck (endReception s) p kind time = some r := fails
      rw [decide_eq_true present, if_pos rfl, judgeClaim, judged] at runs
      dsimp only at runs
      rw [postCoord_room (s := endReception s) hears.2.2.2 room] at runs
      obtain ⟨t, done, link, trc, but⟩ := linkLeft_of_settle (link := { heard with
        coord := s.link.coord ++ [queued (.objectClaim p time (byteOf r.code))] }) (trc := s.trc) runs keeps rfl rfl
      exact ⟨t, done, trc, link, but⟩
    · have judged : leaveCheck (endReception s) p kind time = none := passes
      rw [decide_eq_true present, if_pos rfl, judgeClaim, judged] at runs
      dsimp only at runs
      have put := setPeerClaim_eq (entry.of_peers (u := endReception s) rfl) (some record)
        (some (pendingTerm (endReception s))) inv.events
      have term : pendingTerm (endReception s) = 10 * (s.hpi.floor.claimWindow + 200) := Nat.mul_comm _ _
      rw [put, term, marks, firstMark_single] at runs
      obtain ⟨m, runs⟩ := runs_settled_told runs
        (SameView.claimKept (s := { s with peers := after }) ⟨rfl, rfl, rfl, rfl, rfl, rfl, rfl⟩ rfl keeps)
      exact ⟨_, runs, rfl, rfl, raised_told _ ⟨rfl, rfl, rfl, rfl, rfl, rfl, rfl, rfl⟩, rfl, portKept_told rfl,
        linesKept_told rfl, sameBut_of_eq⟩
  · intro p kind time frame e s inv hears mem station e₁ after keeps
    have entry := entryOf_inv inv mem station
    have put := setPeerClaim_eq (entry.of_peers (u := endReception s) rfl) none none inv.events
    have runs : exec (.releaseReceived frame) s = .next (settle (setPeerClaim p none none (endReception s))) := by
      show Host.Outcome.next (releaseReceived frame s) = _
      rw [releaseReceived, heard_of_hears hears]
      rfl
    rw [put, marks, firstMark_single] at runs
    obtain ⟨m, runs⟩ := runs_settled_told runs
      (SameView.claimKept (s := { s with peers := after }) ⟨rfl, rfl, rfl, rfl, rfl, rfl, rfl⟩ rfl keeps)
    exact ⟨_, runs, rfl, rfl, raised_told _ ⟨rfl, rfl, rfl, rfl, rfl, rfl, rfl, rfl⟩, rfl, portKept_told rfl,
      linesKept_told rfl, sameBut_of_eq⟩

end Sys2Proof.Machine
end

section
/-! Commands that answer at once and settle nothing: the answer in closed form, the entry that a command names, and
CLEAR PEER MARKERS, SILENCE HORN and CLEAR ALARM INPUT (R27, R30, R49, R52, R167 to R170). -/

namespace Sys2Proof.Machine

variable {p : Station} {e : Peer} {s u : State} {code : Byte} {window args body : List Byte}

/-- A command whose rule leaves the part as in `u` is answered there, and changes nothing else. -/
theorem command_answers {lengths : Nat → Bool} {taken : TakenIn} {rule : Rule} {r : Reply} {status reason : Nat}
    (carried : argBytes window = some args) (fits : lengths args.length = true) (accepted : taken.accepts s = true)
    (ruled : rule args (openCommand code window s) = (openCommand code window u, r)) (hs : r.status.code = status)
    (hr : r.reason = byteOf reason) (hb : r.body = body) (hl : r.lost = none) :
    hostCommand code lengths taken rule window s = onlyAnswered code window status reason body u := by
  obtain ⟨-, response⟩ := answered_respond (t := openCommand code window u) rfl hs hr hb hl
  rw [hostCommand_of_taken carried fits accepted, ruled]
  exact congrArg (fun b => { u with hpi := { u.hpi with command := some (code :: window), response := b } }) response

/-! ## The entry that a command names (R27, R30) -/

/-- The entry of the station whose number a byte carries. -/
def entryAt (n : Byte) (s : State) : Option Peer := s.peers.find? fun e => decide (e.station.val = n.toNat)

theorem namedPeer_eq (n : Byte) (rest : List Byte) (s : State) : namedPeer (n :: rest) s = entryAt n s := by
  by_cases low : n.toNat < 16
  · have found : stationAt (n :: rest) 0 = some ⟨n.toNat, low⟩ := dif_pos low
    rw [namedPeer, found]
    refine congrArg (fun f => s.peers.find? f) (funext fun e => decide_eq_decide.mpr ?_)
    exact Fin.ext_iff
  · have missing : stationAt (n :: rest) 0 = none := dif_neg low
    rw [namedPeer, missing]
    refine (List.find?_eq_none.mpr fun e _ same => ?_).symm
    have := e.station.isLt
    have := of_decide_eq_true same
    omega

/-- The own number and a number above 15 have no entry; every other number has one (R19). -/
theorem entryAt_eq_none (inv : Inv s) (n : Byte) :
    entryAt n s = none ↔ s.link.station.val = n.toNat ∨ 15 < n.toNat := by
  have stations (q : Station) : (∃ e ∈ s.peers, e.station = q) ↔ q ≠ s.link.station := by
    rw [← List.mem_map, inv.peers]
    simp
  rw [entryAt, List.find?_eq_none]
  constructor
  · intro absent
    by_contra both
    push Not at both
    obtain ⟨e, mem, station⟩ := (stations ⟨n.toNat, by omega⟩).mpr fun same => both.1 (congrArg Fin.val same).symm
    exact absent e mem (decide_eq_true (congrArg Fin.val station))
  · intro none_ e mem same
    have same := of_decide_eq_true same
    have other := (stations e.station).mp ⟨e, mem, rfl⟩
    have low := e.station.isLt
    rcases none_ with own | high
    · exact other (Fin.ext (same.trans own.symm))
    · omega

theorem entryAt_station {n : Byte} (h : entryAt n s = some e) : e.station.val = n.toNat := by
  simpa using List.find?_some h

/-! ## The commands -/

theorem clearPeerMarkers_eq {n which : Byte} (found : entryAt n s = some e) :
    ruleClearPeerMarkers [n, which] s = (s.modPeers fun l => l.map fun e =>
      if e.station.val = n.toNat then { e with markers := e.markers.cleared which } else e, okReply) := by
  have same (x : Peer) : x.station = e.station ↔ x.station.val = n.toNat := by
    rw [← entryAt_station found, Fin.ext_iff]
  rw [ruleClearPeerMarkers, namedPeer_eq, found]
  simp only [updatePeer, same]
  rfl

/-- Settles O15. -/
theorem hostClearsMarkersHornAndLatch : Obligations.HostClearsMarkersHornAndLatch := by
  refine ⟨fun n which s inv => ⟨fun absent => ?_, fun other low => ?_⟩, fun s => ⟨?_, fun running edge => ?_,
    fun running level => ?_⟩⟩
  · have ruled : ruleClearPeerMarkers [n, which] (openCommand 0x13 [2#8, n, which] s)
        = (openCommand 0x13 [2#8, n, which] s, badArgument) := by
      have none_ : entryAt n (openCommand 0x13 [2#8, n, which] s) = none := (entryAt_eq_none inv n).mpr absent
      rw [ruleClearPeerMarkers, namedPeer_eq, none_]
    exact congrArg Host.Outcome.next (command_answers (taken := .both) rfl rfl rfl ruled rfl rfl rfl rfl)
  · obtain ⟨e, found⟩ : ∃ e, entryAt n s = some e := Option.ne_none_iff_exists'.mp fun none_ =>
      ((entryAt_eq_none inv n).mp none_).elim other (fun high => by omega)
    have ruled := clearPeerMarkers_eq (s := openCommand 0x13 [2#8, n, which] s) (which := which) found
    exact congrArg Host.Outcome.next (command_answers (taken := .both) (u := s.modPeers _) rfl rfl rfl ruled rfl rfl rfl
      rfl)
  · exact congrArg Host.Outcome.next (command_answers (taken := .both) (rule := ruleSilenceHorn)
      (u := { s with clu := { s.clu with horn := false, hornTimer := none } }) rfl rfl rfl rfl rfl rfl rfl rfl)
  · have ruled : ruleClearAlarmInput [] (openCommand 0x2A [0#8] s)
        = (openCommand 0x2A [0#8] { s with clu := { s.clu with alarmLatch := false } }, okReply) := by
      have mode : (openCommand 0x2A [0#8] s).hpi.cab.alarmMode = .edge := edge
      rw [ruleClearAlarmInput, mode]
      rfl
    exact congrArg Host.Outcome.next (command_answers (taken := .running) rfl rfl running ruled rfl rfl rfl rfl)
  · have ruled : ruleClearAlarmInput [] (openCommand 0x2A [0#8] s) = (openCommand 0x2A [0#8] s, okReply) := by
      have mode : (openCommand 0x2A [0#8] s).hpi.cab.alarmMode = .level := level
      rw [ruleClearAlarmInput, mode]
    refine ⟨_, congrArg Host.Outcome.next (command_answers (taken := .running) rfl rfl running ruled rfl rfl rfl rfl),
      ⟨rfl, rfl⟩, ?_, sameBut_of_eq⟩
    show (match s.hpi.cab.alarmMode with | .level => s.clu.alarmIn.qual | .edge => s.clu.alarmLatch) = _
    rw [level]

end Sys2Proof.Machine
end

section
/-! The bodies of the reading commands, field by field: what the encoders of the model write is what the statements
spell out (R178, R179, R182, R183). -/

namespace Sys2Proof.Machine

/-! ## Fields (R179) -/

section
variable (n : Nat) (b : Bool)

theorem u8_eq : u8 n = [byteOf n] := rfl

theorem u16_eq : u16 = field 2 := funext fun n => by simp [u16, field, byteOf, List.range_succ]

theorem u32_eq : u32 = field 4 := funext fun n => by simp [u32, field, byteOf, List.range_succ]

theorem i16_eq : i16 = signed := funext fun _ => congrFun u16_eq _

theorem timeBytes_eq : timeBytes = be32 := rfl

theorem flagByte_eq : flagByte b = [flag b] := by cases b <;> rfl

theorem levelByte_eq : levelByte b = [level b] := by cases b <;> rfl

theorem stationByte_eq (p : Station) : stationByte p = [byteOf p.val] := rfl

theorem propId_bytes (id : PropId) : id.bytes = idField id := rfl

theorem opt_eq (width : Nat) (x : Option (List Byte)) : opt width x = optional width x := by cases x <;> rfl

theorem listField_eq (width bound : Nat) (l : List (List Byte)) : listField width bound l = listed width bound l := by
  simp only [listField, listed, u8_eq, zeros, List.cons_append, List.nil_append]

theorem timerField_eq (t : Option Ticks) : timerField t = remainingMs t := by
  rw [timerField, u32_eq]
  unfold remainingMs
  cases t with
  | none => rfl
  | some n =>
    refine congrArg (field 4) ?_
    by_cases whole : n % 10 = 0
    · simp [msLeft, whole]
    · cases up : Config.roundsUpMs n <;> simp [msLeft, whole, up]

end

/-! ## Codes (R179) -/

theorem byteOf_mode (m : Mode) : byteOf m.code = modeCode m := by cases m <;> rfl
theorem byteOf_feedback (m : FbMode) : byteOf m.code = feedbackCode m := by cases m <;> rfl
theorem byteOf_activity (k : ActKind) : byteOf k.code = activityCode k := by cases k <;> rfl
theorem byteOf_align (a : Align) : byteOf a.code = alignCode a := by cases a <;> rfl
theorem byteOf_verdict (v : Verdict) : byteOf v.code = verdictCode v := by cases v <;> rfl
theorem byteOf_claimKind (k : ClaimKind) : byteOf k.code = kindOfClaim k := by cases k <;> rfl
theorem byteOf_visitKind (k : VisitKind) : byteOf k.code = kindOfVisit k := by cases k <;> rfl
theorem byteOf_dueKind (k : DueKind) : byteOf k.code = kindOfDue k := by cases k <;> rfl
theorem byteOf_task (t : Task) : byteOf t.code = taskCode t := by cases t <;> rfl

/-! ## READ STATUS (R70, R84, R178) -/

theorem hpiItems_eq (s : State) : hpiItems s = hpiSpelled s := by
  have device : deviceByte s = [if s.hpi.running then 2#8 else 1#8] := by
    unfold deviceByte
    cases s.hpi.running <;> rfl
  have elevated : elevatedByte s.hpi.floor.elevated
      = [match s.hpi.floor.elevated with | none => 0#8 | some k => byteOf k.code] := by
    cases s.hpi.floor.elevated <;> rfl
  have alarm : byteOf s.hpi.cab.alarmMode.code = match s.hpi.cab.alarmMode with | .level => 1#8 | .edge => 2#8 := by
    cases s.hpi.cab.alarmMode <;> rfl
  unfold hpiSpelled hpiItems FloorCfg.bytes CabCfg.bytes
  simp only [device, elevated, u8_eq, alarm, u16_eq, i16_eq, flagByte_eq, opt_eq, List.append_assoc, List.cons_append,
    List.nil_append] <;> rfl

theorem permit_eq (s : State) : permit s = permitShown s := by
  unfold permit permitShown
  cases s.vsm.visit with
  | none => rfl
  | some v =>
    cases stands : v.state
    case isolating => simp [stands, Bool.and_assoc]
    case restoring => simp [stands, Bool.and_comm (!v.joinRequested), Bool.or_assoc]
    all_goals simp [stands]

theorem lineItems_eq (s : State) : flcItems s ++ cluItems s = linesSpelled s := by
  have rate : byteOf s.link.rate.code
      = match s.link.rate with | .k125 => 0#8 | .k250 => 1#8 | .k500 => 2#8 | .k1000 => 3#8 := by
    cases s.link.rate <;> rfl
  have state : byteOf s.link.state.code = match s.link.state with
      | .listen => 0#8 | .active => 1#8 | .mutedFailures => 2#8 | .mutedDuplicate => 2#8 := by
    cases s.link.state <;> rfl
  have mute : byteOf s.link.state.muteCode = match s.link.state with
      | .listen => 0#8 | .active => 0#8 | .mutedFailures => 1#8 | .mutedDuplicate => 2#8 := by
    cases s.link.state <;> rfl
  unfold linesSpelled flcItems cluItems
  simp only [stationByte_eq, u8_eq, rate, state, mute, levelByte_eq, flagByte_eq, byteOf_mode, byteOf_feedback,
    permit_eq, List.cons_append, List.nil_append] <;> rfl

theorem frameBytes_eq : SenseFrame.bytes = frameSpelled := by
  funext f
  unfold SenseFrame.bytes frameSpelled
  simp only [u16_eq, i16_eq, opt_eq, flagByte_eq, List.append_assoc, List.cons_append, List.nil_append]

theorem batteryItems_eq (s : State) : batteryItems s = batterySpelled s := by
  have sense : byteOf s.sns.state.code
      = match s.sns.state with | .waiting => 0#8 | .live => 1#8 | .stale => 2#8 | .lost => 3#8 := by
    cases s.sns.state <;> rfl
  have weights (l : List Nat) : l.flatMap u8 = l.map byteOf := List.flatMap_pure_eq_map ..
  unfold batterySpelled batteryItems
  simp only [u8_eq, sense, opt_eq, frameBytes_eq, u16_eq, u32_eq, i16_eq, flagByte_eq, weights, List.append_assoc,
    List.cons_append, List.nil_append] <;> rfl

theorem activityBytes_eq (a : Activity) : a.bytes = activitySpelled a := by
  cases a with
  | none => rfl
  | proposed id d => cases d <;> rfl
  | following id d => cases d <;> rfl
  | armed id d t => cases d <;> rfl
  | switching m o => cases m <;> cases o <;> rfl
  | mismatch m o => cases m <;> cases o <;> rfl

theorem stationList_eq (l : List Station) : stationList l = stationsSpelled l := listField_eq ..

theorem proposalBytes_eq : ProposalRec.bytes = proposalSpelled := by
  funext r
  unfold ProposalRec.bytes proposalSpelled
  simp only [opt_eq, stationByte_eq, timeBytes_eq, funext stationList_eq]
  cases r.phase with
  | none => simp only [List.append_assoc]; rfl
  | some p => cases p <;> simp only [List.append_assoc] <;> rfl

theorem trcItems_eq (s : State) : trcItems s = trcSpelled s := by
  have splits : splitBytes s = ((List.finRange 16).filter fun p => decide (p ≠ s.link.station)).map
      fun p => byteOf (s.trc.splits.get p) := List.flatMap_pure_eq_map ..
  unfold trcItems trcSpelled
  simp only [u8_eq, byteOf_mode, activityBytes_eq, proposalBytes_eq, opt_eq, timerField_eq, splits,
    List.append_assoc, List.cons_append, List.nil_append]

theorem lvaItems_eq (s : State) : lvaItems s = lvaSpelled s := by
  unfold lvaItems lvaSpelled
  cases s.lva with
  | none => rfl
  | some c =>
    have state : byteOf (if c.granted then 2 else 1) = if c.granted then 2#8 else 1#8 := by cases c.granted <;> rfl
    have phase : byteOf c.phaseCode = if c.granted then 0#8 else if c.inWindow then 2#8 else 1#8 := by
      unfold Claim.phaseCode
      cases c.granted <;> cases c.inWindow <;> rfl
    simp only [u8_eq, state, phase, byteOf_claimKind, timeBytes_eq, timerField_eq, flagByte_eq, List.append_assoc,
      List.cons_append, List.nil_append]

theorem captureBytes_eq : Capture.bytes = fun c => byteOf c.step :: (field 2 c.v ++ signed c.i) := by
  funext c
  unfold Capture.bytes
  simp only [u8_eq, u16_eq, i16_eq, List.cons_append, List.nil_append]

theorem tsqItems_eq (s : State) : tsqItems s = tsqSpelled s := by
  have steps : TestStep.bytes = fun st => [match st.kind with | .rest => 1#8 | .discharge => 2#8]
      ++ field 2 st.duration ++ field 2 st.floor ++ [flag st.capture] := by
    funext st
    unfold TestStep.bytes
    rw [u16_eq, flagByte_eq]
    cases st.kind <;> rfl
  have state : u8 s.tsq.state.code ++ opt 1 (s.tsq.state.step.map u8) = match s.tsq.state with
      | .idle => [0#8, 0#8, 0#8] | .claiming => [1#8, 0#8, 0#8] | .running n => [2#8, 1#8, byteOf n]
      | .paused n => [3#8, 1#8, byteOf n] | .ended => [4#8, 0#8, 0#8] := by
    cases s.tsq.state <;> rfl
  unfold tsqItems tsqSpelled
  rw [List.append_assoc (listField ..), state]
  simp only [u8_eq, steps, listField_eq, opt_eq, captureBytes_eq, timerField_eq, u16_eq, u32_eq, i16_eq, flagByte_eq,
    List.append_assoc, List.cons_append, List.nil_append] <;> rfl

theorem taskList_eq (l : List Task) : listField 1 8 (l.map fun t => u8 t.code) = tasksSpelled l := by
  have codes : (fun t : Task => u8 t.code) = fun t => [taskCode t] := funext fun t => by cases t <;> rfl
  rw [codes, listField_eq]
  rfl

theorem vsmItems_eq (s : State) : vsmItems s = vsmSpelled s := by
  unfold vsmItems vsmSpelled
  rw [opt_eq]
  cases s.vsm.visit with
  | none => rfl
  | some v =>
    have state : byteOf v.state.code = match v.state with
        | .opened => 1#8 | .requested => 2#8 | .isolating => 3#8 | .isolated => 4#8 | .restoring => 5#8
        | .maintWait => 6#8 | .maintOn => 7#8 := by
      cases v.state <;> rfl
    rw [Option.map_some, Option.map_some]
    unfold Visit.bytes
    rw [taskList_eq]
    simp only [u8_eq, u16_eq, u32_eq, state, byteOf_visitKind, flagByte_eq, timerField_eq, List.append_assoc,
      List.cons_append, List.nil_append] <;> rfl

theorem statusBody_eq (s : State) : statusBody s = hpiSpelled s ++ linesSpelled s ++ batterySpelled s ++ trcSpelled s
    ++ lvaSpelled s ++ tsqSpelled s ++ vsmSpelled s := by
  rw [statusBody, List.append_assoc (hpiItems s), lineItems_eq, hpiItems_eq, batteryItems_eq, trcItems_eq, lvaItems_eq,
    tsqItems_eq, vsmItems_eq]

/-! ## READ FLOOR, READ PEER and the records (R30, R165, R183) -/

theorem claimBytes_eq : shownClaimBytes = claimField := by
  funext c
  unfold shownClaimBytes claimField
  cases c.kind <;> cases c.granted <;> rfl

theorem ownValueBytes_eq (s : State) : ownValueBytes s = ownSpelled s := by
  have source : byteOf (ownSource s).code = match ownSource s with | .mains => 0#8 | .battery => 1#8 := by
    cases ownSource s <;> rfl
  have claim : (ownShown s).map claimField = s.lva.map fun c =>
      kindOfClaim c.kind :: (be32 c.time ++ [if c.granted then 2#8 else 1#8]) := Option.map_map ..
  unfold ownValueBytes ownSpelled ownReport
  simp only [u8_eq, u16_eq, byteOf_mode, byteOf_activity, byteOf_align, source, opt_eq, flagByte_eq, claimBytes_eq,
    claim, List.append_assoc, List.cons_append, List.nil_append] <;> rfl

theorem floorBody_eq (s : State) : floorBody s = floorSpelled s := by
  unfold floorBody floorSpelled
  simp only [u8_eq, u32_eq, i16_eq, ownValueBytes_eq, byteOf_align, timeBytes_eq, List.append_assoc, List.cons_append,
    List.nil_append]

theorem field_be32 (w : BitVec 32) : u32 w.toNat = be32 w := rfl

theorem markersByte_eq (m : Markers) : m.byte = (if m.presence then 1 else 0) + (if m.mode then 2 else 0)
    + (if m.claim then 4 else 0) + (if m.health then 8 else 0) := by
  unfold Markers.byte bitAt
  rfl

theorem carryBytes_eq (c : Carry) : c.bytes = carrySpelled c := by
  unfold Carry.bytes carrySpelled
  simp only [u8_eq, u16_eq, u32_eq, byteOf_verdict, opt_eq, flagByte_eq, List.append_assoc, List.cons_append,
    List.nil_append]

theorem carryNow_eq (s : State) :
    carryNow s = { s.bau.carry with soc := if s.hpi.running then soc s else s.bau.carry.soc } := by
  unfold carryNow
  cases s.hpi.running <;> rfl

theorem dueBytes_eq : Due.bytes = fun d => [kindOfDue d.kind] ++ field 4 d.minute
    ++ (match d.kind with
      | .batteryReplace => [1#8, 1#8, 0#8] | .batteryInspect => [2#8, 2#8, 1#8]
      | .testOverdue => [0#8, 0#8, 0#8] | .faultFollowup => [1#8, 3#8, 0#8] | .periodic => [1#8, 4#8, 0#8]) := by
  funext d
  unfold Due.bytes
  rw [u32_eq]
  cases d.kind <;> rfl

theorem duesBody_eq (s : State) : duesBody s = duesSpelled s := by
  unfold duesBody duesSpelled
  simp only [listField_eq, dueBytes_eq, flagByte_eq, List.append_assoc, List.cons_append, List.nil_append] <;> rfl

theorem logBytes_eq (r : LogRec) : r.bytes = logSpelled r := by
  have outcome : byteOf r.outcome.code = match r.outcome with
      | .completed => 1#8 | .cancelled => 2#8 | .abandoned => 3#8 | .stalled => 4#8 | .interrupted => 5#8 := by
    cases r.outcome <;> rfl
  have kinds : (fun k : DueKind => u8 k.code) = fun k => [kindOfDue k] := funext fun k => by cases k <;> rfl
  unfold LogRec.bytes logSpelled
  rw [taskList_eq, kinds]
  simp only [u8_eq, u16_eq, u32_eq, byteOf_visitKind, outcome, listField_eq, List.append_assoc, List.cons_append,
    List.nil_append] <;> rfl

theorem resultBytes_eq (r : TestResult) : r.bytes = resultSpelled r := by
  have cause : byteOf r.cause.code = match r.cause with
      | .profileDone => 1#8 | .floorReached => 2#8 | .claimDenied => 3#8 | .aborted => 4#8
      | .mainsLost => 5#8 | .transfer => 6#8 | .forced => 7#8 | .marginLost => 8#8 | .senseStale => 9#8
      | .pauseTimeout => 10#8 | .restart => 11#8 := by
    cases r.cause <;> rfl
  unfold TestResult.bytes resultSpelled
  simp only [u8_eq, u16_eq, u32_eq, cause, flagByte_eq, listField_eq, opt_eq, captureBytes_eq, byteOf_verdict,
    List.append_assoc, List.cons_append, List.nil_append] <;> rfl

theorem peerBody_eq (e : Peer) (present : e.presence ≠ .absent) : e.body = peerSpelled e := by
  have presence : byteOf e.presence.code
      = match e.presence with | .absent => 0#8 | .joining => 1#8 | .present => 2#8 | .stale => 3#8 := by
    cases e.presence <;> rfl
  have source : byteOf e.report.source.code = match e.report.source with | .mains => 0#8 | .battery => 1#8 := by
    cases e.report.source <;> rfl
  unfold Peer.body peerSpelled
  rw [if_neg present]
  simp only [u8_eq, u16_eq, field_be32, presence, source, timeBytes_eq, opt_eq, byteOf_mode, byteOf_align,
    byteOf_activity, flagByte_eq, claimBytes_eq, markersByte_eq, List.append_assoc, List.cons_append,
    List.nil_append] <;> rfl

theorem blankBody_eq (p : Station) : (Peer.blank p).body = List.replicate 42 0#8 :=
  show (Peer.blank 0).body = List.replicate 42 0#8 by decide

/-- An ABSENT entry holds nothing: it reads as zeros (R182). -/
theorem shownBody_eq (e : Peer) :
    (if e.presence = .absent then (Peer.blank e.station).body else e.body) = peerSpelled e := by
  by_cases absent : e.presence = .absent
  · rw [if_pos absent, peerSpelled, if_pos absent, blankBody_eq]
  · rw [if_neg absent, peerBody_eq e absent]

/-! ## The figures (R28, R29) -/

end Sys2Proof.Machine
end

section
/-! The reading commands, and the figures of R28 and R29 spelled over the state. -/

namespace Sys2Proof.Machine

/-! ## The commands that read -/

section
variable (s : State)

theorem readStatus_answers : exec (.readStatus [0#8]) s = .next (onlyAnswered 0x10 [0#8] 0 0
    (hpiSpelled s ++ linesSpelled s ++ batterySpelled s ++ trcSpelled s ++ lvaSpelled s ++ tsqSpelled s
      ++ vsmSpelled s) s) := by
  have body : statusBody (openCommand 0x10 [0#8] s) = _ := statusBody_eq _
  exact congrArg Host.Outcome.next (command_answers (taken := .both) (rule := ruleReadStatus) (u := s) rfl rfl rfl rfl
    rfl rfl body rfl)

theorem readFloor_answers :
    exec (.readFloor [0#8]) s = .next (onlyAnswered 0x11 [0#8] 0 0 (floorSpelled s) s) := by
  have body : floorBody (openCommand 0x11 [0#8] s) = _ := floorBody_eq _
  exact congrArg Host.Outcome.next (command_answers (taken := .both) (rule := ruleReadFloor) (u := s) rfl rfl rfl rfl
    rfl rfl body rfl)

theorem readCarryRecord_answers : exec (.readCarryRecord [0#8]) s = .next (onlyAnswered 0x15 [0#8] 0 0
    (carrySpelled { s.bau.carry with soc := if s.hpi.running then soc s else s.bau.carry.soc }) s) := by
  have body : (carryNow (openCommand 0x15 [0#8] s)).bytes = _ :=
    (carryBytes_eq _).trans (congrArg carrySpelled (carryNow_eq _))
  exact congrArg Host.Outcome.next (command_answers (taken := .both) (rule := ruleReadCarryRecord) (u := s) rfl rfl rfl
    rfl rfl rfl body rfl)

theorem readDues_answers : exec (.readDues [0#8]) s = .next (onlyAnswered 0x16 [0#8] 0 0 (duesSpelled s) s) := by
  have body : duesBody (openCommand 0x16 [0#8] s) = _ := duesBody_eq _
  exact congrArg Host.Outcome.next (command_answers (taken := .both) (rule := ruleReadDues) (u := s) rfl rfl rfl rfl
    rfl rfl body rfl)

variable {s} in
theorem readPeer_answers {p : Byte} {e : Peer} (found : entryAt p s = some e) :
    exec (.readPeer [1#8, p]) s = .next (onlyAnswered 0x12 [1#8, p] 0 0 (peerSpelled e) s) := by
  have ruled : ruleReadPeer [p] (openCommand 0x12 [1#8, p] s)
      = (openCommand 0x12 [1#8, p] s, bodyReply (peerSpelled e)) := by
    have named : namedPeer [p] (openCommand 0x12 [1#8, p] s) = some e := (namedPeer_eq p [] _).trans found
    rw [ruleReadPeer, named]
    exact congrArg (fun b => (_, bodyReply b)) (shownBody_eq e)
  exact congrArg Host.Outcome.next (command_answers (taken := .both) (u := s) rfl rfl rfl ruled rfl rfl rfl rfl)

variable {s} in
theorem readPeer_refuses {p : Byte} (missing : entryAt p s = none) :
    exec (.readPeer [1#8, p]) s = .next (onlyAnswered 0x12 [1#8, p] 5 0 [] s) := by
  have ruled : ruleReadPeer [p] (openCommand 0x12 [1#8, p] s) = (openCommand 0x12 [1#8, p] s, badArgument) := by
    have named : namedPeer [p] (openCommand 0x12 [1#8, p] s) = none := (namedPeer_eq p [] _).trans missing
    rw [ruleReadPeer, named]
  exact congrArg Host.Outcome.next (command_answers (taken := .both) (u := s) rfl rfl rfl ruled rfl rfl rfl rfl)

theorem readVisitLog_answers (n : Byte) : exec (.readVisitLog [1#8, n]) s = .next (
    if 15 < n.toNat then onlyAnswered 0x17 [1#8, n] 5 0 [] s
    else match s.vsm.log.reverse[n.toNat]? with
      | some r => onlyAnswered 0x17 [1#8, n] 0 0 (logSpelled r) s
      | none => onlyAnswered 0x17 [1#8, n] 0 0 [] s) := by
  have ruled : ruleReadVisitLog [n] (openCommand 0x17 [1#8, n] s) = (openCommand 0x17 [1#8, n] s,
      if 15 < n.toNat then badArgument
      else match s.vsm.log.reverse[n.toNat]? with
        | some r => bodyReply (logSpelled r)
        | none => okReply) := by
    unfold ruleReadVisitLog
    show (if 15 < n.toNat then _ else match s.vsm.log.reverse[n.toNat]? with | some r => _ | none => _) = _
    split
    · rfl
    · cases s.vsm.log.reverse[n.toNat]? with
      | none => rfl
      | some r => exact congrArg (fun b => (_, bodyReply b)) (logBytes_eq r)
  split
  · rw [if_pos ‹_›] at ruled
    exact congrArg Host.Outcome.next (command_answers (taken := .both) (u := s) rfl rfl rfl ruled rfl rfl rfl rfl)
  · rw [if_neg ‹_›] at ruled
    cases shown : s.vsm.log.reverse[n.toNat]? with
    | none =>
      rw [shown] at ruled
      exact congrArg Host.Outcome.next (command_answers (taken := .both) (u := s) rfl rfl rfl ruled rfl rfl rfl rfl)
    | some r =>
      rw [shown] at ruled
      exact congrArg Host.Outcome.next (command_answers (taken := .both) (u := s) rfl rfl rfl ruled rfl rfl rfl rfl)

theorem readTestResult_answers : exec (.readTestResult [0#8]) s = .next
    { onlyAnswered 0x18 [0#8] 0 0 (match s.tsq.result with | some r => resultSpelled r | none => []) s with
      tsq := if s.tsq.state = .ended then { s.tsq with state := .idle } else s.tsq } := by
  have left : (if s.tsq.state = .ended then openCommand 0x18 [0#8] { s with tsq := { s.tsq with state := .idle } }
      else openCommand 0x18 [0#8] s)
      = openCommand 0x18 [0#8]
        { s with tsq := if s.tsq.state = .ended then { s.tsq with state := .idle } else s.tsq } := by
    split <;> rfl
  have ruled : ruleReadTestResult [] (openCommand 0x18 [0#8] s)
      = (openCommand 0x18 [0#8]
          { s with tsq := if s.tsq.state = .ended then { s.tsq with state := .idle } else s.tsq },
        match s.tsq.result with | some r => bodyReply (resultSpelled r) | none => okReply) := by
    refine Prod.ext left ?_
    show (match s.tsq.result with | some r => bodyReply r.bytes | none => okReply) = _
    cases s.tsq.result with
    | none => rfl
    | some r => exact congrArg bodyReply (resultBytes_eq r)
  cases shown : s.tsq.result <;> rw [shown] at ruled <;>
    exact congrArg Host.Outcome.next (command_answers (taken := .both)
      (u := { s with tsq := if s.tsq.state = .ended then { s.tsq with state := .idle } else s.tsq })
      rfl rfl rfl ruled rfl rfl rfl rfl)

/-- The response with the status EMPTY (R168, R169). -/
theorem emptyResponse_eq : responseBytes (plainReply .empty) s = answer 7 0 [] s :=
  Option.some.inj (answered_respond (t := openCommand 0 [] s) rfl rfl rfl rfl rfl).2

theorem readWindow_shifts (clocked : Nat) : exec (.readWindow clocked) s = .next
    { s with hpi := { s.hpi with
        response := none
        shiftedOut := (match s.hpi.response with
          | some bytes => bytes
          | none => answer 7 0 [] s).take clocked } } := by
  have bytes : readable s = match s.hpi.response with | some bytes => bytes | none => answer 7 0 [] s := by
    unfold readable
    cases s.hpi.response with
    | none => exact emptyResponse_eq s
    | some bytes => rfl
  exact congrArg (fun b => Host.Outcome.next
    { s with hpi := { s.hpi with response := none, shiftedOut := b.take clocked } }) bytes

/-! ## The own values (R28) -/

theorem isolatedFlag_eq : isolatedFlag s = match s.vsm.visit with
    | some v => decide (v.state = .isolating ∨ v.state = .isolated ∨ v.state = .restoring)
    | none => false := by
  unfold isolatedFlag
  cases s.vsm.visit with
  | none => rfl
  | some v => cases stands : v.state <;> simp [VisitState.isolates, stands]

theorem ownCarrying_eq : ownCarrying s
    = if isolatedFlag s = false ∧ s.clu.output.qual = true then s.hpi.cab.rated.getD 0 else 0 := by
  unfold ownCarrying ratedOutput
  cases isolatedFlag s <;> cases s.clu.output.qual <;> rfl

theorem ownReady_eq : ownReady s
    = if (isolatedFlag s = false ∧ s.clu.output.qual = true) ∧ invReadyFlag s = true then s.hpi.cab.rated.getD 0
      else 0 := by
  unfold ownReady ratedOutput
  cases isolatedFlag s <;> cases s.clu.output.qual <;> cases invReadyFlag s <;> rfl

theorem holdFlag_eq : holdFlag s = decide (s.trc.holdTimer ≠ none) := by
  unfold holdFlag
  cases s.trc.holdTimer <;> rfl

/-! ## The figures (R29) -/

/-- What the figures take of a counted station: its report, and whether it holds a claim. -/
def Counted.figured (c : Counted) : Report × Bool := (c.report, decide (c.claim ≠ none))

/-- The counted stations as the figures take them. -/
def figuredStations : List (Report × Bool) :=
  (ownReport s, decide (s.lva ≠ none)) ::
    (s.peers.filter fun e => decide (e.presence = .present)).map fun e => (e.report, decide (e.claim ≠ none))

theorem figuredStations_eq : figuredStations s = (countedStations s).map Counted.figured := by
  have own : decide (s.lva ≠ none) = decide (ownShown s ≠ none) := by
    unfold ownShown
    cases s.lva <;> rfl
  rw [countedStations, List.map_cons, List.map_map, figuredStations, own]
  rfl

theorem sum_figured (f : Report → Nat) (keep : Report × Bool → Bool) :
    (((figuredStations s).filter keep).map fun c => f c.1).sum
      = sumOf (fun c => f c.report) ((countedStations s).filter fun c => keep c.figured) := by
  rw [figuredStations_eq, List.filter_map, List.map_map]
  rfl

theorem floorLoad_eq : floorLoad s = (((figuredStations s).filter fun c =>
    decide ((c.1.mode = .inv ∨ c.1.mode = .byp) ∧ c.1.isolated = false)).map fun c => c.1.load).sum := by
  rw [sum_figured s Report.load, floorLoad]
  refine congrArg (fun keep => sumOf _ (List.filter keep _)) (funext fun c => ?_)
  simp [Counted.figured]

theorem readyCapacity_eq : readyCapacity s
    = (((figuredStations s).filter fun c => decide (c.1.isolated = false)).map fun c => c.1.ready).sum := by
  rw [sum_figured s Report.ready, readyCapacity]
  refine congrArg (fun keep => sumOf _ (List.filter keep _)) (funext fun c => ?_)
  simp [Counted.figured]

theorem carryingCapacity_eq : carryingCapacity s
    = (((figuredStations s).filter fun c => decide (c.1.mode = .inv)).map fun c => c.1.carrying).sum :=
  (sum_figured s Report.carrying fun c => decide (c.1.mode = .inv)).symm

theorem inverterCount_eq :
    inverterCount s = ((figuredStations s).filter fun c => decide (c.1.mode = .inv)).length := by
  rw [figuredStations_eq, List.filter_map, List.length_map, inverterCount, List.countP_eq_length_filter]
  rfl

theorem backedCapacity_eq : backedCapacity s
    = ((((figuredStations s).filter fun c => decide (c.1.mode = .inv)).filter fun c =>
      decide (c.1.weak = false ∧ c.1.senseLost = false ∧ c.1.source = .mains ∧ c.2 = false)).map
        fun c => c.1.carrying).sum := by
  rw [List.filter_filter, sum_figured s Report.carrying, backedCapacity]
  refine congrArg (fun keep => sumOf _ (List.filter keep _)) (funext fun c => ?_)
  show (c.inverting && c.sound && c.claim.isNone) = (decide (c.report.weak = false ∧ c.report.senseLost = false
    ∧ c.report.source = .mains ∧ decide (c.claim ≠ none) = false) && decide (c.report.mode = .inv))
  rw [Bool.eq_iff_iff]
  simp only [Counted.inverting, Counted.sound, Bool.and_eq_true, decide_eq_true_eq, Bool.not_eq_true',
    Option.isNone_iff_eq_none, decide_eq_false_iff_not, ne_eq, not_not]
  tauto

end

/-- Settles O14: the bodies by the encoders' lemmas, the figures by what they take of the counted stations. -/
theorem readsAnswerFromState : Obligations.ReadsAnswerFromState := by
  refine ⟨fun s => ⟨readStatus_answers s, ⟨rfl, permit_eq s⟩, readFloor_answers s, readCarryRecord_answers s,
    readDues_answers s, fun _ _ => readPeer_answers, fun _ => readPeer_refuses, readVisitLog_answers s⟩,
    readTestResult_answers, fun clocked s => readWindow_shifts s clocked, fun s => ?_⟩
  intro isolated inMaint ready source load onBus rated id act own counted inverters
  have isolatedIs : isolatedFlag s = isolated := isolatedFlag_eq s
  have ratedIs : s.hpi.cab.rated.getD 0 = rated := by
    show _ = match s.hpi.cab.rated with | some x => x | none => 0
    cases s.hpi.cab.rated <;> rfl
  have carryingIs : ownCarrying s = own.carrying := by rw [ownCarrying_eq, isolatedIs, ratedIs]
  have readyIs : ownReady s = own.ready := by rw [ownReady_eq, isolatedIs, ratedIs]; rfl
  have sourceIs : ownSource s = source := rfl
  have actIs : s.trc.activity.kind = act := by
    simp only [act]
    cases s.trc.activity <;> rfl
  have idIs : s.trc.activity.propId = id := by
    simp only [id]
    cases s.trc.activity <;> rfl
  have ownIs : ownReport s = own := by
    rw [ownReport, holdFlag_eq, isolatedIs, carryingIs, readyIs, sourceIs, actIs, idIs]
    rfl
  have countedIs : counted = figuredStations s := by
    rw [figuredStations, ownIs]
  refine ⟨ownIs, isolatedIs, rfl, rfl, ?_, rfl, carryingIs, readyIs, ?_⟩
  · rfl
  · rw [inverterCount_eq, floorLoad_eq, carryingCapacity_eq, readyCapacity_eq, backedCapacity_eq, ← countedIs]
    exact ⟨rfl, rfl, rfl, rfl, rfl⟩

end Sys2Proof.Machine
end

section
/-! The evaluation at a boundary (R35, R36, R38), the STATUS and the re-evaluation of the own claim behind it, and the
armed transfer that a step of floor time reaches (R31, R99, R122). -/

namespace Sys2Proof.Machine

variable {s u w : State} {mean : Int} {x : Align × Nat}

/-! ## The evaluation in closed form (R35, R36, R38) -/

theorem freshOffsets_eq (s : State) : freshOffsets s = s.peers.filterMap fun e =>
    if e.presence = .present ∧ 0 < e.fresh then e.offset.map (·.toInt) else none := by
  rw [freshOffsets, presentPeers, List.filterMap_filter]
  refine congrArg (fun f => List.filterMap f s.peers) (funext fun e => ?_)
  by_cases present : e.presence = .present <;> by_cases fresh : 0 < e.fresh <;> simp [present, fresh]

/-- The mean of the offsets that an evaluation would use now (R35). -/
def meanNow (s : State) : Int := meanOffset (freshOffsets s)

/-- Floor time after an evaluation with the mean (R36). -/
def timeAfter (mean : Int) (t : FloorTime) : FloorTime := if isStep mean then t + BitVec.ofInt 32 mean else t

/-- An entry after an evaluation with the mean: stepped with floor time, its freshness count reduced (R35). -/
def Peer.evaluated (mean : Int) (e : Peer) : Peer :=
  let e₁ :=
    if isStep mean ∧ e.presence ≠ .absent then
      { e with
        rxStart := e.rxStart + BitVec.ofInt 32 mean
        offset := e.offset.map fun o => o - BitVec.ofInt 32 mean }
    else e
  { e₁ with fresh := e.fresh - 1 }

/-- The part after an evaluation with the mean and the alignment it comes to. -/
def evaluated (mean : Int) (x : Align × Nat) (s : State) : State :=
  { s with
    ftu := { s.ftu with
      floorTime := timeAfter mean s.ftu.floorTime, slew := if isStep mean then 0 else mean
      align := x.1, streak := x.2 }
    peers := s.peers.map (Peer.evaluated mean) }

/-- The alignment state and the streak that an evaluation comes to (R38). -/
def alignmentNow (s : State) : Align × Nat :=
  if freshOffsets s = [] then (.alone, 0) else alignAfter s.ftu.align s.ftu.streak (meanNow s)

/-- ALIGNMENT_CHANGE, where the evaluation changes the state (R38). -/
def alignmentTold (mean : Int) (a b : Align) : List EventSpec :=
  if b = a then [] else [info .alignmentChange ([byteOf a.code, byteOf b.code] ++ be32 (BitVec.ofInt 32 mean))]

theorem fade_moveTime : fade ((moveTime mean s).modFtu fun f => { f with align := x.1, streak := x.2 })
    = evaluated mean x s := by
  have entries (far : isStep mean = true) : (s.peers.map fun e =>
      if e.presence = .absent then e else e.stepped (BitVec.ofInt 32 mean)).map
        (fun e => { e with fresh := e.fresh - 1 }) = s.peers.map (Peer.evaluated mean) := by
    rw [List.map_map]
    refine List.map_congr_left fun e _ => ?_
    by_cases absent : e.presence = .absent <;> simp [Peer.evaluated, Peer.stepped, far, absent]
  cases far : isStep mean with
  | true =>
    rw [moveTime, if_pos far, evaluated, timeAfter, if_pos far, if_pos far, ← entries far]
    rfl
  | false =>
    have near : ¬ isStep mean = true := by rw [far]; exact Bool.false_ne_true
    have same : Peer.evaluated mean = fun e => { e with fresh := e.fresh - 1 } :=
      funext fun e => by simp [Peer.evaluated, far]
    rw [moveTime, if_neg near, evaluated, timeAfter, if_neg near, if_neg near, same]
    rfl

theorem setAlign_moveTime (events : s.hpi.events.length ≤ 32) : fade (setAlign x mean (moveTime mean s))
    = told (alignmentTold mean s.ftu.align x.1) (evaluated mean x s) := by
  have before : (moveTime mean s).ftu.align = s.ftu.align := by unfold moveTime; split <;> rfl
  have room : (moveTime mean s).hpi.events.length ≤ 32 := by
    have : (moveTime mean s).hpi = s.hpi := by unfold moveTime; split <;> rfl
    rw [this]
    exact events
  rw [setAlign, before, alignmentTold]
  split
  · rw [told_nil (by exact events), fade_moveTime]
  · rw [raise_eq_told _ _ (by exact room)]
    have later (l : List EventSpec) (v : State) : fade (told l v) = told l (fade v) := rfl
    rw [later, fade_moveTime]
    rfl

theorem evaluateFloorTime_eq (events : s.hpi.events.length ≤ 32) : evaluateFloorTime s
    = told (alignmentTold (meanNow s) s.ftu.align (alignmentNow s).1) (evaluated (meanNow s) (alignmentNow s) s) := by
  unfold evaluateFloorTime alignmentNow meanNow
  cases freshOffsets s with
  | nil => exact setAlign_moveTime (mean := 0) (x := (.alone, 0)) events
  | cons o rest => exact setAlign_moveTime events

theorem stepTaken_eq (s : State) : stepTaken s = isStep (meanNow s) := by
  unfold stepTaken meanNow
  cases freshOffsets s <;> rfl

/-- The table of R38, read by how far the mean is from 0. -/
theorem alignmentNow_eq (s : State) : alignmentNow s =
    (if freshOffsets s = [] then .alone
     else if isStep (meanNow s) || decide (10 < (meanNow s).natAbs) then .aligning
     else if s.ftu.align = .aligned then .aligned
     else if s.ftu.align = .aligning ∧ (meanNow s).natAbs ≤ 2 ∧ 2 ≤ s.ftu.streak then .aligned
     else .aligning,
     if freshOffsets s ≠ [] ∧ (meanNow s).natAbs ≤ 2 then min 3 (s.ftu.streak + 1) else 0) := by
  unfold alignmentNow
  by_cases none_ : freshOffsets s = []
  · simp [none_]
  · simp only [none_, if_false, ne_eq, not_false_eq_true, true_and]
    unfold alignAfter isStep
    generalize (meanNow s).natAbs = n
    have cases_ : 500 < n ∨ n ≤ 2 ∨ 2 < n ∧ n ≤ 10 ∨ 10 < n ∧ n ≤ 500 := by omega
    rcases cases_ with far | near | ⟨lo, hi⟩ | ⟨lo, hi⟩
    · have : ¬ n ≤ 2 := by omega
      simp [far, this]
    · have : ¬ 500 < n := by omega
      have : ¬ 10 < n := by omega
      cases s.ftu.align <;> simp [*]
    · have : ¬ 500 < n := by omega
      have : ¬ 10 < n := by omega
      have : ¬ n ≤ 2 := by omega
      cases s.ftu.align <;> simp [*]
    · have : ¬ 500 < n := by omega
      have : ¬ n ≤ 10 := by omega
      have : ¬ n ≤ 2 := by omega
      simp [*]

end Sys2Proof.Machine
end

section
/-! What follows the evaluation at a boundary: the STATUS, the re-evaluation of the own claim, and the armed transfer
that a step of floor time reaches (R31, R99, R122). -/

namespace Sys2Proof.Machine

variable {s u w r : State} {mean : Int} {l : List EventSpec} {row : Instr} {id : PropId} {dir : Direction}
  {ex : FloorTime}

/-! ## The STATUS and the own view behind the evaluation (R31) -/

/-- The part with the STATUS slot at `status`. -/
def withSlot (status : Option TxEntry) (u : State) : State := u.modLink fun k => { k with status := status }

/-- The part with the last-known floor mode at `m`. -/
def withFloorMode (m : Option Mode) (u : State) : State := u.modTrc fun t => { t with lastKnown := m }

/-- With no attempt in progress, a part that is RUNNING queues its STATUS, and one that is not leaves the slot. -/
theorem queueStatus_slot (inv : Inv s) (free : s.link.attempt = none) (link : u.link = s.link)
    (running : u.hpi.running = s.hpi.running) : ∃ status, queueStatus (told l u) = told l (withSlot status u)
      ∧ (s.hpi.running = true → status = (withStatus u).link.status)
      ∧ (s.hpi.running = false → status = s.link.status) := by
  rw [queueStatus_told]
  cases runs : s.hpi.running with
  | true =>
    have live : s.link.state ≠ .listen := fun deaf => by
      rw [inv.listen.mp deaf] at runs
      exact Bool.false_ne_true runs
    refine ⟨(withStatus u).link.status, ?_, fun _ => rfl, fun h => absurd h (by simp)⟩
    rw [queueStatus_eq ⟨running.trans runs, by rw [link]; exact live, by rw [link]; exact free⟩]
    rfl
  | false =>
    refine ⟨u.link.status, ?_, fun h => absurd h (by simp), fun _ => congrArg Link.status link⟩
    rw [queueStatus, running, runs, Bool.false_and, if_neg Bool.false_ne_true]
    rfl

/-- An evaluation changes no value that a peer has reported. -/
theorem counted_evaluated (peers : u.peers = s.peers.map (Peer.evaluated mean)) :
    (presentPeers u).map Peer.counted = (presentPeers s).map Peer.counted := by
  have presence (e : Peer) : (Peer.evaluated mean e).presence = e.presence := by
    unfold Peer.evaluated; dsimp only; split <;> rfl
  have counted (e : Peer) : (Peer.evaluated mean e).counted = e.counted := by
    unfold Peer.evaluated; dsimp only; split <;> rfl
  rw [presentPeers, peers, List.filter_map, List.map_map, presentPeers]
  simp only [Function.comp_def, presence, counted]

/-! ## The execution behind a step (R99) -/

/-- A station with no run in progress executes its transfer with nothing to end. -/
theorem executesFrom_idle (idle : w.tsq.state.inProgress = false) (holds : RunHoldsClaim w)
    (events : w.hpi.events.length ≤ 32) (kept : ClaimKept w) (act : w.trc.activity = .armed id dir ex)
    (runs : exec row r = .next (settle (executeTransfer id dir w))) : ExecutesFrom r row id dir w.link w := by
  have unclaimed : runClaim w = none := by
    rw [RunHoldsClaim, idle] at holds
    simpa using holds.symm
  have stands : runOver .transfer w.link w.link.status w.trc w = w := by
    simp only [runOver, idle, runReleased, unclaimed, wdOver, Bool.not_false, Bool.and_true, Bool.false_eq_true,
      if_false]
  have ended : abortRun .transfer w
      = told (runOverTold .transfer w) (runOver .transfer w.link w.link.status w.trc w) := by
    rw [stands, runOverTold, idle, if_neg Bool.false_ne_true, told_nil events, abortRun]
    exact if_neg (by rw [idle]; exact Bool.false_ne_true)
  have noStatus (h : w.tsq.state.inProgress = true) :
      StatusQueued (runOver .transfer w.link w.link.status w.trc w) := by rw [idle] at h; cases h
  refine ⟨?_, ?_⟩
  · intro toInverter hold
    have last := executeTransfer_held (id := id) ended toInverter (Option.isSome_iff_ne_none.mpr hold)
    rw [last] at runs
    exact runOver_settled (fun _ => kept) rfl rfl rfl rfl noStatus (fun _ => rfl) runs
  · intro target clear aim away
    have clear' : dir = .toInverter → w.trc.holdTimer.isSome = false := fun h => by rw [clear h]; rfl
    have aims : target = transferTarget dir (runOver .transfer w.link w.link.status w.trc w) := by
      cases dir <;> exact aim
    have last := executeTransfer_switches (id := id) ended clear' act aims away
    rw [last] at runs
    exact runOver_settled (fun _ => kept) rfl rfl rfl rfl noStatus (fun _ => rfl) runs

/-- A station executes its transfer from where it stands; only a run to end needs room for its RELEASE. -/
theorem executesFrom_standing (holds : RunHoldsClaim w) (running : w.hpi.running = true)
    (events : w.hpi.events.length ≤ 32) (kept : ClaimKept w) (live : w.link.state ≠ .listen)
    (free : w.link.attempt = none) (room : w.tsq.state.inProgress = true → w.link.coord.length < 8)
    (act : w.trc.activity = .armed id dir ex)
    (runs : exec row r = .next (settle (executeTransfer id dir w))) : ExecutesFrom r row id dir w.link w := by
  cases inProgress : w.tsq.state.inProgress with
  | false => exact executesFrom_idle inProgress holds events kept act runs
  | true =>
    refine executesFrom_of_settle (i := id) (d := dir) (ex := ex) (p := w.trc.proposal) holds running events
      (fun _ => kept) live free (room inProgress) rfl ?_
    have stands : { w.trc with activity := .armed id dir ex, proposal := w.trc.proposal } = w.trc := by rw [← act]
    rw [stands]
    exact runs

/-! ## The row -/

/-- The part after the evaluation, its STATUS and the re-evaluation of the own claim. -/
def boundarySettled (s : State) : State :=
  settle (queueStatus (evaluateFloorTime (s.modFtu fun f => { f with boundaryDue := false })))

theorem boundary_idle (none_ : s.ftu.boundaryDue = false) : exec .boundaryEvaluation s = .next s :=
  congrArg Host.Outcome.next (if_neg (by rw [none_]; exact Bool.false_ne_true))

theorem boundary_runs (due : s.ftu.boundaryDue = true) : exec .boundaryEvaluation s
    = .next (if isStep (meanNow s) then executeReached (boundarySettled s) else boundarySettled s) := by
  have taken := stepTaken_eq s
  exact congrArg Host.Outcome.next ((if_pos due).trans (by rw [taken]; rfl))

/-- The execute time of an ARMED station has not come: the station stays ARMED (R99). -/
theorem executeReached_ahead (early : ∀ id dir t, s.trc.activity = .armed id dir t → Ahead t s) :
    executeReached s = s := by
  unfold executeReached
  split
  case h_1 id dir t armed => exact if_neg fun come => reached_iff.mp come (early id dir t armed)
  all_goals rfl

theorem executeReached_come (armed : s.trc.activity = .armed id dir ex) (come : ¬ Ahead ex s) :
    executeReached s = settle (executeTransfer id dir s) := by
  rw [executeReached, armed]
  exact if_pos (reached_iff.mpr come)

theorem boundary_stays (due : s.ftu.boundaryDue = true) (settles : boundarySettled s = w)
    (early : ∀ id dir t, w.trc.activity = .armed id dir t → isStep (meanNow s) = true → Ahead t w) :
    exec .boundaryEvaluation s = .next w := by
  rw [boundary_runs due, settles]
  split
  case isTrue step => rw [executeReached_ahead fun id dir t armed => early id dir t armed step]
  case isFalse => rfl

theorem boundary_executes (due : s.ftu.boundaryDue = true) (settles : boundarySettled s = w)
    (step : isStep (meanNow s) = true) (armed : w.trc.activity = .armed id dir ex) (come : ¬ Ahead ex w) :
    exec .boundaryEvaluation s = .next (settle (executeTransfer id dir w)) := by
  rw [boundary_runs due, settles, if_pos step, executeReached_come armed come]

/-- The part after the evaluation, before the STATUS. -/
def boundaryEvaluated (s : State) : State :=
  evaluated (meanNow s) (alignmentNow s) (s.modFtu fun f => { f with boundaryDue := false })

/-- The events of the evaluation. -/
def boundaryTold (s : State) : List EventSpec := alignmentTold (meanNow s) s.ftu.align (alignmentNow s).1

/-- The STATUS slot after the row: a STATUS of the values that the evaluation has left, or what stood there. -/
def SlotAfter (status : Option TxEntry) (s : State) : Prop :=
  (s.hpi.running = true → status = (withStatus (boundaryEvaluated s)).link.status)
    ∧ (s.hpi.running = false → status = s.link.status)

/-- The part after a re-evaluation that keeps the own claim. -/
def boundaryKept (status : Option TxEntry) (m : Option Mode) (s : State) : State :=
  told (boundaryTold s) (withFloorMode m (withSlot status (boundaryEvaluated s)))

/-- The part after a re-evaluation that finds the TEST claim `c` failing for `r`. -/
def boundaryLost (c : Claim) (r : Reason) (status : Option TxEntry) (m n : Option Mode) (s : State) : State :=
  told (boundaryTold s ++ lossTold c r s)
    (withFloorMode n (claimLost c r (withFloorMode m (withSlot status (boundaryEvaluated s)))))

section
variable {status : Option TxEntry} {m n : Option Mode} {c : Claim} {reason : Reason}

theorem boundarySettled_told (inv : Inv s) (free : s.link.attempt = none) : ∃ status, SlotAfter status s ∧
    boundarySettled s = settle (told (boundaryTold s) (withSlot status (boundaryEvaluated s))) := by
  obtain ⟨status, queues, slot⟩ := queueStatus_slot (l := boundaryTold s) (u := boundaryEvaluated s) inv free rfl rfl
  refine ⟨status, slot, ?_⟩
  rw [boundarySettled, evaluateFloorTime_eq (by exact inv.events)]
  exact congrArg settle queues

/-- The evaluation changes nothing that the re-evaluation of a claim reads. -/
theorem boundary_sameView (status : Option TxEntry) (m : Option Mode) :
    SameView s (withFloorMode m (withSlot status (boundaryEvaluated s))) :=
  ⟨rfl, rfl, rfl, rfl, counted_evaluated (mean := meanNow s) rfl, rfl, rfl⟩

theorem boundarySettled_kept (inv : Inv s) (free : s.link.attempt = none) (keeps : ClaimKept s) :
    ∃ status m, SlotAfter status s ∧ boundarySettled s = boundaryKept status m s := by
  obtain ⟨status, slot, settles⟩ := boundarySettled_told inv free
  obtain ⟨m, settled⟩ := settle_told (l := boundaryTold s) (u := withSlot status (boundaryEvaluated s))
    ((boundary_sameView status s.trc.lastKnown).claimKept rfl keeps)
  exact ⟨status, m, slot, settles.trans settled⟩

theorem boundarySettled_lost (inv : Inv s) (online : OnLine s) (room : s.link.coord.length < 8)
    (fails : TestClaimFails c reason s) :
    ∃ status m n, SlotAfter status s ∧ boundarySettled s = boundaryLost c reason status m n s := by
  obtain ⟨status, slot, settles⟩ := boundarySettled_told inv online.2.2
  obtain ⟨lva, test, granted, loose, underway, check⟩ := fails
  obtain ⟨m, n, settled⟩ := settle_lost (l := boundaryTold s) (u := withSlot status (boundaryEvaluated s)) online room
    ⟨lva, test, granted, loose, underway,
      ((boundary_sameView status s.trc.lastKnown).keepCheck c.time).trans check⟩
  exact ⟨status, m, n, slot, settles.trans settled⟩

/-- What the loss leaves, as `RunLost` says it of the link as it stood. -/
theorem runLost_boundary (fails : TestClaimFails c reason s) :
    RunLost c reason s.link s (boundaryLost c reason status m n s) := by
  obtain ⟨-, test, granted, -, underway, -⟩ := fails
  exact runLost_of (u := withFloorMode m (withSlot status (boundaryEvaluated s))) test granted underway rfl rfl rfl rfl
    rfl rfl rfl rfl rfl

/-! ## The execution from what the row has left -/

theorem boundaryKept_executes (inv : Inv s) (free : s.link.attempt = none) (running : s.hpi.running = true)
    (keeps : ClaimKept s) (holds : RunHoldsClaim s) (room : s.tsq.state.inProgress = true → s.link.coord.length < 8)
    (armed : s.trc.activity = .armed id dir ex)
    (runs : exec row r = .next (settle (executeTransfer id dir (boundaryKept status m s)))) :
    ExecutesFrom r row id dir (boundaryKept status m s).link (boundaryKept status m s) := by
  have live : s.link.state ≠ .listen := fun deaf => by
    rw [inv.listen.mp deaf] at running
    exact Bool.false_ne_true running
  exact executesFrom_standing (w := boundaryKept status m s) holds running told_events_le
    (claimKept_told ((boundary_sameView status m).claimKept rfl keeps)) live free room armed runs

theorem boundaryLost_executes (online : OnLine s) (fails : TestClaimFails c reason s)
    (armed : s.trc.activity = .armed id dir ex)
    (runs : exec row r = .next (settle (executeTransfer id dir (boundaryLost c reason status m n s)))) :
    ExecutesFrom r row id dir (boundaryLost c reason status m n s).link (boundaryLost c reason status m n s) := by
  obtain ⟨-, link, -, -⟩ := runLost_boundary (status := status) (m := m) (n := n) fails
  obtain ⟨running, active, free⟩ := online
  have live : (boundaryLost c reason status m n s).link.state ≠ .listen := fun deaf => by
    have state := (congrArg Link.state link).trans active
    cases state.symm.trans deaf
  exact executesFrom_standing (w := boundaryLost c reason status m n s) rfl running told_events_le (claimKept_none rfl)
    live ((congrArg Link.attempt link).trans free) (fun h => Bool.noConfusion h) armed runs

end

/-- Settles O45: the evaluation in closed form, then the claim kept or lost on the view it leaves, then the execution
from there where the step has reached the execute time. -/
theorem boundaryEvaluationAligns : Obligations.BoundaryEvaluationAligns := by
  intro s inv free
  refine ⟨boundary_idle, fun due => ?_⟩
  intro offsets mean step far streak align now told_ s₁ aligned kept lost
  have offsetsIs : freshOffsets s = offsets := freshOffsets_eq s
  have meanIs : meanNow s = mean := by rw [meanNow, offsetsIs]; rfl
  have alignIs : alignmentNow s = (align, streak) := by
    rw [alignmentNow_eq, meanIs, offsetsIs]
    rfl
  have stepIs : isStep (meanNow s) = step := by rw [meanIs]; rfl
  have toldIs : boundaryTold s = told_ := by rw [boundaryTold, meanIs, alignIs]; rfl
  have leaves : boundaryEvaluated s
      = evaluated mean (align, streak) (s.modFtu fun f => { f with boundaryDue := false }) := by
    rw [boundaryEvaluated, meanIs, alignIs]
  have time : (boundaryEvaluated s).ftu.floorTime = now := by rw [leaves]; rfl
  have keptIs {status m} (slot : SlotAfter status s) : kept (boundaryKept status m s) := by
    obtain ⟨slotRuns, slotIdle⟩ := slot
    rw [leaves] at slotRuns
    rw [boundaryKept, toldIs, leaves]
    exact ⟨⟨rfl, rfl, portKept_told rfl, rfl⟩, raised_told _ ⟨rfl, rfl, rfl, rfl, rfl, rfl, rfl, rfl⟩, rfl,
      fun running => statusQueued_of (slotRuns running),
      fun idle => congrArg (fun e => { s.link with status := e }) (slotIdle idle), linesKept_told rfl, sameBut_of_eq⟩
  have lostIs {status m n c r} (fails : TestClaimFails c r s) : lost c r (boundaryLost c r status m n s) := by
    have loss := runLost_boundary (status := status) (m := m) (n := n) fails
    rw [boundaryLost, toldIs, leaves] at loss ⊢
    exact ⟨⟨rfl, rfl, portKept_told rfl, rfl⟩, raised_told _ ⟨rfl, rfl, rfl, rfl, rfl, rfl, rfl, rfl⟩, loss,
      sameBut_of_eq⟩
  have aheadIs (t : FloorTime) : Ahead t (boundaryEvaluated s) = Ahead t s₁ :=
    congrArg (fun n : FloorTime => (n - t).toInt < 0) time
  refine ⟨fun early => ⟨fun keeps => ?_, fun c r online room fails => ?_⟩,
    fun id dir ex running armed stepped come => ⟨fun keeps holds room => ?_, fun c r online room fails => ?_⟩⟩
  · obtain ⟨status, m, slot, settled⟩ := boundarySettled_kept inv free keeps
    exact ⟨_, boundary_stays due settled fun id dir t armed step =>
      (aheadIs t).mpr (early id dir t armed (stepIs.symm.trans step)), keptIs slot⟩
  · obtain ⟨status, m, n, -, settled⟩ := boundarySettled_lost inv online room fails
    exact ⟨_, boundary_stays due settled fun id dir t armed step =>
      (aheadIs t).mpr (early id dir t armed (stepIs.symm.trans step)), lostIs fails⟩
  · obtain ⟨status, m, slot, settled⟩ := boundarySettled_kept inv free keeps
    exact ⟨_, keptIs slot, boundaryKept_executes inv free running keeps holds room armed
      (boundary_executes due settled (stepIs.trans stepped) armed fun ahead => come ((aheadIs ex).mp ahead))⟩
  · obtain ⟨status, m, n, -, settled⟩ := boundarySettled_lost inv online room fails
    exact ⟨_, lostIs fails, boundaryLost_executes online fails armed
      (boundary_executes due settled (stepIs.trans stepped) armed fun ahead => come ((aheadIs ex).mp ahead))⟩

end Sys2Proof.Machine
end

section
/-! SET CABINET: the settings as their bytes carry them, and what an accepted one does to the alarm condition and to the
preview of health (R50, R61, R83, R175). -/

namespace Sys2Proof.Machine

variable {s : State}

/-! ## The settings in their bytes (R175, R182) -/

theorem nat16_be16 (w : BitVec 16) :
    nat16 (BitVec.ofNat 8 (w.toNat / 256)) (BitVec.ofNat 8 w.toNat) = w.toNat := nat16_u16 w.isLt

theorem int16_be16 (w : BitVec 16) :
    int16 (BitVec.ofNat 8 (w.toNat / 256)) (BitVec.ofNat 8 w.toNat) = w.toInt := by
  rw [int16, nat16_be16, BitVec.ofNat_toNat, BitVec.setWidth_eq]

section
variable (rated cRated vNom penalty assumed floatV floatI weakTh inspectTh replaceTh weakCap testInt periodInt
  hornTerm : BitVec 16) (life k qual mode timeout : Byte)

/-- The argument bytes of SET CABINET (R182). -/
def cabinetBytes : List Byte :=
  be16 rated ++ be16 cRated ++ be16 vNom ++ [life] ++ be16 penalty ++ [k] ++ be16 assumed ++ be16 floatV
    ++ be16 floatI ++ be16 weakTh ++ be16 inspectTh ++ be16 replaceTh ++ be16 weakCap ++ be16 testInt
    ++ be16 periodInt ++ [qual, mode] ++ be16 hornTerm ++ [timeout]

theorem cabinetBytes_length : (cabinetBytes rated cRated vNom penalty assumed floatV floatI weakTh inspectTh replaceTh
    weakCap testInt periodInt hornTerm life k qual mode timeout).length = 33 := by
  simp only [cabinetBytes, be16, List.cons_append, List.nil_append, List.length_cons, List.length_nil]

/-- The settings that the argument bytes carry, before any clamping. -/
def cabinetCarried (m : AlarmMode) : CabCfg :=
  { rated := some rated.toNat, cRated := some cRated.toNat, vNom := some vNom.toNat, life := life.toNat
    cyclePenalty := penalty.toNat, k := k.toNat, assumed := assumed.toInt, floatV := floatV.toNat
    floatI := floatI.toNat, weakTh := weakTh.toNat, inspectTh := inspectTh.toNat, replaceTh := replaceTh.toNat
    weakCap := weakCap.toNat, testInt := testInt.toNat, periodInt := periodInt.toNat, qualMs := qual.toNat
    alarmMode := m, hornTerm := hornTerm.toNat, stepTimeout := timeout.toNat }

/-- The bytes are read back field by field; a zero figure or an alarm mode outside its codes is none. -/
theorem cabinetArgs_bytes : cabinetArgs (cabinetBytes rated cRated vNom penalty assumed floatV floatI weakTh inspectTh
      replaceTh weakCap testInt periodInt hornTerm life k qual mode timeout)
    = if rated = 0 ∨ cRated = 0 ∨ vNom = 0 then none
      else (AlarmMode.ofCode mode.toNat).map (cabinetCarried rated cRated vNom penalty assumed floatV floatI weakTh
        inspectTh replaceTh weakCap testInt periodInt hornTerm life k qual timeout) := by
  have zero (w : BitVec 16) : w.toNat = 0 ↔ w = 0 := (BitVec.toNat_inj (y := 0#16)).symm.trans Iff.rfl |>.symm
  simp only [cabinetArgs, wordAt, byteAt, signedAt, cabinetBytes, be16, List.cons_append, List.nil_append,
    List.getD_cons_zero, List.getD_cons_succ, Nat.reduceAdd, nat16_be16, int16_be16, zero]
  rfl

/-- What SET CABINET stores: each setting within its range. -/
theorem cabinetCarried_clamped (m : AlarmMode) (hr : rated ≠ 0) (hc : cRated ≠ 0) (hv : vNom ≠ 0) :
    (cabinetCarried rated cRated vNom penalty assumed floatV floatI weakTh inspectTh replaceTh weakCap testInt
      periodInt hornTerm life k qual timeout m).clamped
    = { rated := some rated.toNat, cRated := some (min 5000 cRated.toNat)
        vNom := some (min 1000 vNom.toNat), life := max 1 (min 30 life.toNat)
        cyclePenalty := penalty.toNat, k := max 1 (min 32 k.toNat)
        assumed := max (-400) (min 850 assumed.toInt), floatV := floatV.toNat
        floatI := min 1000 floatI.toNat, weakTh := min 1000 weakTh.toNat
        inspectTh := min 1000 inspectTh.toNat, replaceTh := min 1000 replaceTh.toNat
        weakCap := min 1000 weakCap.toNat, testInt := max 1 (min 730 testInt.toNat)
        periodInt := max 1 (min 730 periodInt.toNat), qualMs := max 5 (min 200 qual.toNat)
        alarmMode := m, hornTerm := min 600 hornTerm.toNat
        stepTimeout := max 1 (min 60 timeout.toNat) } := by
  have positive {w : BitVec 16} (h : w ≠ 0) : 1 ≤ w.toNat :=
    Nat.pos_of_ne_zero fun z => h (BitVec.eq_of_toNat_eq z)
  have full (w : BitVec 16) : clampNat 0 65535 w.toNat = w.toNat := by
    have := w.isLt
    simp only [clampNat]
    omega
  have hr : clampNat 1 65535 rated.toNat = rated.toNat := by
    have := rated.isLt
    have := positive hr
    simp only [clampNat]
    omega
  have hc : clampNat 1 5000 cRated.toNat = min 5000 cRated.toNat := by
    have := positive hc
    simp only [clampNat]
    omega
  have hv : clampNat 1 1000 vNom.toNat = min 1000 vNom.toNat := by
    have := positive hv
    simp only [clampNat]
    omega
  simp only [CabCfg.clamped, cabinetCarried, Option.map_some, hr, hc, hv, full]
  simp only [clampNat, clampInt, Nat.zero_max]

/-- The answer tells CLAMPED exactly where a setting lay outside its range (R174). -/
theorem cabinetCarried_inRange (m : AlarmMode) (hr : rated ≠ 0) (hc : cRated ≠ 0) (hv : vNom ≠ 0) :
    (cabinetCarried rated cRated vNom penalty assumed floatV floatI weakTh inspectTh replaceTh weakCap testInt
      periodInt hornTerm life k qual timeout m).clamped = cabinetCarried rated cRated vNom penalty assumed floatV
        floatI weakTh inspectTh replaceTh weakCap testInt periodInt hornTerm life k qual timeout m
    ↔ cRated.toNat ≤ 5000 ∧ vNom.toNat ≤ 1000 ∧ 1 ≤ life.toNat ∧ life.toNat ≤ 30 ∧ 1 ≤ k.toNat
        ∧ k.toNat ≤ 32 ∧ -400 ≤ assumed.toInt ∧ assumed.toInt ≤ 850 ∧ floatI.toNat ≤ 1000
        ∧ weakTh.toNat ≤ 1000 ∧ inspectTh.toNat ≤ 1000 ∧ replaceTh.toNat ≤ 1000
        ∧ weakCap.toNat ≤ 1000 ∧ 1 ≤ testInt.toNat ∧ testInt.toNat ≤ 730 ∧ 1 ≤ periodInt.toNat
        ∧ periodInt.toNat ≤ 730 ∧ 5 ≤ qual.toNat ∧ qual.toNat ≤ 200 ∧ hornTerm.toNat ≤ 600
        ∧ 1 ≤ timeout.toNat ∧ timeout.toNat ≤ 60 := by
  have within {lo hi n : Nat} (h : lo ≤ hi) : max lo (min hi n) = n ↔ lo ≤ n ∧ n ≤ hi := by omega
  have withinInt {n : Int} : max (-400) (min 850 n) = n ↔ -400 ≤ n ∧ n ≤ 850 := by omega
  rw [cabinetCarried_clamped _ _ _ _ _ _ _ _ _ _ _ _ _ _ _ _ _ _ _ hr hc hv]
  simp only [cabinetCarried, CabCfg.mk.injEq, Option.some.injEq, true_and, min_eq_right_iff, withinInt,
    within (show 1 ≤ 30 by decide), within (show 1 ≤ 32 by decide), within (show 1 ≤ 730 by decide),
    within (show 5 ≤ 200 by decide), within (show 1 ≤ 60 by decide), and_assoc]

end

/-- A window of the length that SET CABINET has. -/
theorem argBytes_cabinet {args : List Byte} (length : args.length = 33) :
    argBytes (byteOf 33 :: args) = some args := if_pos length.symm

/-! ## The preview and the alarm condition (R50, R61, R83) -/

theorem previewHealth_eq (s : State) : previewHealth s = s.modBau fun b =>
    { b with
      hAge := ageHealth b.carry.u (uRated s), h := healthNow s
      weak := weakOf (healthNow s) b.carry.verdict s.hpi.cab.weakTh } := by
  have written (a : Bau → Nat) (h : Nat) : refreshWeak (s.modBau fun b => { b with hAge := a b, h := h })
      = s.modBau fun b => { b with hAge := a b, h := h, weak := weakOf h b.carry.verdict s.hpi.cab.weakTh } := rfl
  exact written (fun b => ageHealth b.carry.u (uRated s)) (healthNow s)

/-- One event behind a queue of any length: it enters a queue that has room. -/
theorem raise_events (k : EventKind) (d : List Byte) (s : State) :
    (raise k d s).hpi.events
      = (s.hpi.events ++ [(specOf k d).record s]).take (max 32 s.hpi.events.length) := by
  have cls : classOf s k d = ((specOf k d).record s).cls := by
    simp only [EventSpec.record, specOf, classOf]
    congr
  have horn (c : Prop) [Decidable c] : (if c then soundHorn s else s).hpi = s.hpi := by split <;> rfl
  have entered : (raise k d s).hpi.events
      = if s.hpi.events.length < 32 then s.hpi.events ++ [(specOf k d).record s] else s.hpi.events := by
    simp only [raise, queueEvent, eventDepth, horn, cls]
    split <;> simp only [State.modHpi_hpi, horn]
    rfl
  rw [entered]
  split
  · rw [List.take_of_length_le (by simp only [List.length_append, List.length_singleton]; omega)]
  · rw [List.take_append_of_le_length (by omega), List.take_of_length_le (by omega)]

/-- The account that a preview leaves, from the account and the settings it reads. -/
def previewed (b : Bau) (c : CabCfg) : Bau :=
  let hAge := ageHealth b.carry.u (c.life * 8415360)
  { b with
    hAge := hAge, h := min hAge b.carry.hTest, weak := weakOf (min hAge b.carry.hTest) b.carry.verdict c.weakTh }

theorem previewHealth_previewed (s : State) : previewHealth s = { s with bau := previewed s.bau s.hpi.cab } := by
  rw [previewHealth_eq]
  simp only [State.modBau, healthNow, uRated, previewed]

/-- The part with the settings `c` of an accepted SET CABINET, T_f assumed where it is not initialised (R61, R175). -/
def cabinetStored (c : CabCfg) (window : List Byte) (s : State) : State :=
  { s with
    bau := { s.bau with tf := if s.bau.tfInit then s.bau.tf else c.assumed }
    hpi := { s.hpi with command := some (0x02 :: window), response := none, cab := c, configured := true } }

theorem assumeTemperature_stored (c : CabCfg) (window : List Byte) (s : State) :
    assumeTemperature ((openCommand 0x02 window s).modHpi fun h => { h with cab := c, configured := true })
      = cabinetStored c window s := by
  unfold assumeTemperature cabinetStored
  refine congrArg (fun b => { s with
    bau := b
    hpi := { s.hpi with command := some (0x02 :: window), response := none, cab := c, configured := true } }) ?_
  show (if s.bau.tfInit then s.bau else { s.bau with tf := c.assumed }) = _
  split <;> rfl

theorem setCabinet_runs {c : CabCfg} {args : List Byte} (length : args.length = 33)
    (stopped : s.hpi.running = false) (settings : cabinetArgs args = some c) :
    exec (.setCabinet (byteOf 33 :: args)) s = .next (respond (clampReply (decide (c.clamped ≠ c)))
      (previewHealth (changeAlarmMode s.hpi.cab.alarmMode (cabinetStored c.clamped (byteOf 33 :: args) s)))) := by
  have accepted : TakenIn.accepts .configuring s = true := by rw [TakenIn.accepts, stopped]; rfl
  refine congrArg Host.Outcome.next ((hostCommand_of_taken (rule := ruleSetCabinet) (argBytes_cabinet length)
    (by simp [len, length]) accepted).trans ?_)
  rw [ruleSetCabinet, settings]
  dsimp only
  rw [assumeTemperature_stored]
  rfl

/-- EDGE to LEVEL takes the condition again: an active input that the latch does not hold is told (R50). -/
theorem changeAlarmMode_toLevel (edge : s.hpi.cab.alarmMode = .level) :
    changeAlarmMode .edge s
      = if s.clu.alarmIn.qual && !s.clu.alarmLatch then raise .alarmInput [1#8, 1#8] s else s := by
  have told_ (active : s.clu.alarmIn.qual = true) : tellAlarmInput s = raise .alarmInput [1#8, 1#8] s := by
    rw [tellAlarmInput, edge, active]
    rfl
  simp only [changeAlarmMode, edge]
  split <;> rename_i active
  · exact told_ (Bool.and_eq_true_iff.mp active).1
  · rfl

/-- LEVEL to EDGE clears the latch (R50). -/
theorem changeAlarmMode_toEdge (level : s.hpi.cab.alarmMode = .edge) :
    changeAlarmMode .level s = s.modClu fun c => { c with alarmLatch := false } := by
  simp only [changeAlarmMode, level]

theorem changeAlarmMode_same (s : State) : changeAlarmMode s.hpi.cab.alarmMode s = s := by
  unfold changeAlarmMode
  cases s.hpi.cab.alarmMode <;> rfl

/-- A change of alarm mode changes the lines and the event queue alone. -/
theorem changeAlarmMode_frame (before : AlarmMode) (s : State) : ∃ clu events lost,
    changeAlarmMode before s
      = { s with clu := clu, hpi := { s.hpi with events := events, eventsLost := lost } } := by
  have told_ (k : EventKind) (d : List Byte) : ∃ clu events lost,
      raise k d s = { s with clu := clu, hpi := { s.hpi with events := events, eventsLost := lost } } := by
    have port : (raise k d s).hpi
        = { s.hpi with events := (raise k d s).hpi.events, eventsLost := (raise k d s).hpi.eventsLost } := by
      unfold raise queueEvent soundHorn
      dsimp only
      repeat' split
      all_goals rfl
    exact ⟨_, _, _, (raise_frame k d s).trans
      (congrArg (fun h => { s with clu := (raise k d s).clu, hpi := h }) port)⟩
  unfold changeAlarmMode
  split
  · exact ⟨_, _, _, rfl⟩
  · split
    · exact told_ _ _
    · exact ⟨_, _, _, rfl⟩
  · exact ⟨_, _, _, rfl⟩
  · exact ⟨_, _, _, rfl⟩

/-- The part in which an accepted SET CABINET is answered, with the alarm condition taken over to the new mode. -/
def cabinetSet (c : CabCfg) (window : List Byte) (s : State) : State :=
  { changeAlarmMode s.hpi.cab.alarmMode (cabinetStored c window s) with
    bau := previewed { s.bau with tf := if s.bau.tfInit then s.bau.tf else c.assumed } c }

/-- The settings and the blocks that an accepted SET CABINET leaves. -/
theorem cabinetSet_frame (c : CabCfg) (window : List Byte) (s : State) : ∃ clu events lost, cabinetSet c window s
    = { s with
      clu := clu
      bau := previewed { s.bau with tf := if s.bau.tfInit then s.bau.tf else c.assumed } c
      hpi := { s.hpi with
        command := some (0x02 :: window), response := none, cab := c, configured := true, events := events
        eventsLost := lost } } := by
  obtain ⟨clu, events, lost, changed⟩ := changeAlarmMode_frame s.hpi.cab.alarmMode (cabinetStored c window s)
  refine ⟨clu, events, lost, ?_⟩
  rw [cabinetSet, changed]
  rfl

theorem setCabinet_answers {c : CabCfg} {args : List Byte} (length : args.length = 33)
    (stopped : s.hpi.running = false) (settings : cabinetArgs args = some c) :
    exec (.setCabinet (byteOf 33 :: args)) s
      = .next (respond (clampReply (decide (c.clamped ≠ c))) (cabinetSet c.clamped (byteOf 33 :: args) s)) := by
  have preview : previewHealth (changeAlarmMode s.hpi.cab.alarmMode (cabinetStored c.clamped (byteOf 33 :: args) s))
      = cabinetSet c.clamped (byteOf 33 :: args) s := by
    obtain ⟨clu, events, lost, changed⟩ :=
      changeAlarmMode_frame s.hpi.cab.alarmMode (cabinetStored c.clamped (byteOf 33 :: args) s)
    rw [previewHealth_previewed, cabinetSet, changed]
    rfl
  rw [setCabinet_runs length stopped settings, preview]

/-- The lines and the event queue behind a SET CABINET, by the change of the alarm mode (R50). -/
theorem cabinetSet_lines (c : CabCfg) (window : List Byte) (s : State) :
    (s.hpi.cab.alarmMode = .level → c.alarmMode = .edge →
      (cabinetSet c window s).clu = { s.clu with alarmLatch := false }
        ∧ (cabinetSet c window s).hpi.events = s.hpi.events) ∧
    (s.hpi.cab.alarmMode = c.alarmMode →
      (cabinetSet c window s).clu = s.clu ∧ (cabinetSet c window s).hpi.events = s.hpi.events) ∧
    (s.hpi.cab.alarmMode = .edge → c.alarmMode = .level →
      LinesKept s (cabinetSet c window s) ∧ (cabinetSet c window s).hpi.events
        = if s.clu.alarmIn.qual && !s.clu.alarmLatch then
            (s.hpi.events ++ [(notice .alarmInput [1#8, 1#8]).record s]).take (max 32 s.hpi.events.length)
          else s.hpi.events) := by
  have mode : (cabinetStored c window s).hpi.cab.alarmMode = c.alarmMode := rfl
  refine ⟨fun before after => ?_, fun same => ?_, fun before after => ?_⟩
  · rw [cabinetSet, before, changeAlarmMode_toEdge (mode.trans after)]
    exact ⟨rfl, rfl⟩
  · rw [cabinetSet, same.trans mode.symm, changeAlarmMode_same]
    exact ⟨rfl, rfl⟩
  · rw [cabinetSet, before, changeAlarmMode_toLevel (mode.trans after)]
    have condition : ((cabinetStored c window s).clu.alarmIn.qual && !(cabinetStored c window s).clu.alarmLatch)
        = (s.clu.alarmIn.qual && !s.clu.alarmLatch) := rfl
    rw [condition]
    split
    · refine ⟨linesKept_raise (s := s) _ _ (t := cabinetStored c window s) rfl, ?_⟩
      exact raise_events _ _ _
    · exact ⟨rfl, rfl⟩

/-- SET CABINET with a zero figure or an alarm mode outside its codes is answered BAD_ARGUMENT (R175). -/
theorem setCabinet_bad {args : List Byte} (length : args.length = 33)
    (stopped : s.hpi.running = false) (bad : cabinetArgs args = none) :
    exec (.setCabinet (byteOf 33 :: args)) s = .next (onlyAnswered 0x02 (byteOf 33 :: args) 5 0 [] s) := by
  have accepted : TakenIn.accepts .configuring s = true := by rw [TakenIn.accepts, stopped]; rfl
  have ruled : ruleSetCabinet args (openCommand 0x02 (byteOf 33 :: args) s)
      = (openCommand 0x02 (byteOf 33 :: args) s, badArgument) := by
    rw [ruleSetCabinet, bad]
  exact congrArg Host.Outcome.next
    (command_answers (argBytes_cabinet length) (by simp [len, length]) accepted ruled rfl rfl rfl rfl)

/-- SET CABINET that is accepted: what it stores, answers and leaves, by the settings it carries. -/
theorem setCabinet_leaves {c : CabCfg} {args : List Byte} (length : args.length = 33)
    (stopped : s.hpi.running = false) (settings : cabinetArgs args = some c) :
    ∃ t, exec (.setCabinet (byteOf 33 :: args)) s = .next t ∧
      t.hpi.cab = c.clamped ∧ t.hpi.configured = true ∧ t.hpi.running = false ∧ t.hpi.floor = s.hpi.floor ∧
      t.hpi.waiting = s.hpi.waiting ∧ t.hpi.shiftedOut = s.hpi.shiftedOut ∧
      Answered 0x02 (byteOf 33 :: args) (if c.clamped = c then 0 else 1) 0 [] t ∧
      t.bau = previewed { s.bau with tf := if s.bau.tfInit then s.bau.tf else c.clamped.assumed } c.clamped ∧
      (s.hpi.cab.alarmMode = .level → c.alarmMode = .edge →
        t.clu = { s.clu with alarmLatch := false } ∧ t.hpi.events = s.hpi.events) ∧
      (s.hpi.cab.alarmMode = c.alarmMode → t.clu = s.clu ∧ t.hpi.events = s.hpi.events) ∧
      (s.hpi.cab.alarmMode = .edge → c.alarmMode = .level →
        LinesKept s t ∧ t.hpi.events = if s.clu.alarmIn.qual && !s.clu.alarmLatch then
            (s.hpi.events ++ [(notice .alarmInput [1#8, 1#8]).record s]).take (max 32 s.hpi.events.length)
          else s.hpi.events) ∧
      SameBut [.hpi, .bau, .clu] s t := by
  have runs := setCabinet_answers length stopped settings
  have command : (cabinetSet c.clamped (byteOf 33 :: args) s).hpi.command = some (0x02 :: byteOf 33 :: args) := by
    obtain ⟨clu, events, lost, set_⟩ := cabinetSet_frame c.clamped (byteOf 33 :: args) s
    rw [set_]
  have answered : Answered 0x02 (byteOf 33 :: args) (if c.clamped = c then 0 else 1) 0 []
      (respond (clampReply (decide (c.clamped ≠ c))) (cabinetSet c.clamped (byteOf 33 :: args) s)) := by
    by_cases inRange : c.clamped = c
    · rw [if_pos inRange, decide_eq_false (not_not_intro inRange)]
      exact answered_respond command rfl rfl rfl rfl
    · rw [if_neg inRange, decide_eq_true inRange]
      exact answered_respond command rfl rfl rfl rfl
  refine ⟨_, runs, ?_⟩
  obtain ⟨clu, events, lost, set_⟩ := cabinetSet_frame c.clamped (byteOf 33 :: args) s
  obtain ⟨toEdge, same, toLevel⟩ := cabinetSet_lines c.clamped (byteOf 33 :: args) s
  refine ⟨?_, ?_, ?_, ?_, ?_, ?_, answered, ?_, toEdge, same, toLevel, ?_⟩
  case refine_8 => rw [set_]; exact sameBut_of_eq
  all_goals rw [set_]
  · rfl
  · rfl
  · exact stopped
  · rfl
  · rfl
  · rfl
  · rfl

/-- Settles O9. -/
theorem setCabinetStoresAndPreviews : Obligations.SetCabinetStoresAndPreviews := by
  intro rated cRated vNom penalty assumed floatV floatI weakTh inspectTh replaceTh weakCap testInt periodInt hornTerm
    life k qual mode timeout s stopped window
  have args := cabinetArgs_bytes rated cRated vNom penalty assumed floatV floatI weakTh inspectTh replaceTh weakCap
    testInt periodInt hornTerm life k qual mode timeout
  have length := cabinetBytes_length rated cRated vNom penalty assumed floatV floatI weakTh inspectTh replaceTh weakCap
    testInt periodInt hornTerm life k qual mode timeout
  refine ⟨fun bad => ?_, fun hr hc hv coded => ?_⟩
  · refine setCabinet_bad length stopped (args.trans ?_)
    rcases bad with zero | zero | zero | ⟨level, edge⟩
    · exact if_pos (.inl zero)
    · exact if_pos (.inr (.inl zero))
    · exact if_pos (.inr (.inr zero))
    · have uncoded : AlarmMode.ofCode mode.toNat = none := by
        have notLevel : ¬ mode.toNat = 1 := fun h => level (BitVec.eq_of_toNat_eq h)
        have notEdge : ¬ mode.toNat = 2 := fun h => edge (BitVec.eq_of_toNat_eq h)
        rw [AlarmMode.ofCode, if_neg notLevel, if_neg notEdge]
      rw [uncoded, Option.map_none, ite_self]
  · have ofCode : AlarmMode.ofCode mode.toNat = some (if mode = 1#8 then .level else .edge) := by
      rcases coded with level | edge
      · rw [level]; rfl
      · rw [edge]; rfl
    have figures : ¬ (rated = 0 ∨ cRated = 0 ∨ vNom = 0) := fun h => h.elim hr (Or.rec hc hv)
    rw [if_neg figures, ofCode, Option.map_some] at args
    obtain ⟨t, runs, cab, configured, running, floor, waiting, shifted, answered, bau, toEdge, same, toLevel, rest⟩ :=
      setCabinet_leaves (s := s) length stopped args
    refine ⟨t, runs, cab.trans (cabinetCarried_clamped _ _ _ _ _ _ _ _ _ _ _ _ _ _ _ _ _ _ _ hr hc hv), configured,
      running, floor, waiting, shifted, ?_, ?_, fun level edge => toEdge level ?_, fun iff => same ?_,
      fun edge level => toLevel edge ?_, rest⟩
    · simp only [cabinetCarried_inRange _ _ _ _ _ _ _ _ _ _ _ _ _ _ _ _ _ _ _ hr hc hv] at answered
      exact answered
    · rw [bau, cabinetCarried_clamped _ _ _ _ _ _ _ _ _ _ _ _ _ _ _ _ _ _ _ hr hc hv]
      intro hAge
      rfl
    · exact if_neg (by rw [edge]; decide)
    · show _ = if mode = 1#8 then AlarmMode.level else .edge
      split <;> rename_i h
      · exact iff.mpr h
      · cases mode_ : s.hpi.cab.alarmMode with
        | level => exact absurd (iff.mp mode_) h
        | edge => rfl
    · exact if_pos level

end Sys2Proof.Machine
end

section
/-! The lines: raw changes and their timers, ALARM-IN, the horn and the dead interval (R40 to R52). -/

namespace Sys2Proof.Machine

variable {s : State}

/-! ## Timers (R40) -/

theorem due_zero {n : Option Ticks} (h : n = some 0) : due n = true := decide_eq_true h

theorem due_waiting {n : Option Ticks} (h : n ≠ some 0) : ¬ due n = true := fun d => h (of_decide_eq_true d)

/-! ## Raw changes (R40, R41, R46, R48) -/

theorem qualifyTerm_eq (s : State) : qualifyTerm s = 10 * s.hpi.cab.qualMs := Nat.mul_comm _ _

theorem stage_stageLine (k : StageInput) (f : LineIn → LineIn) (c : Clu) :
    (c.stage k f).stageLine k = f (c.stageLine k) := by cases k <;> rfl

theorem stage_const (k : StageInput) (f : LineIn → LineIn) (c : Clu) :
    c.stage k f = c.stage k fun _ => f (c.stageLine k) := by cases k <;> rfl

theorem contact_contactLine (k : Contact) (f : LineIn → LineIn) (c : Clu) :
    (c.contact k f).contactLine k = f (c.contactLine k) := by cases k <;> rfl

theorem contact_const (k : Contact) (f : LineIn → LineIn) (c : Clu) :
    c.contact k f = c.contact k fun _ => f (c.contactLine k) := by cases k <;> rfl

/-- The raw mode moves exactly with the line that moves (R41). -/
theorem rawFeedback_inv_iff (f : Feedback) (level : Bool) :
    rawFeedback { f with rawInv := level } = rawFeedback f ↔ level = f.rawInv := by
  obtain ⟨rawInv, rawByp, qual, timer⟩ := f
  cases level <;> cases rawInv <;> cases rawByp <;> simp [rawFeedback]

theorem rawFeedback_byp_iff (f : Feedback) (level : Bool) :
    rawFeedback { f with rawByp := level } = rawFeedback f ↔ level = f.rawByp := by
  obtain ⟨rawInv, rawByp, qual, timer⟩ := f
  cases level <;> cases rawInv <;> cases rawByp <;> simp [rawFeedback]

/-- A retiming of the pair changes its timer alone. -/
theorem retime_eq (before : FbMode) (f : Feedback) :
    Feedback.retime before f = { f with
      timer := if rawFeedback f = f.qual then none else if rawFeedback f = before then f.timer else some 10 } := by
  unfold Feedback.retime
  split
  · rfl
  · split <;> rfl

/-- What a change of one line of the feedback pair leaves, `changed` being the pair with the new raw level. -/
theorem feedbackRetimed {changed : Feedback} {same : Prop} [Decidable same] (qual : changed.qual = s.clu.fb.qual)
    (timer : changed.timer = s.clu.fb.timer) (moves : rawFeedback changed = rawFeedback s.clu.fb ↔ same) :
    let f := Feedback.retime (rawFeedback s.clu.fb) changed
    f = { changed with timer := f.timer } ∧ (rawFeedback f = s.clu.fb.qual → f.timer = none) ∧
      (rawFeedback f ≠ s.clu.fb.qual → f.timer = if same then s.clu.fb.timer else some 10) := by
  intro f
  have retimed : f = { changed with
      timer := if rawFeedback changed = changed.qual then none
        else if rawFeedback changed = rawFeedback s.clu.fb then changed.timer else some 10 } := retime_eq _ _
  have raw : rawFeedback f = rawFeedback changed := by rw [retimed]; rfl
  refine ⟨by rw [retimed], fun settles => ?_, fun moved => ?_⟩
  · rw [retimed]
    exact if_pos (raw.symm.trans (settles.trans qual.symm))
  · rw [retimed]
    refine (if_neg fun h => moved (raw.trans (h.trans qual))).trans ?_
    rw [timer]
    exact if_congr moves rfl rfl

/-! ## ALARM-IN, the horn and the dead interval (R43, R48, R49, R52) -/

theorem alarmInput_waits (waits : s.clu.alarmIn.timer ≠ some 0) : exec .alarmInputQualified s = .next s :=
  congrArg Host.Outcome.next (if_neg (due_waiting waits))

/-- ALARM_INPUT as it tells a rise, by the alarm mode. -/
def alarmInputTold (s : State) : EventSpec :=
  notice .alarmInput [if decide (s.hpi.cab.alarmMode = .edge) then 2#8 else 1#8, 1#8]

theorem tellAlarmInput_eq (active : s.clu.alarmIn.qual = true) (events : s.hpi.events.length ≤ 32) :
    tellAlarmInput s = told [alarmInputTold s] s := by
  rw [tellAlarmInput, active, raise_eq_told _ _ events, alarmInputTold]
  cases s.hpi.cab.alarmMode <;> rfl

/-- The qualified input sets the condition, in edge mode by way of the latch, and is told once (R48, R49). -/
theorem alarmChange_eq (events : s.hpi.events.length ≤ 32) :
    let edge := decide (s.hpi.cab.alarmMode = .edge)
    alarmChange s = told (if s.clu.alarmIn.qual && !(edge && s.clu.alarmLatch) then [alarmInputTold s] else [])
      (s.modClu fun c => { c with alarmLatch := c.alarmLatch || (edge && c.alarmIn.qual) }) := by
  intro edge
  have latchSet (b : Bool) (h : s.clu.alarmLatch = b) : (s.modClu fun c => { c with alarmLatch := b }) = s := by
    rw [← h]
    rfl
  cases active : s.clu.alarmIn.qual with
  | false =>
    rw [alarmChange, active, if_neg Bool.false_ne_true, Bool.false_and, if_neg Bool.false_ne_true]
    simp only [State.modClu, active, Bool.and_false, Bool.or_false]
    exact (told_nil events).symm
  | true =>
    rw [alarmChange, if_pos active]
    cases mode : s.hpi.cab.alarmMode with
    | level =>
      have level_ : edge = false := decide_eq_false (by rw [mode]; decide)
      simp only [level_, Bool.false_and, Bool.not_false, Bool.and_true, if_true, Bool.or_false]
      exact tellAlarmInput_eq active events
    | edge =>
      have edge_ : edge = true := decide_eq_true mode
      simp only [edge_, Bool.true_and, State.modClu, active, Bool.or_true]
      cases latch : s.clu.alarmLatch with
      | false =>
        simp only [Bool.not_false, Bool.false_eq_true, if_true, if_false]
        exact tellAlarmInput_eq (s := s.modClu fun c => { c with alarmLatch := true }) active events
      | true =>
        simp only [Bool.not_true, Bool.false_eq_true, if_true, if_false]
        rw [told_nil (by exact events)]
        exact (latchSet true latch).symm

theorem alarmInput_runs (timer : s.clu.alarmIn.timer = some 0) :
    exec .alarmInputQualified s
      = .next (alarmChange (s.modClu fun c => { c with alarmIn := ⟨c.alarmIn.raw, c.alarmIn.raw, none⟩ })) :=
  congrArg Host.Outcome.next (if_pos (due_zero timer))

/-- Settles O48. -/
theorem linesAreTimedAndTold : Obligations.LinesAreTimedAndTold := by
  refine ⟨fun level s => ?_, fun s inv => ?_⟩
  · intro moved
    refine ⟨fun k => ⟨_, rfl, stage_stageLine k _ s.clu, ?_, sameBut_of_eq⟩,
      fun k => ⟨_, rfl, ?_, ?_, sameBut_of_eq⟩, ⟨_, rfl, ?_, sameBut_of_eq⟩, ?_, ?_⟩
    · exact (stage_const k _ s.clu).trans (congrArg (fun f => s.clu.stage k f)
        (funext fun _ => (stage_stageLine k _ s.clu).symm))
    · rw [← qualifyTerm_eq]
      exact contact_contactLine k _ s.clu
    · exact (contact_const k _ s.clu).trans (congrArg (fun f => s.clu.contact k f)
        (funext fun _ => (contact_contactLine k _ s.clu).symm))
    · rw [← qualifyTerm_eq]
      rfl
    · obtain ⟨pair, stops, starts⟩ := feedbackRetimed (s := s) (changed := { s.clu.fb with rawInv := level }) rfl rfl
        (rawFeedback_inv_iff s.clu.fb level)
      exact ⟨_, rfl, congrArg (fun f => { s.clu with fb := f }) pair, stops, starts, sameBut_of_eq⟩
    · obtain ⟨pair, stops, starts⟩ := feedbackRetimed (s := s) (changed := { s.clu.fb with rawByp := level }) rfl rfl
        (rawFeedback_byp_iff s.clu.fb level)
      exact ⟨_, rfl, congrArg (fun f => { s.clu with fb := f }) pair, stops, starts, sameBut_of_eq⟩
  · refine ⟨alarmInput_waits, fun timer => ?_, fun timer => congrArg Host.Outcome.next (if_pos (due_zero timer)),
      fun waits => congrArg Host.Outcome.next (if_neg (due_waiting waits)), rfl⟩
    have runs := alarmInput_runs timer
    rw [alarmChange_eq (s := s.modClu _) (by exact inv.events)] at runs
    exact ⟨_, runs, ⟨rfl, raised_told _ ⟨rfl, rfl, rfl, rfl, rfl, rfl, rfl, rfl⟩⟩, portKept_told rfl, sameBut_of_eq⟩

end Sys2Proof.Machine
end

section
/-! A planned activity dropped, a run ended and a station that leaves INV, in closed form: what a force and a dropout
leave (R87, R100 to R103, R106, R138). -/

namespace Sys2Proof.Machine

variable {s u : State} {l : List EventSpec}

/-! ## A planned activity that is dropped (R100) -/

/-- Neither a switch nor a mismatch: the activity is NONE or a planned one. -/
abbrev Unswitched (s : State) : Prop :=
  ∀ (m : Mode) (o : Origin), s.trc.activity ≠ .switching m o ∧ s.trc.activity ≠ .mismatch m o

theorem unswitched_of_none (act : s.trc.activity = .none) : Unswitched s := fun m o => by
  rw [act]
  exact ⟨nofun, nofun⟩

/-- The transfer coordinator after the planned activity is dropped. -/
def planEndedTrc (s : State) : Trc :=
  { s.trc with activity := .none, proposal := if s.trc.activity = .none then s.trc.proposal else none }

/-- The part after the planned activity is dropped, its messages withdrawn. -/
def planEnded (s : State) : State := { s with link := planDropped s, trc := planEndedTrc s }

theorem planEnded_none (act : s.trc.activity = .none) : planEnded s = s := by
  have trc : planEndedTrc s = s.trc := by
    rw [planEndedTrc, if_pos act, ← act]
  have link : planDropped s = s.link := by rw [planDropped, act]
  rw [planEnded, link, trc]

/-- A withdrawn message takes the proposal with it. -/
theorem clearProposal_free {which : Msg → Bool} {reason : Byte} (planned : s.trc.activity ≠ .none)
    (free : s.link.attempt = none) (room : s.link.coord.length ≤ 8) :
    clearProposal which reason s
      = { s with link := coordWithout (fun e => which e.msg) s.link, trc := planEndedTrc s } := by
  rw [clearProposal_eq, withdraw_free free room, planEndedTrc, if_neg planned]
  rfl

theorem dropOwn_free {id : PropId} {reason : Option Reason} (planned : s.trc.activity ≠ .none)
    (free : s.link.attempt = none) (room : s.link.coord.length ≤ 8) (events : s.hpi.events.length ≤ 32) :
    dropOwn id reason [] s
      = told (reason.elim [] fun r => [notice .transferCancelled [byteOf id.station.val, id.seq, byteOf r.code]])
        { s with link := coordWithout (ofProposal id) s.link, trc := planEndedTrc s } := by
  simp only [dropOwn, clearProposal_free planned free room, isOwnProposalMsg_eq]
  cases reason with
  | none => exact (told_nil (by exact events)).symm
  | some r => exact raise_eq_told _ _ events

/-- A planned activity that is dropped leaves nothing but its withdrawal, and TRANSFER_CANCELLED of a reason at a
proposer. -/
theorem dropProposal_eq {reason : Option Reason} (planned : Unswitched s) (free : s.link.attempt = none)
    (room : s.link.coord.length ≤ 8) (events : s.hpi.events.length ≤ 32) :
    dropProposal reason [] s = told (reason.elim [] fun r => planTold r s) (planEnded s) := by
  have silent : (reason.elim [] fun _ => ([] : List EventSpec)) = [] := by cases reason <;> rfl
  have followed (id : PropId) (live : s.trc.activity ≠ .none) : dropFollowed id s = told []
      { s with link := coordWithout (fun e => decide (e.msg = .consent id)) s.link, trc := planEndedTrc s } := by
    rw [dropFollowed, clearProposal_free live free room]
    exact (told_nil (by exact events)).symm
  cases act : s.trc.activity with
  | none =>
    simp only [dropProposal, planTold, act, silent, planEnded_none act]
    exact (told_nil events).symm
  | proposed id dir =>
    simp only [dropProposal, planTold, planEnded, planDropped, act]
    exact dropOwn_free (by rw [act]; nofun) free room events
  | following id dir =>
    simp only [dropProposal, planTold, planEnded, planDropped, act, silent]
    exact followed id (by rw [act]; nofun)
  | armed id dir ex =>
    by_cases mine : id.station = s.link.station
    · simp only [dropProposal, planTold, planEnded, planDropped, act, if_pos mine]
      exact (if_pos mine).trans (dropOwn_free (by rw [act]; nofun) free room events)
    · simp only [dropProposal, planTold, planEnded, planDropped, act, if_neg mine, silent]
      exact (if_neg mine).trans (followed id (by rw [act]; nofun))
  | switching m o => exact absurd act (planned m o).1
  | mismatch m o => exact absurd act (planned m o).2

/-- The same behind events. -/
theorem dropProposal_told {reason : Option Reason} (planned : Unswitched s) (free : s.link.attempt = none)
    (room : s.link.coord.length ≤ 8) :
    dropProposal reason [] (told l s) = told (l ++ reason.elim [] fun r => planTold r s) (planEnded s) := by
  rw [dropProposal_eq (s := told l s) planned free room told_events_le]
  exact told_told l _ (planEnded s)

/-- A drop touches the COORD queue alone, which it does not lengthen. -/
theorem planDropped_frame (s : State) : ∃ coord reported,
    planDropped s = { s.link with coord := coord, congestionReported := reported }
      ∧ coord.length ≤ s.link.coord.length := by
  have withdrawn (which : TxEntry → Bool) : ∃ coord reported,
      coordWithout which s.link = { s.link with coord := coord, congestionReported := reported }
        ∧ coord.length ≤ s.link.coord.length := ⟨_, _, rfl, List.length_filter_le _ _⟩
  have stands : ∃ coord reported, s.link = { s.link with coord := coord, congestionReported := reported }
      ∧ coord.length ≤ s.link.coord.length := ⟨_, _, rfl, le_rfl⟩
  unfold planDropped
  cases s.trc.activity with
  | armed id dir ex =>
    dsimp only
    split
    · exact withdrawn _
    · exact withdrawn _
  | proposed id dir => exact withdrawn _
  | following id dir => exact withdrawn _
  | none => exact stands
  | switching m o => exact stands
  | mismatch m o => exact stands

/-- The URGENT queue stands beside a drop. -/
theorem planDropped_urgent (s : State) (q : List TxEntry) :
    planDropped (s.modLink fun k => { k with urgent := q }) = { planDropped s with urgent := q } := by
  unfold planDropped
  rw [State.modLink_trc]
  cases s.trc.activity with
  | armed id dir ex =>
    by_cases mine : id.station = s.link.station
    · simp only [if_pos mine]
      exact if_pos mine
    · simp only [if_neg mine]
      exact if_neg mine
  | proposed id dir => rfl
  | following id dir => rfl
  | none => rfl
  | switching m o => rfl
  | mismatch m o => rfl

/-! ## A run that ends with its claim (R126, R138, R140) -/

theorem runClaim_none (holds : RunHoldsClaim s) (idle : s.tsq.state.inProgress = false) : runClaim s = none := by
  rw [RunHoldsClaim, idle] at holds
  simpa using holds.symm

/-- Without a run nothing ends. -/
theorem runOver_idle {cause : EndCause} {link : Link} {trc : Trc} (holds : RunHoldsClaim s)
    (idle : s.tsq.state.inProgress = false) :
    runOver cause link link.status trc s = { s with link := link, trc := trc } := by
  simp only [runOver, idle, runReleased, runClaim_none holds idle, wdOver, Bool.not_false, Bool.and_true,
    Bool.false_eq_true, if_false]

/-- A run in progress, if there is one, ends behind events with its claim released and its STATUS queued. -/
theorem abortRun_told {cause : EndCause} {link : Link} {trc : Trc}
    (noVerdict : ∀ resistance r, verdictOf cause resistance r = none) (holds : RunHoldsClaim s)
    (running : s.hpi.running = true) (live : link.state ≠ .listen) (free : link.attempt = none)
    (room : s.tsq.state.inProgress = true → link.coord.length < 8) :
    ∃ status, abortRun cause (told l { s with link := link, trc := trc })
        = told (l ++ runOverTold cause s) (runOver cause link status trc s)
      ∧ (s.tsq.state.inProgress = true → StatusQueued (runOver cause link status trc s))
      ∧ (s.tsq.state.inProgress = false → status = link.status) := by
  cases inProgress : s.tsq.state.inProgress with
  | false =>
    refine ⟨link.status, ?_, fun h => absurd h (by simp), fun _ => rfl⟩
    rw [runOver_idle holds inProgress, runOverTold, inProgress, if_neg Bool.false_ne_true, List.append_nil, abortRun]
    exact if_neg (by show ¬ s.tsq.state.inProgress = true; rw [inProgress]; exact Bool.false_ne_true)
  | true =>
    obtain ⟨status, ended, queuedIn, stood⟩ := abortRun_eq (s := told l s) (trc := trc) noVerdict holds running live
      free (room inProgress) told_events_le
    refine ⟨status, ?_, fun _ => queuedIn inProgress, fun h => absurd h (by simp)⟩
    exact ended.trans (told_told l _ (runOver cause link status trc s))

/-- After the end of a run no TEST claim is left to release. -/
theorem releaseKind_runOver {cause : EndCause} {link : Link} {status : Option TxEntry} {trc : Trc}
    (holds : RunHoldsClaim s) : releaseKind .test (told l (runOver cause link status trc s))
      = told l (runOver cause link status trc s) := by
  refine if_neg fun test => ?_
  replace test : (if s.tsq.state.inProgress then none else s.lva).map (·.kind) = some .test := test
  cases inProgress : s.tsq.state.inProgress with
  | true => simp [inProgress] at test
  | false =>
    rw [inProgress, if_neg Bool.false_ne_true] at test
    obtain ⟨c, claim, kind⟩ := Option.map_eq_some_iff.mp test
    have held := runClaim_none holds inProgress
    simp [runClaim, claim, kind] at held

end Sys2Proof.Machine
end

section
/-! A station on INV that leaves it: a force and an inverter fault, behind events, with whatever planned activity and
run they end (R87, R101 to R103, R106). -/

namespace Sys2Proof.Machine

variable {s u : State} {l : List EventSpec}

/-! ## The switch (R87) -/

/-- The transfer coordinator after a switch away from INV, which ends at its entry where the feedback is there. -/
def awayTrc (target : Mode) (o : Origin) (hold : Option Ticks) (s : State) : Trc :=
  if s.clu.fb.qual = target.feedback then
    { s.trc with
      ownMode := target, activity := .none, proposal := none, executing := none, switchTimer := none
      holdTimer := hold, overloadTimer := none, splits := Vector.replicate 16 0 }
  else switchEntered target o hold s

/-- The part that has left INV for `target`, its run ended, with the given link, STATUS and transfer coordinator. -/
def leftInv (target : Mode) (link : Link) (status : Option TxEntry) (trc : Trc) (s : State) : State :=
  { runOver .forced link status trc s with clu := commanded target (wdOver s s.clu) }

/-- What the STATUS slot holds behind a switch away from INV: a fresh STATUS where a run or the switch has ended. -/
structure StatusAfter (ended : Prop) (status before : Option TxEntry) (t : State) : Prop where
  fresh  : ended → StatusQueued t
  stands : ¬ ended → status = before

/-- A STATUS reads of the state no more than its slot, its number, the own mode, the isolated flag and the own claim. -/
theorem statusQueued_congr {t t' : State} (q : StatusQueued t) (slot : t'.link.status = t.link.status)
    (pvu : t'.pvu = t.pvu := by rfl) (mode : t'.trc.ownMode = t.trc.ownMode := by rfl)
    (isolated : isolatedFlag t' = isolatedFlag t := by rfl) (claim : t'.lva = t.lva := by rfl) : StatusQueued t' := by
  obtain ⟨m, queued_, seq, prev, own, flag, shown⟩ := q
  refine ⟨m, slot.trans queued_, by rw [pvu, seq], by rw [pvu, prev], by rw [mode, own], by rw [isolated, flag], ?_⟩
  rw [ownShown, claim]
  exact shown

theorem setOwnMode_leaves {m : Mode} (inv : s.trc.ownMode = .inv) (other : m ≠ .inv) :
    setOwnMode m s
      = s.modTrc fun t => { t with ownMode := m, overloadTimer := none, splits := Vector.replicate 16 0 } := by
  refine congrArg (fun t => { s with trc := t }) ?_
  exact if_pos ⟨inv, other⟩

/-- A switch away from INV that finds the feedback there ends at its entry, and queues a STATUS. -/
theorem switchAway_arrives {target : Mode} {o : Origin} (act : s.trc.activity = .none) (inv : s.trc.ownMode = .inv)
    (other : target ≠ .inv) (origin : o = .forced ∨ o = .dropout) (there : s.clu.fb.qual = target.feedback)
    (sends : Sends s) : switchAway target o s
      = withStatus ((s.modTrc fun _ => awayTrc target o s.trc.holdTimer s).modClu (commanded target)) := by
  have unplanned : o ≠ .planned := by rcases origin with h | h <;> rw [h] <;> decide
  have begins : beginSwitch target o s
      = (s.modTrc fun _ => switchEntered target o s.trc.holdTimer s).modClu (commanded target) := by
    have timer : switchTimerFor target s.trc = some 400 := by rw [switchTimerFor, act]; rfl
    rw [beginSwitch, setActivity_leaves (by exact act) (fun h => by cases h), setModeCmd_eq]
    simp only [State.modTrc, timer, unplanned, other, if_false, switchEntered]
  have silent (v : State) : reportEnd target o v = v := by rcases origin with h | h <;> rw [h] <;> rfl
  have changed : ¬ s.trc.ownMode = target := fun h => other (h.symm.trans inv)
  rw [switchAway, begins, if_pos (by exact there), endSwitchCore, silent, if_neg (by exact changed), setActivity_none,
    setOwnMode_leaves (by exact inv) other, awayTrc, if_pos there]
  exact queueStatus_eq sends

/-- The release of a claim leaves the line as it is. -/
theorem runReleased_line (s : State) (k : Link) :
    (runReleased s k).state = k.state ∧ (runReleased s k).attempt = k.attempt := by
  unfold runReleased
  split
  · exact ⟨rfl, rfl⟩
  · split <;> exact ⟨rfl, rfl⟩

/-- A station on INV whose run has ended and whose planned activity is dropped switches away. -/
theorem switchAway_leavesInv {target : Mode} {o : Origin} {link : Link} {status : Option TxEntry}
    (inv : s.trc.ownMode = .inv) (other : target ≠ .inv) (origin : o = .forced ∨ o = .dropout)
    (running : s.hpi.running = true) (live : link.state ≠ .listen) (free : link.attempt = none)
    (before : StatusAfter (s.tsq.state.inProgress = true) status link.status
      (runOver .forced link status (planEndedTrc s) s)) :
    ∃ status', switchAway target o (told l (runOver .forced link status (planEndedTrc s) s))
        = told l (leftInv target link status' (awayTrc target o s.trc.holdTimer s) s)
      ∧ StatusAfter (s.tsq.state.inProgress = true ∨ s.clu.fb.qual = target.feedback) status' link.status
        (leftInv target link status' (awayTrc target o s.trc.holdTimer s) s) := by
  have unplanned : o ≠ .planned := by rcases origin with h | h <;> rw [h] <;> decide
  have act : (runOver .forced link status (planEndedTrc s) s).trc.activity = .none := rfl
  have trc : awayTrc target o s.trc.holdTimer (runOver .forced link status (planEndedTrc s) s)
      = awayTrc target o s.trc.holdTimer s := rfl
  by_cases there : s.clu.fb.qual = target.feedback
  · have sends : Sends (runOver .forced link status (planEndedTrc s) s) := by
      have kept := runReleased_line s link
      exact ⟨running, fun h => live (kept.1.symm.trans h), kept.2.trans free⟩
    have arrives := switchAway_arrives (s := told l (runOver .forced link status (planEndedTrc s) s)) act inv other
      origin there sends
    exact ⟨_, arrives, fun _ => statusQueued_of (u := (State.modTrc (fun _ => awayTrc target o s.trc.holdTimer s)
      (runOver .forced link status (planEndedTrc s) s)).modClu (commanded target)) rfl, fun h => absurd (.inr there) h⟩
  · have stays : awayTrc target o s.trc.holdTimer s = switchEntered target o s.trc.holdTimer s := if_neg there
    have enters :=
      switchAway_eq (s := told l (runOver .forced link status (planEndedTrc s) s)) act unplanned other there
    refine ⟨status, enters.trans ?_, fun ended => ?_, fun h => before.stands fun run => h (.inl run)⟩
    · rw [stays]
      rfl
    · rw [stays]
      exact statusQueued_congr (before.fresh (ended.resolve_right there)) rfl

/-! ## A force (R102, R103) -/

/-- The mode to which a force takes a station on INV: BYP, or OFF where BYP-OK is inactive (R103). -/
def awayMode (s : State) : Mode := if s.clu.bypOk.qual then .byp else .off

/-- What a station tells that cannot follow its own force (R103). -/
def riskTold (ownFault : Bool) (s : State) : List EventSpec :=
  if s.clu.bypOk.qual then []
  else [alarm (if ownFault then .loadAtRisk else .cannotFollow) [byteOf s.link.station.val]]

/-- The link with the planned activity dropped and the FORCE of a cause queued. -/
def forceLink (c : ForceCause) (s : State) : Link :=
  { planDropped s with urgent := s.link.urgent ++ [queued (.force (BitVec.ofNat 8 c.code))] }

/-- A station that may leave INV: not isolated, in no switch, with room for what it has to send. -/
structure OnInv (s : State) : Prop where
  sends   : Sends s
  holds   : RunHoldsClaim s
  planned : Unswitched s
  room    : s.tsq.state.inProgress = true → s.link.coord.length < 8
  coord   : s.link.coord.length ≤ 8
  present : isolatedFlag s = false
  inv     : s.trc.ownMode = .inv

theorem planDropped_status (s : State) : (planDropped s).status = s.link.status := by
  obtain ⟨coord, reported, link, -⟩ := planDropped_frame s
  rw [link]

theorem OnInv.live (h : OnInv s) : (planDropped s).state ≠ .listen := by
  obtain ⟨coord, reported, link, -⟩ := planDropped_frame s
  rw [link]
  exact h.sends.2.1

theorem OnInv.free (h : OnInv s) : (planDropped s).attempt = none := by
  obtain ⟨coord, reported, link, -⟩ := planDropped_frame s
  rw [link]
  exact h.sends.2.2

theorem OnInv.droppedRoom (h : OnInv s) (run : s.tsq.state.inProgress = true) : (planDropped s).coord.length < 8 := by
  obtain ⟨coord, reported, link, shorter⟩ := planDropped_frame s
  rw [link]
  exact shorter.trans_lt (h.room run)

/-- A planned activity, a run and its claim are what a force ends (R103). -/
theorem clearForForce_told (h : OnInv s) : ∃ status,
    clearForForce (told l s)
        = told (l ++ runOverTold .forced s) (runOver .forced (planDropped s) status (planEndedTrc s) s)
      ∧ StatusAfter (s.tsq.state.inProgress = true) status s.link.status
        (runOver .forced (planDropped s) status (planEndedTrc s) s) := by
  obtain ⟨status, ended, fresh, stands⟩ := abortRun_told (l := l) (cause := .forced) (trc := planEndedTrc s)
    (fun _ _ => rfl) h.holds h.sends.1 h.live h.free h.droppedRoom
  refine ⟨status, ?_, fresh, fun idle => (stands (Bool.eq_false_iff.mpr idle)).trans (planDropped_status s)⟩
  rw [clearForForce, dropProposal_told h.planned h.sends.2.2 h.coord]
  rw [Option.elim_none, List.append_nil, planEnded, ended, releaseKind_runOver h.holds]

/-- A station on INV acts on its own force. -/
theorem actOnForce_leavesInv {ownFault : Bool} (h : OnInv s) : ∃ status,
    actOnForce s.link.station ownFault (told l s)
      = told (l ++ runOverTold .forced s ++ riskTold ownFault s) (leftInv (awayMode s) (planDropped s) status
        (awayTrc (awayMode s) .forced (some (10000 * s.hpi.floor.hold)) s) s)
      ∧ StatusAfter (s.tsq.state.inProgress = true ∨ s.clu.fb.qual = (awayMode s).feedback) status s.link.status
        (leftInv (awayMode s) (planDropped s) status
          (awayTrc (awayMode s) .forced (some (10000 * s.hpi.floor.hold)) s) s) := by
  obtain ⟨status₀, cleared, before⟩ := clearForForce_told (l := l) h
  have other : awayMode s ≠ .inv := by unfold awayMode; split <;> decide
  obtain ⟨status, switched, after⟩ := switchAway_leavesInv (l := l ++ runOverTold .forced s) (o := .forced) h.inv other
    (.inl rfl) h.sends.1 h.live h.free ((planDropped_status s).symm ▸ before)
  have held : startHold (told (l ++ runOverTold .forced s ++ riskTold ownFault s)
        (leftInv (awayMode s) (planDropped s) status (awayTrc (awayMode s) .forced s.trc.holdTimer s) s))
      = told (l ++ runOverTold .forced s ++ riskTold ownFault s) (leftInv (awayMode s) (planDropped s) status
        (awayTrc (awayMode s) .forced (some (10000 * s.hpi.floor.hold)) s) s) := by
    have hold : (fun t : Trc => { t with holdTimer := some (ticksOfSeconds s.hpi.floor.hold) })
        (awayTrc (awayMode s) .forced s.trc.holdTimer s)
        = awayTrc (awayMode s) .forced (some (10000 * s.hpi.floor.hold)) s := by
      rw [ticksOfSeconds, Nat.mul_comm]
      unfold awayTrc
      split <;> rfl
    rw [← hold]
    rfl
  refine ⟨status, ?_, ?_⟩
  · have present : ¬ isolatedFlag (told l s) = true := by
      show ¬ isolatedFlag s = true
      rw [h.present]; exact Bool.false_ne_true
    rw [actOnForce, if_neg present, if_pos (.inl h.inv), cleared, ← held]
    cases bypass : s.clu.bypOk.qual with
    | true =>
      have away : awayMode s = .byp := if_pos bypass
      have silent : riskTold ownFault s = [] := if_pos bypass
      rw [if_pos (by exact bypass), silent, List.append_nil, ← switched, away]
    | false =>
      have away : awayMode s = .off := if_neg (by rw [bypass]; exact Bool.false_ne_true)
      have risk : riskTold ownFault s
          = [specOf (if ownFault then .loadAtRisk else .cannotFollow) (stationByte s.link.station)] := by
        rw [riskTold, bypass]
        cases ownFault <;> rfl
      rw [if_neg (by show ¬ s.clu.bypOk.qual = true; rw [bypass]; exact Bool.false_ne_true), risk, ← raise_told,
        ← switched, away]
  · have own (hold : Option Ticks) : (awayTrc (awayMode s) .forced hold s).ownMode
        = (awayTrc (awayMode s) .forced s.trc.holdTimer s).ownMode := by
      unfold awayTrc
      split <;> rfl
    exact ⟨fun ended => statusQueued_congr (after.fresh ended) rfl rfl (own _),
      fun stood => (after.stands stood).trans (planDropped_status s)⟩

/-- A force at a station on INV, up to the report of a fault cause. -/
theorem forceSteps_leavesInv {ownFault : Bool} (c : ForceCause) (h : OnInv s) (urgent : s.link.urgent.length < 2) :
    ∃ status, actOnForce (told l s).own ownFault
          (postForce c (raise .transferForced (u8 c.code ++ stationByte (told l s).own) (told l s)))
        = told (l ++ [forcedTold c s] ++ runOverTold .forced s ++ riskTold ownFault s) (leftInv (awayMode s)
          (forceLink c s) status (awayTrc (awayMode s) .forced (some (10000 * s.hpi.floor.hold)) s) s)
      ∧ StatusAfter (s.tsq.state.inProgress = true ∨ s.clu.fb.qual = (awayMode s).feedback) status s.link.status
        (leftInv (awayMode s) (forceLink c s) status
          (awayTrc (awayMode s) .forced (some (10000 * s.hpi.floor.hold)) s) s) := by
  have h' : OnInv (s.modLink fun k => { k with urgent := k.urgent ++ [queued (.force (BitVec.ofNat 8 c.code))] }) :=
    ⟨h.sends, h.holds, h.planned, h.room, h.coord, h.present, h.inv⟩
  have link : planDropped (s.modLink fun k =>
        { k with urgent := k.urgent ++ [queued (.force (BitVec.ofNat 8 c.code))] }) = forceLink c s :=
    planDropped_urgent s _
  obtain ⟨status, acted, after⟩ := actOnForce_leavesInv (l := l ++ [forcedTold c s]) (ownFault := ownFault) h'
  rw [link] at acted after
  refine ⟨status, ?_, after⟩
  rw [raise_told, postForce_told, postForce_room h.sends.2.1 urgent]
  exact acted

/-- The due that the force of a fault cause reports (R148). -/
def causeFollowed (c : ForceCause) (s : State) : Vsm :=
  if c = .inverterFault ∨ c = .stageTransfer then followedUp s else s.vsm

def causeTold (c : ForceCause) (s : State) : List EventSpec :=
  if c = .inverterFault ∨ c = .stageTransfer then followupTold (BitVec.ofNat 8 c.code) s else []

/-- What a force raises at a station on INV (R102, R103, R148). -/
def forceRaised (c : ForceCause) (s : State) : List EventSpec :=
  [forcedTold c s] ++ runOverTold .forced s ++ riskTold (decide (c = .inverterFault)) s ++ causeTold c s

/-- A station on INV that forces the floor. -/
theorem force_leavesInv (c : ForceCause) (h : OnInv s) (urgent : s.link.urgent.length < 2) : ∃ status,
    force c (told l s) = told (l ++ forceRaised c s) ((leftInv (awayMode s) (forceLink c s) status
        (awayTrc (awayMode s) .forced (some (10000 * s.hpi.floor.hold)) s) s).modVsm fun _ => causeFollowed c s)
      ∧ StatusAfter (s.tsq.state.inProgress = true ∨ s.clu.fb.qual = (awayMode s).feedback) status s.link.status
        (leftInv (awayMode s) (forceLink c s) status
          (awayTrc (awayMode s) .forced (some (10000 * s.hpi.floor.hold)) s) s) := by
  obtain ⟨status, steps, after⟩ := forceSteps_leavesInv (l := l) (ownFault := decide (c = .inverterFault)) c h urgent
  refine ⟨status, ?_, after⟩
  have grouped : l ++ forceRaised c s = l ++ [forcedTold c s] ++ runOverTold .forced s
      ++ riskTold (decide (c = .inverterFault)) s ++ causeTold c s := by
    simp only [forceRaised, List.append_assoc]
  have silent (t : State) (k : List EventSpec) : told k t = told (k ++ []) (t.modVsm fun _ => t.vsm) := by
    rw [List.append_nil]
    rfl
  unfold force
  dsimp only
  rw [steps, grouped]
  cases c with
  | inverterFault => exact faultFollowup_told _
  | stageTransfer => exact faultFollowup_told _
  | host => exact silent _ _
  | overload => exact silent _ _
  | split => exact silent _ _
  | interlock => exact silent _ _

end Sys2Proof.Machine
end

section
/-! The inverter fault (R106), and what a row leaves that has a station on INV leave it. -/

namespace Sys2Proof.Machine

variable {s u : State} {l : List EventSpec}

/-! ## The inverter fault (R106) -/

theorem planDropped_urgentQueue (s : State) : (planDropped s).urgent = s.link.urgent := by
  obtain ⟨coord, reported, link, -⟩ := planDropped_frame s
  rw [link]

theorem planDropped_station (s : State) : (planDropped s).station = s.link.station := by
  obtain ⟨coord, reported, link, -⟩ := planDropped_frame s
  rw [link]

/-- With the planned activity dropped already a force has no more of it to end. -/
theorem forceLink_planEnded (c : ForceCause) (s : State) : forceLink c (planEnded s) = forceLink c s := by
  have queue : (planEnded s).link.urgent = s.link.urgent := planDropped_urgentQueue s
  rw [forceLink, queue]
  rfl

theorem forceRaised_planEnded (c : ForceCause) (s : State) : forceRaised c (planEnded s) = forceRaised c s := by
  have station : (planEnded s).link.station = s.link.station := planDropped_station s
  simp only [forceRaised, forcedTold, riskTold, station]
  rfl

theorem floorLoad_planEnded (s : State) : floorLoad (planEnded s) = floorLoad s :=
  SameView.floorLoad ⟨planDropped_station s, rfl, rfl, rfl, rfl, rfl, rfl⟩

theorem OnInv.planEnded (h : OnInv s) : OnInv (planEnded s) where
  sends := ⟨h.sends.1, h.live, h.free⟩
  holds := h.holds
  planned := unswitched_of_none rfl
  room := h.droppedRoom
  coord := by
    obtain ⟨coord, reported, link, shorter⟩ := planDropped_frame s
    show (planDropped s).coord.length ≤ 8
    rw [link]
    exact shorter.trans h.coord
  present := h.present
  inv := h.inv

theorem tellDropout_told : tellDropout (told l s) = told (l ++ [alarm .dropout (dropoutFigures s)]) s := by
  have load : floorLoad (told l s) = floorLoad s := SameView.floorLoad ⟨rfl, rfl, rfl, rfl, rfl, rfl, rfl⟩
  have others : othersCarrying (told l s) = carriedByOthers s := othersCarrying_eq _
  rw [tellDropout, raise_told, others, load, dropoutFigures, be32_ofNat, be32_ofNat]
  rfl

/-- A station on INV that drops out. -/
theorem dropOut_leavesInv (h : OnInv s) : ∃ status,
    dropOut (told l (planEnded s)) = told (l ++ [alarm .dropout (dropoutFigures s)] ++ runOverTold .forced s
        ++ followupTold Config.dropoutCauseCode s) ((leftInv .off (planDropped s) status
          (awayTrc .off .dropout s.trc.holdTimer s) s).modVsm fun _ => followedUp s)
      ∧ StatusQueued (leftInv .off (planDropped s) status (awayTrc .off .dropout s.trc.holdTimer s) s) := by
  have figures : dropoutFigures (planEnded s) = dropoutFigures s := by
    rw [dropoutFigures, floorLoad_planEnded]
    rfl
  obtain ⟨status₀, ended, fresh, stands⟩ := abortRun_told (l := l ++ [alarm .dropout (dropoutFigures s)])
    (cause := .forced) (trc := planEndedTrc s) (fun _ _ => rfl) h.holds h.sends.1 h.live h.free h.droppedRoom
  obtain ⟨status₁, switched, -⟩ := switchAway_leavesInv (l := l ++ [alarm .dropout (dropoutFigures s)]
    ++ runOverTold .forced s) (target := .off) (o := .dropout) h.inv (by decide) (.inr rfl) h.sends.1 h.live h.free
    ⟨fresh, fun idle => stands (Bool.eq_false_iff.mpr idle)⟩
  have sends : Sends (leftInv .off (planDropped s) status₁ (awayTrc .off .dropout s.trc.holdTimer s) s) := by
    have kept := runReleased_line s (planDropped s)
    exact ⟨h.sends.1, fun listen => h.live (kept.1.symm.trans listen), kept.2.trans h.free⟩
  refine ⟨_, ?_, statusQueued_of (u := leftInv .off (planDropped s) status₁
    (awayTrc .off .dropout s.trc.holdTimer s) s) rfl⟩
  rw [dropOut, tellDropout_told, figures, planEnded, ended, releaseKind_runOver h.holds, switched,
    queueStatus_told_eq sends, faultFollowup_told]
  rfl

/-- An inverter fault at a station on INV: it drops out where the others carry the floor load, and forces the floor
where they do not. -/
theorem inverterFault_leavesInv (h : OnInv s) (urgent : s.link.urgent.length < 2) :
    (floorLoad s ≤ carriedByOthers s → ∃ status,
      inverterFault (told l s) = told (l ++ planTold .fault s ++ [alarm .dropout (dropoutFigures s)]
          ++ runOverTold .forced s ++ followupTold Config.dropoutCauseCode s) ((leftInv .off (planDropped s) status
            (awayTrc .off .dropout s.trc.holdTimer s) s).modVsm fun _ => followedUp s)
        ∧ StatusQueued (leftInv .off (planDropped s) status (awayTrc .off .dropout s.trc.holdTimer s) s)) ∧
    (carriedByOthers s < floorLoad s → ∃ status,
      inverterFault (told l s) = told (l ++ planTold .fault s ++ forceRaised .inverterFault s)
          ((leftInv (awayMode s) (forceLink .inverterFault s) status
            (awayTrc (awayMode s) .forced (some (10000 * s.hpi.floor.hold)) s) s).modVsm fun _ => followedUp s)
        ∧ StatusAfter (s.tsq.state.inProgress = true ∨ s.clu.fb.qual = (awayMode s).feedback) status s.link.status
          (leftInv (awayMode s) (forceLink .inverterFault s) status
            (awayTrc (awayMode s) .forced (some (10000 * s.hpi.floor.hold)) s) s)) := by
  have load : floorLoad (told (l ++ planTold .fault s) (planEnded s)) = floorLoad s :=
    (SameView.floorLoad (s := planEnded s) ⟨rfl, rfl, rfl, rfl, rfl, rfl, rfl⟩).trans (floorLoad_planEnded s)
  have others : othersCarrying (told (l ++ planTold .fault s) (planEnded s)) = carriedByOthers s := othersCarrying_eq _
  have branches : inverterFault (told l s) = if floorLoad s ≤ carriedByOthers s
      then dropOut (told (l ++ planTold .fault s) (planEnded s))
      else force .inverterFault (told (l ++ planTold .fault s) (planEnded s)) := by
    have dropped := dropProposal_told (l := l) (reason := some .fault) h.planned h.sends.2.2 h.coord
    rw [Option.elim_some] at dropped
    rw [inverterFault, dropped, load, others]
  refine ⟨fun backed => ?_, fun short => ?_⟩
  · rw [branches, if_pos backed]
    exact dropOut_leavesInv h
  · rw [branches, if_neg (by omega)]
    obtain ⟨status, forced, after⟩ := force_leavesInv (l := l ++ planTold .fault s) .inverterFault h.planEnded
      (by show (planDropped s).urgent.length < 2; rw [planDropped_urgentQueue]; exact urgent)
    rw [forceLink_planEnded] at forced after
    rw [forceRaised_planEnded] at forced
    exact ⟨status, forced, after.fresh, fun stood => (after.stands stood).trans (planDropped_status s)⟩

/-! ## What a row leaves -/

/-- The row has taken the station off INV for `target`, with the events of `l`: its run has ended, the lines stand at
`clu` but for the mode command, and the link is `link` but for the release of the claim of the run. -/
structure OffInv (l : List EventSpec) (target : Mode) (link : Link) (status : Option TxEntry) (trc : Trc) (clu : Clu)
    (vsm : Vsm) (s t : State) : Prop where
  vsm    : t.vsm = vsm
  ended  : RunOver .forced s t
  link   : t.link = { runReleased s link with status := t.link.status }
  status : t.link.status = status
  trc    : TrcIs trc t
  clu    : t.clu = { commanded target (wdOver s clu) with horn := t.clu.horn, hornTimer := t.clu.hornTimer }
  port   : PortKept s t
  raised : Raised l s t
  rest   : SameBut [.link, .lva, .tsq, .clu, .trc, .vsm, .hpi] s t

/-- A row that settles in `leftInv`, where the own claim, if it outlives the run, is kept under the mode it leaves. -/
theorem runs_offInv {row : Instr} {target : Mode} {link : Link} {status : Option TxEntry} {trc : Trc} {clu : Clu}
    {vsm : Vsm}
    (runs : exec row s = .next (settle (told l ((leftInv target link status trc { s with clu := clu }).modVsm
      fun _ => vsm))))
    (kept : s.tsq.state.inProgress = false → ClaimKept { s with trc := { s.trc with ownMode := trc.ownMode } })
    (present : isolatedFlag { s with vsm := vsm } = isolatedFlag s) (station : link.station = s.link.station)
    (horn : clu.horn = s.clu.horn) (hornTimer : clu.hornTimer = s.clu.hornTimer) :
    ∃ t, exec row s = .next t ∧ OffInv l target link status trc clu vsm s t
      ∧ (StatusQueued (leftInv target link status trc { s with clu := clu }) → StatusQueued t) := by
  have keeps : ClaimKept ((leftInv target link status trc { s with clu := clu }).modVsm fun _ => vsm) := by
    cases inProgress : s.tsq.state.inProgress with
    | true => exact claimKept_none (if_pos inProgress)
    | false =>
      have view : SameView { s with trc := { s.trc with ownMode := trc.ownMode } }
          ((leftInv target link status trc { s with clu := clu }).modVsm fun _ => vsm) :=
        ⟨(runReleased_frame s link).1.trans station, rfl, present, rfl, rfl, rfl, rfl⟩
      exact view.claimKept (if_neg (by show ¬ s.tsq.state.inProgress = true; rw [inProgress]; decide)) (kept inProgress)
  obtain ⟨m, runs⟩ := runs_settled_told runs keeps
  exact ⟨_, runs, ⟨rfl, ⟨rfl, rfl⟩, rfl, rfl, rfl, rfl, portKept_told rfl,
    raised_told l ⟨rfl, rfl, rfl, rfl, rfl, rfl, horn, hornTimer⟩, sameBut_of_eq⟩,
    fun fresh => statusQueued_congr fresh rfl rfl rfl present rfl⟩

end Sys2Proof.Machine
end

section
/-! The stage inputs: the overload timer, the inverter fault and the failed switch to INV (R40, R42, R104, R106). -/

namespace Sys2Proof.Machine

variable {s : State} {l : List EventSpec}

/-! ## Rows that change the lines and the transfer coordinator -/

/-- A row that settles where only the lines and the transfer coordinator have changed, the own mode kept. -/
theorem runs_lines {row : Instr} {clu : Clu} {trc : Trc}
    (runs : exec row s = .next (settle { s with clu := clu, trc := trc }))
    (kept : ClaimKept { s with trc := { s.trc with ownMode := trc.ownMode } }) :
    ∃ t, exec row s = .next t ∧ t.clu = clu ∧ TrcIs trc t ∧ SameBut [.clu, .trc] s t := by
  have view : SameView { s with trc := { s.trc with ownMode := trc.ownMode } } { s with clu := clu, trc := trc } :=
    ⟨rfl, rfl, rfl, rfl, rfl, rfl, rfl⟩
  obtain ⟨m, runs⟩ := runs_settled runs (view.claimKept rfl kept)
  exact ⟨_, runs, rfl, rfl, sameBut_of_eq⟩

theorem floorLoad_clu (c : Clu) (s : State) : floorLoad { s with clu := c } = floorLoad s :=
  SameView.floorLoad ⟨rfl, rfl, rfl, rfl, rfl, rfl, rfl⟩

theorem dropoutFigures_clu (c : Clu) (s : State) : dropoutFigures { s with clu := c } = dropoutFigures s := by
  rw [dropoutFigures, floorLoad_clu]
  rfl

theorem OnInv.withLines (h : OnInv s) (c : Clu) : OnInv { s with clu := c } :=
  ⟨h.sends, h.holds, h.planned, h.room, h.coord, h.present, h.inv⟩

/-- The release of the claim of a run stands beside a queued FORCE. -/
theorem runReleased_forceLink (c : ForceCause) (s : State) : runReleased s (forceLink c s)
    = { runReleased s (planDropped s) with
      urgent := s.link.urgent ++ [queued (.force (BitVec.ofNat 8 c.code))] } := by
  unfold runReleased forceLink
  split
  · rfl
  · split <;> rfl

/-- With no run in progress no TEST-WD falls. -/
theorem wdOver_idle (idle : s.tsq.state.inProgress = false) (c : Clu) : wdOver s c = c := by
  rw [wdOver, idle, Bool.not_false, Bool.and_true]

/-- A station that has left INV with no run to end. -/
theorem OffInv.idle {target : Mode} {link : Link} {status : Option TxEntry} {trc : Trc} {clu : Clu} {vsm : Vsm}
    {t : State} (h : OffInv l target link status trc clu vsm s t) (holds : RunHoldsClaim s)
    (idle : s.tsq.state.inProgress = false) :
    t.link = { link with status := t.link.status }
      ∧ t.clu = { commanded target clu with horn := t.clu.horn, hornTimer := t.clu.hornTimer }
      ∧ SameBut [.link, .clu, .trc, .vsm, .hpi] s t := by
  have released : runReleased s link = link := by rw [runReleased, runClaim_none holds idle]
  obtain ⟨tsq, lva⟩ := h.ended
  rw [idle, if_neg Bool.false_ne_true] at tsq lva
  exact ⟨released ▸ h.link, wdOver_idle idle clu ▸ h.clu, sameBut_of_eq (peers := fun _ => h.rest .peers (by decide))
    (pvu := fun _ => h.rest .pvu (by decide)) (ftu := fun _ => h.rest .ftu (by decide))
    (sns := fun _ => h.rest .sns (by decide)) (bau := fun _ => h.rest .bau (by decide)) (lva := fun _ => lva)
    (tsq := fun _ => tsq) (pending := fun _ => h.rest .pending (by decide))⟩

/-! ## The row (R40, R42) -/

theorem stageInput_waits {k : StageInput} (waits : (s.clu.stageLine k).timer ≠ some 0) :
    exec (.stageInputQualified k) s = .next s := congrArg Host.Outcome.next (if_neg (due_waiting waits))

/-- The lines with a stage input qualified at its raw level. -/
def stageQualified (k : StageInput) (c : Clu) : Clu :=
  c.stage k fun _ => ⟨(c.stageLine k).raw, (c.stageLine k).raw, none⟩

theorem stageInput_runs {k : StageInput} (timer : (s.clu.stageLine k).timer = some 0) :
    exec (.stageInputQualified k) s = .next (if s.hpi.running then
        settle (stageChange k (s.clu.stageLine k).raw { s with clu := stageQualified k s.clu })
      else { s with clu := stageQualified k s.clu }) := by
  have lines : (s.modClu fun c => c.stage k LineIn.qualified) = { s with clu := stageQualified k s.clu } :=
    congrArg (fun c => { s with clu := c }) (stage_const k _ _)
  refine congrArg Host.Outcome.next ((if_pos (due_zero timer)).trans ?_)
  rw [lines]

theorem stageInput_configuring {k : StageInput} (timer : (s.clu.stageLine k).timer = some 0)
    (stopped : s.hpi.running = false) :
    exec (.stageInputQualified k) s = .next { s with clu := stageQualified k s.clu } := by
  rw [stageInput_runs timer, stopped, if_neg Bool.false_ne_true]

theorem stageInput_running {k : StageInput} (timer : (s.clu.stageLine k).timer = some 0)
    (running : s.hpi.running = true) : exec (.stageInputQualified k) s
      = .next (settle (stageChange k (s.clu.stageLine k).raw { s with clu := stageQualified k s.clu })) := by
  rw [stageInput_runs timer, if_pos running]

/-! ## OVERLOAD (R104) -/

/-- The overload timer behind a change of OVERLOAD, with a tolerance above 0. -/
theorem stageChange_overload {c : Clu} {raw : Bool} (tolerance : 0 < s.hpi.floor.overloadTol) :
    stageChange .overload raw { s with clu := c } = { s with
      clu := c
      trc := { s.trc with overloadTimer :=
        if raw = false then none
        else if s.trc.ownMode = .inv then some (10000 * s.hpi.floor.overloadTol) else s.trc.overloadTimer } } := by
  cases raw with
  | false => rfl
  | true =>
    by_cases inv : s.trc.ownMode = .inv
    · have some_ : ¬ s.hpi.floor.overloadTol = 0 := by omega
      have starts : startOverload { s with clu := c } = { s with
          clu := c, trc := { s.trc with overloadTimer := some (10000 * s.hpi.floor.overloadTol) } } := by
        rw [startOverload, if_neg some_, ticksOfSeconds, Nat.mul_comm]
        rfl
      rw [if_neg (by decide), if_pos inv]
      exact (if_pos inv).trans starts
    · simp only [stageChange, if_true, inv, if_false, Bool.true_eq_false]

/-- A rise of OVERLOAD in INV with a tolerance of 0 forces at once. -/
theorem stageChange_overload_forces {c : Clu} (inv : s.trc.ownMode = .inv) (none_ : s.hpi.floor.overloadTol = 0) :
    stageChange .overload true { s with clu := c } = force .overload { s with clu := c } := by
  simp only [stageChange, if_true, inv, startOverload, none_]

/-! ## INV-FAULT (R106) -/

theorem stageChange_fault_none {c : Clu} {raw : Bool}
    (no : raw = false ∨ s.trc.ownMode ≠ .inv ∧ s.trc.activity = .none) :
    stageChange .invFault raw { s with clu := c } = { s with clu := c } := by
  rcases no with rfl | ⟨other, act⟩
  · rfl
  · cases raw with
    | false => rfl
    | true => simp only [stageChange, if_true, invFaultActive, act, other, if_false]

theorem stageChange_fault_taken {c : Clu} (inv : s.trc.ownMode = .inv) (planned : Unswitched s) :
    stageChange .invFault true { s with clu := c } = inverterFault { s with clu := c } := by
  simp only [stageChange, if_true, invFaultActive]
  cases act : s.trc.activity with
  | switching m o => exact absurd act (planned m o).1
  | mismatch m o => exact absurd act (planned m o).2
  | none => exact if_pos inv
  | proposed id dir => exact if_pos inv
  | following id dir => exact if_pos inv
  | armed id dir ex => exact if_pos inv

/-- A switch to INV that fails goes OFF, with no capacity comparison. -/
theorem failSwitch_told {o : Origin} (act : s.trc.activity = .switching .inv o) (away : s.clu.fb.qual ≠ .off) :
    failSwitch (told l s) = told (l ++ [alarm .dropout []] ++ followupTold Config.dropoutCauseCode s)
      { s with
        clu := commanded .off s.clu
        trc := { s.trc with
          activity := .switching .off .dropout, proposal := none, executing := none, switchTimer := some 400
          overloadTimer := none }
        vsm := followedUp s } := by
  have live : (told l s).trc.activity ≠ .none := by
    show s.trc.activity ≠ .none
    rw [act]
    nofun
  have timer : switchTimerFor .off s.trc = some 400 := by
    rw [switchTimerFor, act]
    rfl
  have begins : beginSwitch .off .dropout (told l s) = told l { s with
      clu := commanded .off s.clu
      trc := { s.trc with
        activity := .switching .off .dropout, proposal := none, executing := none, switchTimer := some 400
        overloadTimer := none } } := by
    rw [beginSwitch, setActivity_planned (by exact live), setModeCmd_eq]
    simp only [State.modTrc, told_trc, timer]
    rfl
  rw [failSwitch, switchAway, begins, if_neg (by exact away), raise_told, faultFollowup_told]
  rfl

end Sys2Proof.Machine
end

section
/-! A qualified stage input, as the row leaves the part (R40, R42, R104, R106). -/

namespace Sys2Proof.Machine

variable {s : State} {l : List EventSpec}

/-- The report of a fault cause leaves the visit as it is. -/
theorem isolatedFlag_followedUp (s : State) : isolatedFlag { s with vsm := followedUp s } = isolatedFlag s := by
  have visit : (followedUp s).visit = s.vsm.visit := by
    unfold followedUp
    split <;> rfl
  unfold isolatedFlag
  rw [visit]

theorem onInv_of_idle (inv : Inv s) (sends : Sends s) (claim : runClaim s = none) (act : s.trc.activity = .none)
    (own : s.trc.ownMode = .inv) (idle : s.tsq.state.inProgress = false) (present : isolatedFlag s = false) :
    OnInv s where
  sends := sends
  holds := by rw [RunHoldsClaim, idle, claim]; rfl
  planned := unswitched_of_none act
  room := fun run => absurd (idle.symm.trans run) (by decide)
  coord := inv.coord
  present := present
  inv := own

theorem runClaim_of_unclaimed (unclaimed : s.lva = none) : runClaim s = none := by rw [runClaim, unclaimed]; rfl

/-- The lines with INV-FAULT qualified active. -/
def faulted (s : State) : Clu := { s.clu with invFault := ⟨true, true, none⟩ }

/-- The lines with OVERLOAD qualified active. -/
def overloaded (s : State) : Clu := { s.clu with overload := ⟨true, true, none⟩ }

theorem stageQualified_fault (raw : s.clu.invFault.raw = true) : stageQualified .invFault s.clu = faulted s :=
  congrArg (fun b => { s.clu with invFault := ⟨b, b, none⟩ }) raw

/-- INV-FAULT rises in INV (R106). -/
theorem fault_runs (events : s.hpi.events.length ≤ 32) (h : OnInv s) (timer : s.clu.invFault.timer = some 0)
    (raw : s.clu.invFault.raw = true) :
    exec (.stageInputQualified .invFault) s
      = .next (settle (inverterFault (told [] { s with clu := faulted s }))) := by
  rw [stageInput_running (k := .invFault) timer h.sends.1, stageQualified_fault raw, told_nil (by exact events)]
  show Host.Outcome.next (settle (stageChange .invFault s.clu.invFault.raw _)) = _
  rw [raw, stageChange_fault_taken h.inv h.planned]

section
variable {row : Instr} {c : Clu}

/-- The own mode of a station that leaves INV: the target where the feedback is there already. -/
theorem awayTrc_ownMode {target : Mode} {o : Origin} {hold : Option Ticks} (inv : s.trc.ownMode = .inv) :
    (awayTrc target o hold { s with clu := c }).ownMode = if c.fb.qual = target.feedback then target else .inv := by
  unfold awayTrc
  exact (apply_ite Trc.ownMode _ _ _).trans (if_congr Iff.rfl rfl inv)

/-- A row that has the inverter fault taken at a station on INV, the lines at `c`: the dropout. -/
theorem fault_dropsOut (h : OnInv s) (urgent : s.link.urgent.length < 2)
    (runs : exec row s = .next (settle (inverterFault (told [] { s with clu := c }))))
    (kept : s.tsq.state.inProgress = false →
      ClaimKept { s with trc := { s.trc with ownMode := if c.fb.qual = .off then .off else .inv } })
    (horn : c.horn = s.clu.horn) (hornTimer : c.hornTimer = s.clu.hornTimer)
    (backed : floorLoad s ≤ carriedByOthers s) :
    ∃ t status, exec row s = .next t ∧ OffInv (planTold .fault s ++ [alarm .dropout (dropoutFigures s)]
        ++ runOverTold .forced s ++ followupTold Config.dropoutCauseCode s) .off (planDropped s) status
        (awayTrc .off .dropout s.trc.holdTimer { s with clu := c }) c (followedUp s) s t ∧ StatusQueued t := by
  obtain ⟨status, drops, fresh⟩ := (inverterFault_leavesInv (l := []) (h.withLines c) urgent).1
    (by rw [floorLoad_clu]; exact backed)
  rw [drops, dropoutFigures_clu] at runs
  have own := awayTrc_ownMode (c := c) (target := .off) (o := .dropout) (hold := s.trc.holdTimer) h.inv
  obtain ⟨t, done, left, told_⟩ := runs_offInv runs (own ▸ kept) (isolatedFlag_followedUp s) (planDropped_station s)
    horn hornTimer
  exact ⟨t, status, done, left, told_ fresh⟩

/-- What a row leaves that ends in a force at a station on INV, behind the events of `l`, with the visits at `vsm`. -/
structure ForcedOff (l : List EventSpec) (cause : ForceCause) (c : Clu) (vsm : Vsm) (s t : State) : Prop where
  left   : OffInv l (awayMode { s with clu := c }) (forceLink cause s) t.link.status
    (awayTrc (awayMode { s with clu := c }) .forced (some (10000 * s.hpi.floor.hold)) { s with clu := c }) c vsm s t
  fresh  : s.tsq.state.inProgress = true ∨ c.fb.qual = (awayMode { s with clu := c }).feedback → StatusQueued t
  stands : ¬ (s.tsq.state.inProgress = true ∨ c.fb.qual = (awayMode { s with clu := c }).feedback) →
    t.link.status = s.link.status

/-- A row that settles in what a force leaves. -/
theorem runs_forcedOff {cause : ForceCause} {status : Option TxEntry} {vsm : Vsm} (h : OnInv s)
    (runs : exec row s = .next (settle (told l ((leftInv (awayMode { s with clu := c }) (forceLink cause s) status
      (awayTrc (awayMode { s with clu := c }) .forced (some (10000 * s.hpi.floor.hold)) { s with clu := c })
      { s with clu := c }).modVsm fun _ => vsm))))
    (after : StatusAfter (s.tsq.state.inProgress = true ∨ c.fb.qual = (awayMode { s with clu := c }).feedback) status
      s.link.status (leftInv (awayMode { s with clu := c }) (forceLink cause s) status
        (awayTrc (awayMode { s with clu := c }) .forced (some (10000 * s.hpi.floor.hold)) { s with clu := c })
        { s with clu := c }))
    (kept : s.tsq.state.inProgress = false → ClaimKept { s with trc := { s.trc with
      ownMode := if c.fb.qual = (awayMode { s with clu := c }).feedback then awayMode { s with clu := c } else .inv } })
    (present : isolatedFlag { s with vsm := vsm } = isolatedFlag s)
    (horn : c.horn = s.clu.horn) (hornTimer : c.hornTimer = s.clu.hornTimer) :
    ∃ t, exec row s = .next t ∧ ForcedOff l cause c vsm s t := by
  have own := awayTrc_ownMode (c := c) (target := awayMode { s with clu := c }) (o := .forced)
    (hold := some (10000 * s.hpi.floor.hold)) h.inv
  obtain ⟨t, done, left, told_⟩ := runs_offInv runs (own ▸ kept) present (planDropped_station s) horn hornTimer
  have slot := left.status
  subst slot
  exact ⟨t, done, left, fun ended => told_ (after.fresh ended), after.stands⟩

/-- A row that has the inverter fault taken at a station on INV, the lines at `c`: the force. -/
theorem fault_forces (h : OnInv s) (urgent : s.link.urgent.length < 2)
    (runs : exec row s = .next (settle (inverterFault (told [] { s with clu := c }))))
    (kept : s.tsq.state.inProgress = false → ClaimKept { s with trc := { s.trc with
      ownMode := if c.fb.qual = (awayMode { s with clu := c }).feedback then awayMode { s with clu := c } else .inv } })
    (horn : c.horn = s.clu.horn) (hornTimer : c.hornTimer = s.clu.hornTimer)
    (short : carriedByOthers s < floorLoad s) :
    ∃ t, exec row s = .next t ∧ ForcedOff (planTold .fault s ++ forceRaised .inverterFault { s with clu := c })
      .inverterFault c (followedUp s) s t := by
  obtain ⟨status, forces, after⟩ := (inverterFault_leavesInv (l := []) (h.withLines c) urgent).2
    (by rw [floorLoad_clu]; exact short)
  rw [forces] at runs
  exact runs_forcedOff h runs after kept (isolatedFlag_followedUp s) horn hornTimer

/-- A row that has a station on INV force the floor, behind the events of `l`. -/
theorem force_runs {cause : ForceCause} (h : OnInv s) (urgent : s.link.urgent.length < 2)
    (runs : exec row s = .next (settle (force cause (told l { s with clu := c }))))
    (kept : s.tsq.state.inProgress = false → ClaimKept { s with trc := { s.trc with
      ownMode := if c.fb.qual = (awayMode { s with clu := c }).feedback then awayMode { s with clu := c } else .inv } })
    (horn : c.horn = s.clu.horn) (hornTimer : c.hornTimer = s.clu.hornTimer) :
    ∃ t, exec row s = .next t ∧ ForcedOff (l ++ forceRaised cause { s with clu := c }) cause c (causeFollowed cause s)
      s t := by
  obtain ⟨status, forces, after⟩ := force_leavesInv (l := l) cause (h.withLines c) urgent
  rw [forces] at runs
  refine runs_forcedOff h runs after kept ?_ horn hornTimer
  show isolatedFlag { s with vsm := causeFollowed cause s } = isolatedFlag s
  unfold causeFollowed
  split
  · exact isolatedFlag_followedUp s
  · rfl

end

/-! ## With nothing else to end -/

theorem claimKept_own {m : Mode} (own : m = s.trc.ownMode) (kept : ClaimKept s) :
    ClaimKept { s with trc := { s.trc with ownMode := m } } := by
  subst own
  exact kept

theorem planTold_none {r : Reason} (act : s.trc.activity = .none) : planTold r s = [] := by rw [planTold, act]

theorem runOverTold_idle {cause : EndCause} (idle : s.tsq.state.inProgress = false) : runOverTold cause s = [] := by
  rw [runOverTold, idle, if_neg Bool.false_ne_true]

theorem planDropped_none (act : s.trc.activity = .none) : planDropped s = s.link := by rw [planDropped, act]

theorem forceLink_none {c : ForceCause} (act : s.trc.activity = .none) :
    forceLink c s = { s.link with urgent := s.link.urgent ++ [queued (.force (BitVec.ofNat 8 c.code))] } := by
  rw [forceLink, planDropped_none act]

/-- The parts of a force behind a dropped activity and an ended run, told in their order. -/
theorem forceRaised_idle {c : ForceCause} (idle : s.tsq.state.inProgress = false) :
    forceRaised c s = forcedTold c s :: (riskTold (decide (c = .inverterFault)) s ++ causeTold c s) := by
  rw [forceRaised, runOverTold_idle idle, List.append_nil, List.append_assoc]
  rfl

theorem riskTold_able {ownFault : Bool} (bypass : s.clu.bypOk.qual = true) : riskTold ownFault s = [] := if_pos bypass

/-- A block that stands as it was may leave the list of those that change. -/
theorem sameBut_without {b c : List Block} {t : State} (x : Block) (h : SameBut b s t) (kept : sameBlock x s t)
    (sub : ∀ y ∈ b, y ≠ x → y ∈ c) : SameBut c s t := fun y hy => by
  by_cases same : y = x
  · exact same ▸ kept
  · exact h y fun mem => hy (sub y mem same)

section
variable (inv : Inv s) (h : OnInv s) (urgent : s.link.urgent.length < 2) (timer : s.clu.invFault.timer = some 0)
  (raw : s.clu.invFault.raw = true) (kept : ClaimKept s) (act : s.trc.activity = .none)
  (idle : s.tsq.state.inProgress = false)
include inv h urgent timer raw kept act idle

/-- INV-FAULT at a station on INV with no planned activity and no run: the dropout (R106). -/
theorem fault_dropsOut_idle (backed : floorLoad s ≤ carriedByOthers s) (away : s.clu.fb.qual ≠ .off) :
    ∃ t, exec (.stageInputQualified .invFault) s = .next t ∧ t.vsm = followedUp s ∧
      Raised (alarm .dropout (dropoutFigures s) :: followupTold Config.dropoutCauseCode s) s t ∧
      TrcIs (switchEntered .off .dropout s.trc.holdTimer s) t ∧
      t.clu = { commanded .off (faulted s) with horn := t.clu.horn, hornTimer := t.clu.hornTimer } ∧
      t.link = { s.link with status := t.link.status } ∧ StatusQueued t ∧ PortKept s t ∧
      SameBut [.link, .clu, .trc, .vsm, .hpi] s t := by
  obtain ⟨t, status, done, left, fresh⟩ := fault_dropsOut h urgent (fault_runs inv.events h timer raw)
    (fun _ => claimKept_own ((if_neg away).trans h.inv.symm) kept) rfl rfl backed
  obtain ⟨link, clu, rest⟩ := left.idle h.holds idle
  have raised := left.raised
  have trc := left.trc
  rw [planTold_none act, runOverTold_idle idle, List.nil_append, List.append_nil] at raised
  rw [planDropped_none act] at link
  rw [awayTrc, if_neg (by exact away)] at trc
  exact ⟨t, done, left.vsm, raised, trc, clu, link, fresh, left.port, rest⟩

/-- The same where the others cannot carry the floor load: the force (R102, R103, R106). -/
theorem fault_forces_idle (short : carriedByOthers s < floorLoad s)
    (away : s.clu.fb.qual ≠ (awayMode s).feedback) :
    ∃ t, exec (.stageInputQualified .invFault) s = .next t ∧ t.vsm = followedUp s ∧
      Raised (forcedTold .inverterFault s :: (riskTold true s ++ followupTold 6#8 s)) s t ∧
      TrcIs (switchEntered (awayMode s) .forced (some (10000 * s.hpi.floor.hold)) s) t ∧
      t.clu = { commanded (awayMode s) (faulted s) with horn := t.clu.horn, hornTimer := t.clu.hornTimer } ∧
      t.link = { s.link with urgent := s.link.urgent ++ [queued (.force 6#8)] } ∧ PortKept s t ∧
      SameBut [.link, .clu, .trc, .vsm, .hpi] s t := by
  obtain ⟨t, done, left, -, stands⟩ := fault_forces h urgent (fault_runs inv.events h timer raw)
    (fun _ => claimKept_own ((if_neg away).trans h.inv.symm) kept) rfl rfl short
  obtain ⟨link, clu, rest⟩ := left.idle h.holds idle
  have raised := left.raised
  have trc := left.trc
  rw [planTold_none act, List.nil_append, forceRaised_idle (by exact idle)] at raised
  rw [stands fun ended => ended.elim (by rw [idle]; decide) away, forceLink_none act] at link
  rw [awayTrc, if_neg (by exact away)] at trc
  exact ⟨t, done, left.vsm, raised, trc, clu, link, left.port, rest⟩

end

/-- A switch to INV that fails, as the row leaves it (R106). -/
theorem failSwitch_leaves {o : Origin} (inv : Inv s) (running : s.hpi.running = true) (kept : ClaimKept s)
    (timer : s.clu.invFault.timer = some 0) (raw : s.clu.invFault.raw = true)
    (act : s.trc.activity = .switching .inv o) (away : s.clu.fb.qual ≠ .off) :
    ∃ t, exec (.stageInputQualified .invFault) s = .next t ∧ t.vsm = followedUp s ∧
      Raised (alarm .dropout [] :: followupTold Config.dropoutCauseCode s) s t ∧
      TrcIs { s.trc with
        activity := .switching .off .dropout, proposal := none, executing := none, switchTimer := some 400
        overloadTimer := none } t ∧
      t.clu = { commanded .off (faulted s) with horn := t.clu.horn, hornTimer := t.clu.hornTimer } ∧ t.link = s.link ∧
      PortKept s t ∧ SameBut [.clu, .trc, .vsm, .hpi] s t := by
  have runs := stageInput_running (k := .invFault) timer running
  have active : (s.clu.stageLine .invFault).raw = true := raw
  have fails : stageChange .invFault true { s with clu := faulted s }
      = failSwitch (told [] { s with clu := faulted s }) := by
    rw [told_nil (by exact inv.events)]
    simp only [stageChange, if_true, invFaultActive, act]
  rw [active, stageQualified_fault raw, fails, failSwitch_told (s := { s with clu := faulted s }) act away] at runs
  have view : SameView s { s with
      clu := commanded .off (faulted s)
      trc := { s.trc with
        activity := .switching .off .dropout, proposal := none, executing := none, switchTimer := some 400
        overloadTimer := none }
      vsm := followedUp s } := ⟨rfl, rfl, isolatedFlag_followedUp s, rfl, rfl, rfl, rfl⟩
  obtain ⟨m, runs⟩ := runs_settled_told runs (view.claimKept rfl kept)
  exact ⟨_, runs, rfl, raised_told _ ⟨rfl, rfl, rfl, rfl, rfl, rfl, rfl, rfl⟩, rfl, rfl, rfl, portKept_told rfl,
    sameBut_of_eq⟩

/-- OVERLOAD at a station on INV with a tolerance of 0 and nothing to end (R104). -/
theorem overload_forces (inv : Inv s) (h : OnInv s) (urgent : s.link.urgent.length < 2) (kept : ClaimKept s)
    (timer : s.clu.overload.timer = some 0) (raw : s.clu.overload.raw = true) (none_ : s.hpi.floor.overloadTol = 0)
    (act : s.trc.activity = .none) (idle : s.tsq.state.inProgress = false) (bypass : s.clu.bypOk.qual = true)
    (away : s.clu.fb.qual ≠ .byp) :
    ∃ t, exec (.stageInputQualified .overload) s = .next t ∧
      Raised [alarm .transferForced [2#8, byteOf s.link.station.val]] s t ∧
      TrcIs (switchEntered .byp .forced (some (10000 * s.hpi.floor.hold)) s) t ∧
      t.clu = { commanded .byp (overloaded s) with
        horn := t.clu.horn, hornTimer := t.clu.hornTimer } ∧
      t.link = { s.link with urgent := s.link.urgent ++ [queued (.force 2#8)] } ∧ PortKept s t ∧
      SameBut [.link, .clu, .trc, .hpi] s t := by
  have runs : exec (.stageInputQualified .overload) s = .next (settle (force .overload
      (told [] { s with clu := overloaded s }))) := by
    have active : (s.clu.stageLine .overload).raw = true := raw
    have lines : stageQualified .overload s.clu = overloaded s :=
      congrArg (fun b => { s.clu with overload := ⟨b, b, none⟩ }) raw
    rw [stageInput_running (k := .overload) timer h.sends.1, active, lines, stageChange_overload_forces h.inv none_,
      told_nil (by exact inv.events)]
  have aim : awayMode { s with clu := overloaded s } = .byp := if_pos bypass
  have off : s.clu.fb.qual ≠ (awayMode { s with clu := overloaded s }).feedback :=
    aim.symm ▸ away
  obtain ⟨t, done, left, -, stands⟩ := force_runs h urgent runs
    (fun _ => claimKept_own ((if_neg (by exact off)).trans h.inv.symm) kept) rfl rfl
  obtain ⟨link, clu, rest⟩ := left.idle h.holds idle
  have raised := left.raised
  have trc := left.trc
  rw [List.nil_append, forceRaised_idle (by exact idle), riskTold_able (by exact bypass)] at raised
  rw [stands fun ended => ended.elim (by rw [idle]; decide) off, forceLink_none act] at link
  rw [awayTrc, if_neg (by exact off), aim] at trc
  rw [aim] at clu
  exact ⟨t, done, raised, trc, clu, link, left.port, sameBut_without .vsm rest left.vsm (by decide)⟩

theorem sends_of_onLine (h : OnLine s) : Sends s := ⟨h.1, by rw [h.2.1]; decide, h.2.2⟩

/-! ## The obligation -/

theorem followedUp_known (known : ∃ d ∈ s.vsm.dues, d.kind = .faultFollowup) :
    followedUp s = s.vsm ∧ ∀ cause, followupTold cause s = [] := by
  have holds : (s.vsm.dues.any fun d => decide (d.kind = .faultFollowup)) = true := by
    simpa using known
  exact ⟨if_pos holds, fun _ => if_pos holds⟩

/-- Settles O49. -/
theorem stageInputIsTaken : Obligations.StageInputIsTaken := by
  refine ⟨fun k s inv => ⟨stageInput_waits, fun timer kept => ?_⟩, fun s inv online kept => ?_,
    fun s inv online holds kept timer raised own present planned urgent room => ?_⟩
  · intro raw c₁
    refine ⟨stageInput_configuring timer, fun running => ⟨?_, ?_, ?_, ?_⟩⟩
    · rintro rfl
      exact runs_lines (trc := s.trc) (stageInput_running timer running) kept
    · rintro rfl tolerance
      have runs := stageInput_running timer running
      rw [stageChange_overload tolerance] at runs
      exact runs_lines runs kept
    · rintro rfl no
      have runs := stageInput_running timer running
      rw [stageChange_fault_none no] at runs
      exact runs_lines (trc := s.trc) runs kept
    · rintro rfl active unclaimed own act idle present live free urgent known
      have h := onInv_of_idle inv ⟨running, live, free⟩ (runClaim_of_unclaimed unclaimed) act own idle present
      have lines : c₁ = faulted s := congrArg (fun b => { s.clu with invFault := ⟨b, b, none⟩ }) active
      obtain ⟨vsm_, silent⟩ := followedUp_known known
      intro others switched
      refine ⟨fun backed away => ?_, fun short bypass away => ?_⟩
      · obtain ⟨t, done, vsm, told_, trc, clu, link, fresh, port, rest⟩ :=
          fault_dropsOut_idle inv h urgent timer active kept act idle backed away
        rw [silent] at told_
        exact ⟨t, done, told_, trc, lines ▸ clu, link, fresh, port,
          sameBut_without .vsm rest (vsm.trans vsm_) (by decide)⟩
      · have aim : awayMode s = .byp := if_pos bypass
        obtain ⟨t, done, vsm, told_, trc, clu, link, port, rest⟩ :=
          fault_forces_idle inv h urgent timer active kept act idle short (by rw [aim]; exact away)
        rw [silent, riskTold_able bypass] at told_
        rw [aim] at trc clu
        exact ⟨t, done, told_, trc, lines ▸ clu, link, port, sameBut_without .vsm rest (vsm.trans vsm_) (by decide)⟩
  · have idleOn (unclaimed : s.lva = none) (act : s.trc.activity = .none) (own : s.trc.ownMode = .inv)
        (idle : s.tsq.state.inProgress = false) (present : isolatedFlag s = false) : OnInv s :=
      onInv_of_idle inv (sends_of_onLine online) (runClaim_of_unclaimed unclaimed) act own idle present
    intro faulted_ commands hold
    refine ⟨fun timer raw => ⟨fun act own unclaimed idle present urgent => ⟨fun backed away => ?_, ?_⟩, ?_⟩, ?_⟩
    · obtain ⟨t, done, vsm, raised, trc, clu, link, fresh, port, rest⟩ :=
        fault_dropsOut_idle inv (idleOn unclaimed act own idle present) urgent timer raw kept act idle backed away
      exact ⟨t, done, vsm, raised, trc, clu, link, fresh, port, rest⟩
    · rintro target short rfl away
      obtain ⟨t, done, vsm, raised, trc, clu, link, port, rest⟩ :=
        fault_forces_idle inv (idleOn unclaimed act own idle present) urgent timer raw kept act idle short away
      exact ⟨t, done, vsm, raised, trc, clu, link, port, rest⟩
    · intro origin act away
      exact failSwitch_leaves inv online.1 kept timer raw act away
    · intro timer raw none_ act own unclaimed idle present urgent bypass away
      exact overload_forces inv (idleOn unclaimed act own idle present) urgent kept timer raw none_ act idle bypass away
  · have h : OnInv s :=
      ⟨sends_of_onLine online, holds, planned, fun _ => room, inv.coord, present, own⟩
    have runs := fault_runs inv.events h timer raised
    refine ⟨fun backed away => ?_, ?_⟩
    · obtain ⟨t, status, done, left, fresh⟩ := fault_dropsOut h urgent runs
        (fun idle => claimKept_own ((if_neg away).trans own.symm) (kept idle)) rfl rfl backed
      have trc := left.trc
      rw [awayTrc, if_neg (by exact away)] at trc
      exact ⟨t, done, ⟨left.vsm, left.ended, left.port, left.rest⟩, left.raised, trc, left.clu, left.link, fresh⟩
    · rintro target short rfl away
      obtain ⟨t, done, left, fresh, stands⟩ := fault_forces h urgent runs
        (fun idle => claimKept_own ((if_neg away).trans own.symm) (kept idle)) rfl rfl short
      have trc := left.trc
      rw [awayTrc, if_neg (by exact away)] at trc
      have link := left.link
      rw [runReleased_forceLink] at link
      have raised := left.raised
      simp only [forceRaised, ← List.append_assoc] at raised
      refine ⟨t, done, ⟨left.vsm, left.ended, left.port, left.rest⟩, raised, trc, left.clu, link,
        fun run => fresh (.inl run), fun idle => stands fun ended => ended.elim (by rw [idle]; decide) away⟩

end Sys2Proof.Machine
end

section
/-! The COMPLETED closure of a visit in closed form: the dues it clears, the string it renews and its log record (R82,
R149, R163, R165). -/

namespace Sys2Proof.Machine

variable {s u : State} {l : List EventSpec} {v : Visit}

/-! ## The dues that a closure clears (R146, R149) -/

theorem clearedDues_eq (v : Visit) (s : State) : clearedDues v s = duesClosed v s := by
  refine List.filter_congr fun k _ => ?_
  cases k <;> simp [DueKind.clearedBy, Bool.decide_and, Bool.decide_or]

/-- DUE_CLEARED of a kind, with the number of the visit (R149). -/
def dueClearedTold (v : Visit) (k : DueKind) : EventSpec :=
  notice .dueCleared (byteOf k.code :: be16 (BitVec.ofNat 16 v.number))

/-- The part with the dues of the listed kinds removed. -/
def withoutDues (ks : List DueKind) (s : State) : State :=
  s.modVsm fun m => { m with dues := m.dues.filter fun d => decide (d.kind ∉ ks) }

theorem clearDue_told {k : DueKind} (held : k ∈ s.vsm.dues.map (·.kind)) :
    clearDue k (u16 v.number) (told l s) = told (l ++ [dueClearedTold v k]) (withoutDues [k] s) := by
  have holds : holdsDue k (told l s) = true := by
    obtain ⟨d, mem, kind⟩ := List.mem_map.mp held
    exact List.any_eq_true.mpr ⟨d, mem, decide_eq_true kind⟩
  rw [clearDue, if_pos holds, told_modVsm, raise_told, dueClearedTold, be16_ofNat, withoutDues]
  simp only [List.mem_singleton]
  rfl

theorem withoutDues_append (a b : List DueKind) (s : State) :
    withoutDues b (withoutDues a s) = withoutDues (a ++ b) s := by
  refine congrArg (fun d => { s with vsm := { s.vsm with dues := d } }) ?_
  simp only [withoutDues, State.modVsm_vsm, List.filter_filter, List.mem_append, not_or, Bool.decide_and, Bool.and_comm]

/-- Dues that stand on the list are cleared one by one, each told in its turn. -/
theorem clearDues_told {ks : List DueKind} (nodup : ks.Nodup) (held : ∀ k ∈ ks, k ∈ s.vsm.dues.map (·.kind)) :
    ks.foldl (fun s k => clearDue k (u16 v.number) s) (told l s)
      = told (l ++ ks.map (dueClearedTold v)) (withoutDues ks s) := by
  induction ks generalizing l s with
  | nil =>
    have stands : withoutDues [] s = s := by
      refine congrArg (fun d => { s with vsm := { s.vsm with dues := d } }) ?_
      simp
    rw [List.foldl_nil, List.map_nil, List.append_nil, stands]
  | cons k ks ih =>
    obtain ⟨fresh, nodup⟩ := List.nodup_cons.mp nodup
    have left : ∀ k' ∈ ks, k' ∈ (withoutDues [k] s).vsm.dues.map (·.kind) := fun k' mem => by
      obtain ⟨d, on, kind⟩ := List.mem_map.mp (held k' (List.mem_cons_of_mem k mem))
      refine List.mem_map.mpr ⟨d, List.mem_filter.mpr ⟨on, ?_⟩, kind⟩
      exact decide_eq_true fun same => fresh (List.mem_singleton.mp (kind ▸ same) ▸ mem)
    rw [List.foldl_cons, clearDue_told (held k List.mem_cons_self), ih nodup left, withoutDues_append,
      List.append_assoc]
    rfl

/-! ## The account behind a closure (R82, R163) -/

/-- A new H leaves of the account no more open than Q, the runtime and the weak flag (R79). -/
theorem recomputeHealth_frame (s : State) : ∃ q runtime weak, recomputeHealth s = { s with bau := { s.bau with
    hAge := ageHealth s.bau.carry.u (uRated s), h := healthNow s, q := q, runtime := runtime, weak := weak } } := by
  have shape (a : Bau → Nat) (h : Nat) : ∃ q runtime weak,
      (if h = s.bau.h then s.modBau fun b => { b with hAge := a b }
        else refreshWeak (refreshRuntime ((s.modBau fun b => { b with hAge := a b }).modBau fun b =>
          { b with h := h, q := min b.q (qFullOf (s.hpi.cab.cRated.getD 0) h) })))
        = { s with bau := { s.bau with hAge := a s.bau, h := h, q := q, runtime := runtime, weak := weak } } := by
    split
    · rename_i same
      subst same
      exact ⟨s.bau.q, s.bau.runtime, s.bau.weak, rfl⟩
    · exact ⟨_, _, _, rfl⟩
  exact shape (fun b => ageHealth b.carry.u (uRated s)) (healthNow s)

/-- The account of a new string (R82). -/
theorem renewAccount_eq (s : State) : renewAccount s = { s with bau := { s.bau with
    carry := s.bau.carry.renewed, floatCount := 0, hAge := 1000, h := 1000
    weak := decide (1000 < s.hpi.cab.weakTh), q := fullCharge 1000 s * 500 / 1000
    runtime := runtimeFor (fullCharge 1000 s * 500 / 1000) (ownLoad s) s } } := by
  have aged (r : Nat) : ageHealth s.bau.carry.renewed.u r = 1000 := by
    show 1000 - min 1000 (1000 * 0 / r) = 1000
    rw [Nat.mul_zero, Nat.zero_div, Nat.min_zero]
  have now : healthNow (s.modBau fun b => { b with floatCount := 0, carry := b.carry.renewed }) = 1000 := by
    show min (ageHealth s.bau.carry.renewed.u _) 1000 = 1000
    rw [aged, Nat.min_self]
  obtain ⟨q, runtime, weak, new⟩ :=
    recomputeHealth_frame (s.modBau fun b => { b with floatCount := 0, carry := b.carry.renewed })
  rw [now] at new
  unfold renewAccount
  dsimp only
  rw [new]
  have weakNow : weakOf 1000 .none s.hpi.cab.weakTh = decide (1000 < s.hpi.cab.weakTh) := Bool.or_false _
  have shape (a : Nat) : refreshRuntime (setCharge 500 (refreshWeak { s with bau := { s.bau with
        carry := s.bau.carry.renewed, floatCount := 0, hAge := a, h := 1000, q := q, runtime := runtime
        weak := weak } }))
      = { s with bau := { s.bau with
        carry := s.bau.carry.renewed, floatCount := 0, hAge := a, h := 1000
        weak := weakOf 1000 .none s.hpi.cab.weakTh, q := fullCharge 1000 s * 500 / 1000
        runtime := runtimeFor (fullCharge 1000 s * 500 / 1000) (ownLoad s) s } } := rfl
  have filled := shape (ageHealth s.bau.carry.renewed.u
    (uRated (s.modBau fun b => { b with floatCount := 0, carry := b.carry.renewed })))
  rw [aged, weakNow] at filled
  refine Eq.trans ?_ filled
  have hAge : ageHealth (s.modBau fun b => { b with floatCount := 0, carry := b.carry.renewed }).bau.carry.u
      (uRated (s.modBau fun b => { b with floatCount := 0, carry := b.carry.renewed })) = 1000 := aged _
  rw [hAge]
  rfl

/-! ## The closure (R163) -/

theorem duesClosed_congr (dues : u.vsm.dues = s.vsm.dues) : duesClosed v u = duesClosed v s := by
  simp only [duesClosed, dues]

/-- The VSM with the dues of a closure cleared and the visit gone. -/
def vsmCleared (v : Visit) (s : State) : Vsm :=
  { s.vsm with visit := none, dues := s.vsm.dues.filter fun d => decide (d.kind ∉ duesClosed v s) }

/-- The account with the periodic count of a closure (R163). -/
def periodicClosed (v : Visit) (s : State) : Bau :=
  { s.bau with carry := { s.bau.carry with
    minVisit := if v.kind = .isolation ∧ .periodicDone ∈ v.tasks then 0 else s.bau.carry.minVisit } }

theorem fullCharge_congr {h : Nat} (cab : u.hpi.cab = s.hpi.cab) : fullCharge h u = fullCharge h s := by
  rw [fullCharge, cab]
  rfl

theorem runtimeFor_congr {q p : Nat} (cab : u.hpi.cab = s.hpi.cab) : runtimeFor q p u = runtimeFor q p s := by
  rw [runtimeFor, cab]
  rfl

theorem ownLoad_congr (sns : u.sns = s.sns) : ownLoad u = ownLoad s := by
  rw [ownLoad, sns]
  rfl

/-- The part with the account of a new string and both arm flags set (R82). -/
def batteryRenewed (u : State) : State :=
  { u with
    bau := { u.bau with
      carry := u.bau.carry.renewed, floatCount := 0, hAge := 1000, h := 1000
      weak := decide (1000 < u.hpi.cab.weakTh), q := fullCharge 1000 u * 500 / 1000
      runtime := runtimeFor (fullCharge 1000 u * 500 / 1000) (ownLoad u) u }
    vsm := { u.vsm with armReplace := true, armInspect := true } }

/-- A replaced battery has the dues evaluated on the account of the new string (R82, R147). -/
theorem replaceBattery_told : replaceBattery (told l u) = told (l ++ (duesRaised (batteryRenewed u)).map (·.2))
    ((batteryRenewed u).modVsm fun _ => duesEvaluated (batteryRenewed u)) := by
  rw [replaceBattery, renewAccount_eq, fullCharge_congr (s := u) (u := told l u) rfl,
    ownLoad_congr (s := u) (u := told l u) rfl, runtimeFor_congr (s := u) (u := told l u) rfl]
  exact evaluateDues_told (l := l) (s := batteryRenewed u)

theorem duesEvaluated_congr (bau : u.bau = s.bau) (cab : u.hpi.cab = s.hpi.cab) (vsm : u.vsm = s.vsm) :
    duesRaised u = duesRaised s ∧ duesEvaluated u = duesEvaluated s := by
  have raised : duesRaised u = duesRaised s :=
    duesRaised_congr bau cab (by rw [vsm]) (by rw [vsm]) fun _ _ => by rw [vsm]
  exact ⟨raised, by simp only [duesEvaluated, raised, bau, cab, vsm]⟩

/-- What a COMPLETED closure tells before VISIT_STATE. -/
def closureDues (v : Visit) (s : State) : List EventSpec := (vsmClosed v s).2.dropLast

theorem vsmClosed_replaced (new : .batteryReplaced ∈ v.tasks) :
    let armed : State := { s with
      bau := bauClosed v s, vsm := { vsmCleared v s with armReplace := true, armInspect := true } }
    vsmClosed v s = (duesEvaluated armed, (duesClosed v s).map (dueClearedTold v) ++ (duesRaised armed).map (·.2)
      ++ [closureTold v .completed [0#8, 0#8]]) := by
  intro armed
  rw [vsmClosed, if_pos new]
  rfl

theorem vsmClosed_kept (old : .batteryReplaced ∉ v.tasks) : vsmClosed v s = (vsmCleared v s,
    (duesClosed v s).map (dueClearedTold v) ++ [closureTold v .completed [0#8, 0#8]]) := by
  rw [vsmClosed, if_neg old]
  rfl

/-- What a COMPLETED closure does before the log record: the dues cleared, the periodic count, the new string with its
evaluation. `s` is the part with the visit still open. -/
theorem completeVisit_told (nodup : (s.vsm.dues.map (·.kind)).Nodup) (open_ : u.vsm = { s.vsm with visit := none })
    (bau : u.bau = s.bau) (cab : u.hpi.cab = s.hpi.cab) (sns : u.sns = s.sns) :
    completeVisit v (told l u)
      = told (l ++ closureDues v s) { u with bau := bauClosed v s, vsm := (vsmClosed v s).1 } := by
  have dues : u.vsm.dues = s.vsm.dues := by rw [open_]
  have kinds : clearedDues v (told l u) = duesClosed v s := (clearedDues_eq v _).trans (duesClosed_congr dues)
  have cleared : withoutDues (duesClosed v s) u = { u with vsm := vsmCleared v s } := by
    rw [withoutDues, State.modVsm, open_]
    rfl
  have folded := clearDues_told (l := l) (s := u) (v := v) (ks := duesClosed v s)
    (nodup.filter _) (fun k mem => by rw [dues]; exact (List.mem_filter.mp mem).1)
  rw [cleared] at folded
  have periodic : (if v.kind = .isolation ∧ v.tasks.contains .periodicDone
        then (told (l ++ (duesClosed v s).map (dueClearedTold v)) { u with vsm := vsmCleared v s }).modBau
          fun b => { b with carry := { b.carry with minVisit := 0 } }
        else told (l ++ (duesClosed v s).map (dueClearedTold v)) { u with vsm := vsmCleared v s })
      = told (l ++ (duesClosed v s).map (dueClearedTold v))
        { u with bau := periodicClosed v s, vsm := vsmCleared v s } := by
    simp only [List.contains_iff_mem, periodicClosed, ← bau]
    split <;> rfl
  rw [completeVisit, kinds, folded]
  dsimp only
  rw [periodic]
  by_cases new : .batteryReplaced ∈ v.tasks
  · have account : bauClosed v s = { (periodicClosed v s) with
        carry := (periodicClosed v s).carry.renewed, floatCount := 0, hAge := 1000, h := 1000
        weak := decide (1000 < s.hpi.cab.weakTh), q := fullCharge 1000 s * 500 / 1000
        runtime := runtimeFor (fullCharge 1000 s * 500 / 1000) (ownLoad s) s } := if_pos new
    have renewed :
        (batteryRenewed { u with bau := periodicClosed v s, vsm := vsmCleared v s }).bau = bauClosed v s := by
      rw [account, batteryRenewed, fullCharge_congr (s := s) (by exact cab), ownLoad_congr (s := s) (by exact sns),
        runtimeFor_congr (s := s) (by exact cab), cab]
    obtain ⟨raised, evaluated⟩ := duesEvaluated_congr (s := { s with
      bau := bauClosed v s, vsm := { vsmCleared v s with armReplace := true, armInspect := true } }) renewed cab rfl
    rw [if_pos (by rw [List.contains_iff_mem]; exact new), replaceBattery_told, closureDues, vsmClosed_replaced new,
      List.dropLast_concat, raised, evaluated, List.append_assoc, ← renewed]
    rfl
  · have same : bauClosed v s = periodicClosed v s := if_neg new
    rw [if_neg (by rw [List.contains_iff_mem]; exact new), closureDues, vsmClosed_kept new, List.dropLast_concat, same]

theorem bauClosed_minutes (v : Visit) (s : State) : (bauClosed v s).minutes = s.bau.minutes := by
  unfold bauClosed
  dsimp only
  split <;> rfl

/-- The log record and VISIT_STATE of a closure with no cause (R163, R165). -/
theorem tellClosure_told {r : LogRec} : tellVisit v VisitOutcome.completed.code [] (appendLog r (told l u))
    = told (l ++ [closureTold v .completed [0#8, 0#8]]) { u with vsm := { u.vsm with log := logged r u.vsm.log } } := by
  rw [tellVisit, appendLog, told_modVsm, raise_told, closureTold, be16_ofNat]
  rfl

/-- A COMPLETED closure of a visit that has isolated the station, behind events: the STATUS with the flag clear is
queued before the dues are cleared. -/
theorem closeVisit_completed (visit : s.vsm.visit = some v) (isolates : v.state.isolates = true) (sends : Sends s)
    (nodup : (s.vsm.dues.map (·.kind)).Nodup) : closeVisit .completed [] (told l s)
      = told (l ++ (vsmClosed v s).2) { withStatus { s with vsm := { s.vsm with visit := none } } with
        bau := bauClosed v s
        vsm := { (vsmClosed v s).1 with log := logged (logOf v .completed (duesClosed v s) s) s.vsm.log } } := by
  have opened : (told l s).vsm.visit = some v := visit
  have queued_ : queueStatus ((told l s).modVsm fun m => { m with visit := none })
      = told l (withStatus { s with vsm := { s.vsm with visit := none } }) :=
    queueStatus_told_eq (s := { s with vsm := { s.vsm with visit := none } }) sends
  have kinds : clearedDues v (told l (withStatus { s with vsm := { s.vsm with visit := none } })) = duesClosed v s :=
    (clearedDues_eq v _).trans (duesClosed_congr rfl)
  have done := completeVisit_told (l := l) (s := s) (v := v)
    (u := withStatus { s with vsm := { s.vsm with visit := none } }) nodup rfl rfl rfl rfl
  have log : (vsmClosed v s).1.log = s.vsm.log := by
    by_cases new : .batteryReplaced ∈ v.tasks
    · rw [vsmClosed_replaced new]
      rfl
    · rw [vsmClosed_kept new]
      rfl
  have told_ : (vsmClosed v s).2 = closureDues v s ++ [closureTold v .completed [0#8, 0#8]] := by
    by_cases new : .batteryReplaced ∈ v.tasks
    · rw [closureDues, vsmClosed_replaced new, List.dropLast_concat]
    · rw [closureDues, vsmClosed_kept new, List.dropLast_concat]
  have record (u : State) (h : u.bau.minutes = s.bau.minutes) :
      logRecOf v .completed (duesClosed v s) u = logOf v .completed (duesClosed v s) s := by
    rw [logRecOf, h]
    rfl
  rw [closeVisit, opened]
  dsimp only
  rw [if_pos isolates, if_pos rfl, if_pos rfl, queued_, kinds, done, record _ (by exact bauClosed_minutes v s), told_,
    ← List.append_assoc, tellClosure_told, log]

end Sys2Proof.Machine
end

section
/-! The end of a switch or a mismatch: what it reports by its origin, and the forces that it brings at a station that
comes to INV (R87, R88, R99, R104, R107, R156). -/

namespace Sys2Proof.Machine

variable {s u : State} {l : List EventSpec} {target : Mode} {origin : Origin}

/-! ## The mode reached (R87, R108) -/

/-- The switch has the station leave INV. -/
abbrev LeavesInv (target : Mode) (s : State) : Prop := s.trc.ownMode = .inv ∧ target ≠ .inv

theorem setOwnMode_eq (m : Mode) (s : State) : setOwnMode m s = s.modTrc fun t => { t with
    ownMode := m
    overloadTimer := if t.ownMode = .inv ∧ m ≠ .inv then none else t.overloadTimer
    splits := if t.ownMode = .inv ∧ m ≠ .inv then Vector.replicate 16 0 else t.splits } := by
  refine congrArg (fun t => { s with trc := t }) ?_
  dsimp only
  split <;> rfl

/-- The transfer coordinator at the end of a switch. -/
def endedTrc (target : Mode) (origin : Origin) (s : State) : Trc :=
  { s.trc with
    ownMode := target, activity := .none, switchTimer := none
    executing := if origin = .planned then none else s.trc.executing
    overloadTimer := if LeavesInv target s then none else s.trc.overloadTimer
    splits := if LeavesInv target s then Vector.replicate 16 0 else s.trc.splits }

/-- The part at the end of a switch, before it is reported. -/
def modeReached (target : Mode) (s : State) : State :=
  { s with trc := { endedTrc target .forced s with executing := s.trc.executing } }

theorem endSwitchCore_eq (target : Mode) (origin : Origin) (s : State) : endSwitchCore target origin s
    = if s.trc.ownMode = target then reportEnd target origin (modeReached target s)
      else queueStatus (reportEnd target origin (modeReached target s)) := by
  rw [endSwitchCore, setOwnMode_eq, setActivity_none]
  rfl

/-! ## The visit that the end completes (R126, R156, R163) -/

theorem vsmClosed_congr {v : Visit} (vsm : u.vsm = s.vsm) (bau : u.bau = s.bau) (cab : u.hpi.cab = s.hpi.cab)
    (sns : u.sns = s.sns) : bauClosed v u = bauClosed v s ∧ vsmClosed v u = vsmClosed v s := by
  have account : bauClosed v u = bauClosed v s := by
    unfold bauClosed
    simp only [bau, cab, fullCharge_congr (s := s) (u := u) cab, ownLoad_congr (s := s) (u := u) sns,
      runtimeFor_congr (s := s) (u := u) cab]
  have kinds : duesClosed v u = duesClosed v s := duesClosed_congr (by rw [vsm])
  have cleared : vsmCleared v u = vsmCleared v s := by rw [vsmCleared, kinds, vsm]; rfl
  refine ⟨account, ?_⟩
  by_cases new : .batteryReplaced ∈ v.tasks
  · obtain ⟨raised, evaluated⟩ := duesEvaluated_congr
      (u := { u with bau := bauClosed v u, vsm := { vsmCleared v u with armReplace := true, armInspect := true } })
      (s := { s with bau := bauClosed v s, vsm := { vsmCleared v s with armReplace := true, armInspect := true } })
      account cab (by rw [cleared])
    rw [vsmClosed_replaced new, vsmClosed_replaced new, kinds]
    exact congrArg₂ (fun a b => (a, (duesClosed v s).map (dueClearedTold v) ++ List.map (·.2) b
      ++ [closureTold v .completed [0#8, 0#8]])) evaluated raised
  · rw [vsmClosed_kept new, vsmClosed_kept new, kinds, cleared]

theorem vsmClosed_visit (v : Visit) (s : State) : (vsmClosed v s).1.visit = none := by
  by_cases new : .batteryReplaced ∈ v.tasks
  · rw [vsmClosed_replaced new]
    rfl
  · rw [vsmClosed_kept new]
    rfl

/-- The part with the visit completed that the end of the switch completes. -/
def visitEnded (origin : Origin) (s : State) : State := { s with
  bau := (joinedVisit origin s).elim s.bau fun v => bauClosed v s
  lva := (joinedVisit origin s).elim s.lva fun _ => none
  vsm := (joinedVisit origin s).elim s.vsm fun v =>
    { (vsmClosed v s).1 with log := logged (logOf v .completed (duesClosed v s) s) s.vsm.log } }

theorem visitEnded_some {v : Visit} (joined : joinedVisit origin s = some v) : visitEnded origin s = { s with
    bau := bauClosed v s, lva := none
    vsm := { (vsmClosed v s).1 with log := logged (logOf v .completed (duesClosed v s) s) s.vsm.log } } := by
  simp only [visitEnded, joined, Option.elim_some]

theorem visitEnded_none (joined : joinedVisit origin s = none) : visitEnded origin s = s := by
  simp only [visitEnded, joined, Option.elim_none]

/-- The part after the end of a switch, with what stands in its STATUS slot and the lines. -/
def switchEnded (target : Mode) (origin : Origin) (status : Option TxEntry) (clu : Clu) (s : State) : State :=
  { visitEnded origin s with
    link := { s.link with coord := coordAtEnd origin s, status := status }
    clu := clu, trc := endedTrc target origin s }

theorem joinedVisit_some {v : Visit} (h : joinedVisit origin s = some v) :
    origin = .join ∧ s.vsm.visit = some v ∧ v.state = .restoring ∧ v.joinRequested = true := by
  unfold joinedVisit at h
  split at h
  · rename_i join
    obtain ⟨visit, asked⟩ := Option.filter_eq_some_iff.mp h
    rw [Bool.and_eq_true, decide_eq_true_iff] at asked
    exact ⟨join, visit, asked⟩
  · exact absurd h (by simp)

/-- The part whose granted claim, if it has one, is released, with what stands in its STATUS slot. -/
def unclaimed (status : Option TxEntry) (s : State) : State :=
  { s with link := { s.link with coord := (released s.lva none s).coord, status := status }, lva := none }

/-- The SERVICE claim that a completed visit holds is released (R126). -/
theorem releaseService_told (claim : ∀ c ∈ s.lva, c.kind = .service ∧ c.granted = true) (sends : Sends s)
    (room : s.link.coord.length < 8) : ∃ status, releaseKind .service (told l s) = told l (unclaimed status s) := by
  cases held : s.lva with
  | none =>
    refine ⟨s.link.status, ?_⟩
    have other : (told l s).lva.map (·.kind) ≠ some .service := by simp [held]
    rw [releaseKind, if_neg other, unclaimed, held, released, List.append_nil, ← held]
  | some c =>
    obtain ⟨kind, granted⟩ := claim c held
    have mine : (told l s).lva.map (·.kind) = some .service := by
      rw [told_lva, held, Option.map_some, kind]
    have linked : (told l s).modLink (claimReleased c)
        = told l { s with link := { s.link with coord := (released s.lva none s).coord } } := by
      have link : claimReleased c s.link = { s.link with coord := (released s.lva none s).coord } := by
        rw [claimReleased, granted, held]
        rfl
      rw [← link]
      rfl
    rw [releaseKind, if_pos mine, releaseClaim_eq (s := told l s) held sends room, linked]
    exact ⟨_, rfl⟩

/-! ## The report (R87) -/

section
variable {id : PropId} {dir : Direction} {clu : Clu}

/-- Without a visit that asked for it a JOIN switch has nothing to report. -/
theorem joinEnded_none (visit : u.vsm.visit = s.vsm.visit) (joined : joinedVisit .join s = none) : joinEnded u = u := by
  rw [joinedVisit, if_pos rfl] at joined
  rw [joinEnded, visit]
  cases open_ : s.vsm.visit with
  | none => rfl
  | some v =>
    rw [open_] at joined
    refine if_neg fun asked => ?_
    obtain ⟨restoring, requested⟩ := asked
    simp [Option.filter, restoring, requested] at joined

/-- The end of the switch of a visit that asked for JOIN completes the visit. -/
theorem joinEnded_some {v : Visit} (joined : joinedVisit .join s = some v) (nodup : (s.vsm.dues.map (·.kind)).Nodup)
    (sends : Sends s) (room : s.link.coord.length < 8) (claim : ∀ c ∈ s.lva, c.kind = .service ∧ c.granted = true) :
    ∃ status, joinEnded (told l (modeReached target { s with clu := clu }))
        = told (l ++ (vsmClosed v s).2) (switchEnded target .join status clu s)
      ∧ StatusQueued (switchEnded target .join status clu s) := by
  obtain ⟨-, visit, restoring, requested⟩ := joinedVisit_some joined
  obtain ⟨status, freed⟩ :=
    releaseService_told (l := l) (s := modeReached target { s with clu := clu }) claim sends room
  have closes := closeVisit_completed (l := l) (s := unclaimed status (modeReached target { s with clu := clu }))
    (v := v) visit (by rw [restoring]; rfl) sends nodup
  obtain ⟨account, vsm⟩ := vsmClosed_congr (v := v) (s := s)
    (u := unclaimed status (modeReached target { s with clu := clu })) rfl rfl rfl rfl
  have kinds : duesClosed v (unclaimed status (modeReached target { s with clu := clu })) = duesClosed v s :=
    duesClosed_congr rfl
  have coord : coordAtEnd .join s = (released s.lva none s).coord := by rw [coordAtEnd, joined]
  have ended (status : Option TxEntry) : switchEnded target .join status clu s = { s with
      link := { s.link with coord := (released s.lva none s).coord, status := status }
      bau := bauClosed v s, lva := none
      vsm := { (vsmClosed v s).1 with log := logged (logOf v .completed (duesClosed v s) s) s.vsm.log }
      clu := clu, trc := endedTrc target .join s } := by
    rw [switchEnded, visitEnded_some joined, coord]
  have opened : (told l (modeReached target { s with clu := clu })).vsm.visit = some v := visit
  refine ⟨(withStatus { unclaimed status (modeReached target { s with clu := clu }) with
    vsm := { s.vsm with visit := none } }).link.status, ?_, ?_⟩
  · rw [joinEnded, opened]
    refine (if_pos ⟨restoring, requested⟩).trans ?_
    rw [freed]
    refine closes.trans ?_
    rw [account, vsm, kinds, ended]
    rfl
  · rw [ended]
    refine statusQueued_of (u := { unclaimed status (modeReached target { s with clu := clu }) with
      vsm := { s.vsm with visit := none } }) rfl rfl rfl ?_ rfl
    rw [isolatedFlag, vsmClosed_visit]
    rfl

theorem endTold_unplanned (unplanned : origin ≠ .planned) (joined : joinedVisit origin s = none) :
    endTold target origin id dir s = [] := by rw [endTold, if_neg unplanned, joined]

theorem coordAtEnd_none (joined : joinedVisit origin s = none) : coordAtEnd origin s = s.link.coord := by
  rw [coordAtEnd, joined]

/-- An end with no visit to complete. -/
theorem switchEnded_none (joined : joinedVisit origin s = none) : switchEnded target origin s.link.status clu s
    = { s with clu := clu, trc := endedTrc target origin s } := by
  rw [switchEnded, visitEnded_none joined, coordAtEnd_none joined]

/-- An end of an origin other than PLANNED and JOIN has nothing to report. -/
theorem reportEnd_silent (other : origin ≠ .planned ∧ origin ≠ .join) (u : State) : reportEnd target origin u = u := by
  cases origin with
  | planned => exact absurd rfl other.1
  | join => exact absurd rfl other.2
  | isolate => rfl
  | forced => rfl
  | dropout => rfl
  | stage => rfl

/-- TRANSFER_DONE of a planned transfer takes the record of its execution with it (R99). -/
theorem tellDone_told (executing : s.trc.executing = some (id, dir)) :
    tellDone target (told l (modeReached target { s with clu := clu }))
      = told (l ++ endTold target .planned id dir s) { s with clu := clu, trc := endedTrc target .planned s } := by
  have record : (told l (modeReached target { s with clu := clu })).trc.executing = some (id, dir) := executing
  rw [tellDone, record]
  dsimp only
  rw [raise_told, endTold, if_pos rfl]
  rfl

/-- What the end of a switch reports to the block that its origin names (R87). -/
theorem reportEnd_told (planned : origin = .planned → s.trc.executing = some (id, dir))
    (nodup : (s.vsm.dues.map (·.kind)).Nodup) (sends : Sends s)
    (claim : joinedVisit origin s ≠ none →
      s.link.coord.length < 8 ∧ ∀ c ∈ s.lva, c.kind = .service ∧ c.granted = true) :
    ∃ status, reportEnd target origin (told l (modeReached target { s with clu := clu }))
        = told (l ++ endTold target origin id dir s) (switchEnded target origin status clu s)
      ∧ (joinedVisit origin s ≠ none → StatusQueued (switchEnded target origin status clu s))
      ∧ (joinedVisit origin s = none → status = s.link.status) := by
  cases joined : joinedVisit origin s with
  | some v =>
    obtain ⟨rfl, -⟩ := joinedVisit_some joined
    obtain ⟨room, service⟩ := claim (by rw [joined]; nofun)
    obtain ⟨status, ends, fresh⟩ :=
      joinEnded_some (l := l) (target := target) (clu := clu) joined nodup sends room service
    refine ⟨status, ?_, fun _ => fresh, nofun⟩
    rw [endTold, if_neg (by decide), joined]
    exact ends
  | none =>
    refine ⟨s.link.status, ?_, fun some_ => absurd rfl some_, fun _ => rfl⟩
    rw [switchEnded_none joined]
    by_cases transfer : origin = .planned
    · subst transfer
      exact tellDone_told (planned rfl)
    · have trc : modeReached target { s with clu := clu } = { s with clu := clu, trc := endedTrc target origin s } := by
        rw [modeReached, endedTrc, endedTrc, if_neg transfer]
      rw [endTold_unplanned transfer joined, List.append_nil, ← trc]
      by_cases join : origin = .join
      · subst join
        exact joinEnded_none (s := s) rfl joined
      · exact reportEnd_silent ⟨transfer, join⟩ _

/-- The end of a switch or a mismatch, behind events (R87, R88). -/
theorem endSwitchCore_told (planned : origin = .planned → s.trc.executing = some (id, dir))
    (nodup : (s.vsm.dues.map (·.kind)).Nodup) (sends : Sends s)
    (claim : joinedVisit origin s ≠ none →
      s.link.coord.length < 8 ∧ ∀ c ∈ s.lva, c.kind = .service ∧ c.granted = true) :
    ∃ status, endSwitchCore target origin (told l { s with clu := clu })
        = told (l ++ endTold target origin id dir s) (switchEnded target origin status clu s)
      ∧ (s.trc.ownMode ≠ target ∨ joinedVisit origin s ≠ none → StatusQueued (switchEnded target origin status clu s))
      ∧ (s.trc.ownMode = target → joinedVisit origin s = none → status = s.link.status) := by
  obtain ⟨status, reports, fresh, stands⟩ := reportEnd_told (l := l) (target := target) (clu := clu) planned nodup sends
    claim
  have ends : endSwitchCore target origin (told l { s with clu := clu }) = if s.trc.ownMode = target
      then reportEnd target origin (told l (modeReached target { s with clu := clu }))
      else queueStatus (reportEnd target origin (told l (modeReached target { s with clu := clu }))) :=
    endSwitchCore_eq target origin _
  rw [reports] at ends
  by_cases same : s.trc.ownMode = target
  · rw [if_pos same] at ends
    exact ⟨status, ends, fun changed => fresh (changed.resolve_left fun other => other same), fun _ => stands⟩
  · have sends' : Sends (switchEnded target origin status clu s) := sends
    rw [if_neg same, queueStatus_told_eq sends'] at ends
    exact ⟨_, ends, fun _ => statusQueued_of (u := switchEnded target origin status clu s) rfl,
      fun h => absurd h same⟩

end

end Sys2Proof.Machine
end

section
/-! A station that comes to INV with OVERLOAD active or MAINT closed: the forces that follow at once (R104, R107). -/

namespace Sys2Proof.Machine

variable {s u : State} {l : List EventSpec}

/-! ## A force at a station that is on INV alone or has begun to leave it (R103) -/

/-- A station on INV, or in a forced switch away from it, with nothing for a force to end. -/
structure Leaving (s : State) : Prop where
  inv     : s.trc.ownMode = .inv
  live    : s.link.state ≠ .listen
  present : isolatedFlag s = false
  idle    : s.tsq.state.inProgress = false
  claim   : ∀ c ∈ s.lva, c.kind = .service
  away    : s.clu.fb.qual ≠ (awayMode s).feedback
  act     : s.trc.activity = .none ∨ (s.trc.activity = .switching (awayMode s) .forced
    ∧ s.trc.switchTimer = some 400 ∧ s.trc.splits = Vector.replicate 16 0)

/-- The part with a FORCE of that cause queued that has begun to leave INV. -/
def forcedAway (c : ForceCause) (s : State) : State := { s with
  link := { s.link with urgent := s.link.urgent ++ [queued (.force (BitVec.ofNat 8 c.code))] }
  clu := commanded (awayMode s) s.clu
  trc := switchEntered (awayMode s) .forced (some (10000 * s.hpi.floor.hold)) s }

theorem awayMode_feedback (s : State) : (awayMode s).feedback ≠ .inv := by
  unfold awayMode
  split <;> decide

theorem awayMode_other (s : State) : awayMode s ≠ .inv := by
  unfold awayMode
  split <;> decide

theorem clearForForce_leaving (h : Leaving s) : clearForForce s = s := by
  have drops : dropProposal none [] s = s := by
    rcases h.act with act | ⟨act, -⟩ <;> rw [dropProposal, act]
  have runs : abortRun .forced s = s := by
    rw [abortRun, h.idle]
    exact if_neg Bool.false_ne_true
  have keeps : releaseKind .test s = s := by
    refine if_neg fun test => ?_
    obtain ⟨c, claim, kind⟩ := Option.map_eq_some_iff.mp test
    exact absurd ((h.claim c claim).symm.trans kind) (by decide)
  rw [clearForForce, drops, runs, keeps]

/-- The switch that a force has such a station enter, or stay in. -/
theorem switchAway_leaving (h : Leaving s) : switchAway (awayMode s) .forced s = { s with
    clu := commanded (awayMode s) s.clu
    trc := switchEntered (awayMode s) .forced s.trc.holdTimer s } := by
  have other := awayMode_other s
  rcases h.act with act | ⟨act, timer, splits⟩
  · exact switchAway_eq act (by decide) other h.away
  · have keeps : switchTimerFor (awayMode s) s.trc = some 400 := by
      rw [switchTimerFor, act]
      exact (if_pos rfl).trans timer
    have live : s.trc.activity ≠ .none := by rw [act]; nofun
    have begins : beginSwitch (awayMode s) .forced s = { s with
        clu := commanded (awayMode s) s.clu
        trc := switchEntered (awayMode s) .forced s.trc.holdTimer s } := by
      rw [beginSwitch, setActivity_planned (by exact live), setModeCmd_eq, switchEntered, ← splits]
      simp only [State.modTrc, keeps, other, if_false]
      rfl
    rw [switchAway, begins, if_neg (by exact h.away)]

theorem Leaving.told (h : Leaving s) (l : List EventSpec) : Leaving (told l s) :=
  ⟨h.inv, h.live, h.present, h.idle, h.claim, h.away, h.act⟩

/-- A station acts on its own force (R103). -/
theorem actOnForce_leaving (h : Leaving s) : actOnForce s.link.station false (told l s)
    = told (l ++ riskTold false s) { s with
      clu := commanded (awayMode s) s.clu
      trc := switchEntered (awayMode s) .forced (some (10000 * s.hpi.floor.hold)) s } := by
  have present : ¬ isolatedFlag (told l s) = true := by
    show ¬ isolatedFlag s = true
    rw [h.present]
    exact Bool.false_ne_true
  have switched : switchAway (awayMode s) .forced (clearForForce (told l s)) = told l { s with
      clu := commanded (awayMode s) s.clu, trc := switchEntered (awayMode s) .forced s.trc.holdTimer s } := by
    rw [clearForForce_leaving (h.told l)]
    exact switchAway_leaving (h.told l)
  have holds (k : List EventSpec) : startHold (told k { s with
        clu := commanded (awayMode s) s.clu, trc := switchEntered (awayMode s) .forced s.trc.holdTimer s })
      = told k { s with
        clu := commanded (awayMode s) s.clu
        trc := switchEntered (awayMode s) .forced (some (10000 * s.hpi.floor.hold)) s } := by
    rw [startHold, Nat.mul_comm]
    rfl
  rw [actOnForce, if_neg present, if_pos (.inl h.inv), ← holds]
  cases bypass : s.clu.bypOk.qual with
  | true =>
    have away : awayMode s = .byp := if_pos bypass
    have silent : riskTold false s = [] := if_pos bypass
    rw [away] at switched ⊢
    rw [if_pos (by exact bypass), switched, silent, List.append_nil]
  | false =>
    have away : awayMode s = .off := if_neg (by rw [bypass]; exact Bool.false_ne_true)
    have risk : riskTold false s = [specOf .cannotFollow (stationByte s.link.station)] := by
      rw [riskTold, bypass]
      rfl
    rw [away] at switched ⊢
    rw [if_neg (by show ¬ s.clu.bypOk.qual = true; rw [bypass]; exact Bool.false_ne_true), if_neg Bool.false_ne_true,
      switched, raise_told, risk]

/-- What a force with no fault cause raises (R102, R103). -/
def plainTold (c : ForceCause) (s : State) : List EventSpec := forcedTold c s :: riskTold false s

/-- A force with no fault cause at such a station. -/
theorem force_leaving {c : ForceCause} (quiet : c = .overload ∨ c = .interlock) (h : Leaving s)
    (urgent : s.link.urgent.length < 2) :
    force c (told l s) = told (l ++ plainTold c s) (forcedAway c s) := by
  have queues : Leaving (s.modLink fun k =>
      { k with urgent := k.urgent ++ [queued (.force (BitVec.ofNat 8 c.code))] }) :=
    ⟨h.inv, h.live, h.present, h.idle, h.claim, h.away, h.act⟩
  have acted : actOnForce s.link.station false (postForce c
        (raise .transferForced (u8 c.code ++ stationByte s.link.station) (told l s)))
      = told (l ++ plainTold c s) (forcedAway c s) := by
    have grouped : l ++ plainTold c s = l ++ [forcedTold c s] ++ riskTold false s := by simp [plainTold]
    rw [raise_told, postForce_told, postForce_room h.live urgent, grouped]
    exact actOnForce_leaving queues
  rcases quiet with rfl | rfl
  · exact acted
  · exact acted

/-! ## The two looks at the end of a switch (R104, R107) -/

/-- The part that has been forced off INV for each of those causes. -/
def forcedFor (causes : List ForceCause) (s : State) : State := { s with
  link := { s.link with urgent := s.link.urgent ++ causes.map fun c => queued (.force (byteOf c.code)) }
  clu := commanded (awayMode s) s.clu
  trc := switchEntered (awayMode s) .forced (some (10000 * s.hpi.floor.hold)) s }

theorem commanded_commanded (m : Mode) (c : Clu) : commanded m (commanded m c) = commanded m c := by
  simp [commanded]

theorem leaving_forcedAway {c : ForceCause} (h : Leaving s) : Leaving (forcedAway c s) :=
  ⟨h.inv, h.live, h.present, h.idle, h.claim, h.away, .inr ⟨rfl, rfl, rfl⟩⟩

/-- A second force finds the switch of the first, and queues its own FORCE. -/
theorem forcedAway_forcedAway (a b : ForceCause) (s : State) : forcedAway b (forcedAway a s) = forcedFor [a, b] s := by
  have clu : commanded (awayMode s) (commanded (awayMode s) s.clu) = commanded (awayMode s) s.clu :=
    commanded_commanded _ _
  rw [forcedFor, ← clu, List.map_cons, ← List.singleton_append, ← List.append_assoc]
  rfl

/-- OVERLOAD forces the floor at once. -/
abbrev OverloadForces (s : State) : Prop := s.clu.overload.qual = true ∧ s.hpi.floor.overloadTol = 0

/-- The part with the overload timer of a station that comes to INV under an active OVERLOAD. -/
def overloadStarted (s : State) : State := s.modTrc fun t => { t with
  overloadTimer := if s.clu.overload.qual then some (10000 * s.hpi.floor.overloadTol) else t.overloadTimer }

theorem checkOverload_starts (inv : s.trc.ownMode = .inv) (tolerated : ¬ OverloadForces s) :
    checkOverload (told l s) = told l (overloadStarted s) := by
  cases active : s.clu.overload.qual with
  | false =>
    have stands : overloadStarted s = s := by simp [overloadStarted, State.modTrc, active]
    rw [stands]
    exact checkOverload_clear (by simp [active])
  | true =>
    have term : ¬ s.hpi.floor.overloadTol = 0 := fun none_ => tolerated ⟨active, none_⟩
    refine (if_pos ⟨inv, active⟩).trans ((if_neg (by exact term)).trans ?_)
    rw [overloadStarted, active, Nat.mul_comm]
    rfl

theorem checkOverload_forces (h : Leaving s) (urgent : s.link.urgent.length < 2) (forces : OverloadForces s) :
    checkOverload (told l s) = told (l ++ forceTold .overload s) (forcedAway .overload s) := by
  refine (if_pos ⟨h.inv, forces.1⟩).trans ((if_pos (by exact forces.2)).trans ?_)
  exact force_leaving (.inl rfl) h urgent

theorem forceTold_interlock (inv : s.trc.ownMode = .inv) :
    forceTold .interlock s = specOf .interlock (u8 1 ++ u8 s.trc.ownMode.code) :: plainTold .interlock s := by
  rw [inv]
  rfl

theorem checkMaint_forces (h : Leaving s) (urgent : s.link.urgent.length < 2) (closed : s.clu.maint.qual = true) :
    checkMaint (told l s) = told (l ++ forceTold .interlock s) (forcedAway .interlock s) := by
  refine (if_pos ⟨h.inv, closed⟩).trans ?_
  rw [tellInterlock, raise_told, force_leaving (.inr rfl) h urgent, forceTold_interlock h.inv, List.append_assoc]
  rfl

/-- Both looks without a cause to force. -/
theorem looks_quiet (inv : s.trc.ownMode = .inv) (quiet : causesAtInv s = []) :
    checkMaint (checkOverload (told l s)) = told l (overloadStarted s) := by
  obtain ⟨overload, maint⟩ := List.append_eq_nil_iff.mp quiet
  have tolerated : ¬ OverloadForces s := fun forces => by rw [if_pos forces] at overload; cases overload
  have opened : ¬ s.clu.maint.qual = true := fun closed => by rw [if_pos closed] at maint; cases maint
  rw [checkOverload_starts inv tolerated]
  exact checkMaint_clear fun both => opened both.2

/-- Both looks with a cause, each of which queues its FORCE. -/
theorem looks_force (h : Leaving s) (act : s.trc.activity = .none) (some_ : causesAtInv s ≠ [])
    (room : s.link.urgent.length + (causesAtInv s).length ≤ 2) :
    checkMaint (checkOverload (told l s))
      = told (l ++ (causesAtInv s).flatMap fun c => forceTold c s) (forcedFor (causesAtInv s) s) := by
  by_cases forces : OverloadForces s
  · by_cases closed : s.clu.maint.qual = true
    · have causes : causesAtInv s = [.overload, .interlock] := by rw [causesAtInv, if_pos forces, if_pos closed]; rfl
      have empty : s.link.urgent.length = 0 := by
        rw [causes] at room
        exact Nat.le_zero.mp (Nat.le_of_add_le_add_right room)
      have second : (forcedAway .overload s).link.urgent.length < 2 := by simp [forcedAway, empty]
      have same : forceTold .interlock (forcedAway .overload s) = forceTold .interlock s := rfl
      rw [checkOverload_forces h (by omega) forces, checkMaint_forces (leaving_forcedAway h) second closed,
        forcedAway_forcedAway, same, causes, List.append_assoc]
      simp only [List.flatMap_cons, List.flatMap_nil, List.append_nil]
    · have causes : causesAtInv s = [.overload] := by rw [causesAtInv, if_pos forces, if_neg closed]; rfl
      rw [causes] at room ⊢
      rw [checkOverload_forces h (Nat.lt_of_succ_le room) forces]
      simp only [List.flatMap_cons, List.flatMap_nil, List.append_nil]
      exact checkMaint_clear (u := forcedAway .overload s) fun both => closed both.2
  · by_cases closed : s.clu.maint.qual = true
    · have causes : causesAtInv s = [.interlock] := by rw [causesAtInv, if_neg forces, if_pos closed]; rfl
      have started : Leaving (overloadStarted s) :=
        ⟨h.inv, h.live, h.present, h.idle, h.claim, h.away, .inl act⟩
      rw [causes] at room ⊢
      rw [checkOverload_starts h.inv forces, checkMaint_forces started (by simpa [overloadStarted] using room) closed]
      simp only [List.flatMap_cons, List.flatMap_nil, List.append_nil]
      rfl
    · exact absurd (by rw [causesAtInv, if_neg forces, if_neg closed]; rfl) some_

end Sys2Proof.Machine
end

section
/-! Qualified feedback: the row, the end of a switch or a mismatch and what follows it (R41, R85, R87 to R89). -/

namespace Sys2Proof.Machine

variable {s : State} {l : List EventSpec} {target : Mode} {origin : Origin}

/-! ## The row (R41, R85) -/

/-- The lines with the feedback qualified as it stands raw. -/
def feedbackTaken (s : State) : Clu :=
  { s.clu with fb := { s.clu.fb with qual := rawFeedback s.clu.fb, timer := none } }

theorem feedback_waits (waits : s.clu.fb.timer ≠ some 0) : exec .feedbackQualified s = .next s :=
  congrArg Host.Outcome.next (if_neg (due_waiting waits))

theorem feedback_runs (timer : s.clu.fb.timer = some 0) : exec .feedbackQualified s
    = .next (if s.hpi.running then
        settle (feedbackChange s.clu.fb.qual (rawFeedback s.clu.fb) { s with clu := feedbackTaken s })
      else { s with clu := feedbackTaken s, trc := { s.trc with ownMode := (rawFeedback s.clu.fb).adopted } }) :=
  congrArg Host.Outcome.next (if_pos (due_zero timer))

theorem feedback_configuring (timer : s.clu.fb.timer = some 0) (stopped : s.hpi.running = false) :
    exec .feedbackQualified s = .next { s with
      clu := feedbackTaken s, trc := { s.trc with ownMode := (rawFeedback s.clu.fb).adopted } } := by
  rw [feedback_runs timer, stopped, if_neg Bool.false_ne_true]

theorem feedback_running (timer : s.clu.fb.timer = some 0) (running : s.hpi.running = true) :
    exec .feedbackQualified s
      = .next (settle (feedbackChange s.clu.fb.qual (rawFeedback s.clu.fb) { s with clu := feedbackTaken s })) := by
  rw [feedback_runs timer, if_pos running]

/-- The station is in a switch or a mismatch with that target. -/
abbrev Switching (target : Mode) (origin : Origin) (s : State) : Prop :=
  s.trc.activity = .switching target origin ∨ s.trc.activity = .mismatch target origin

theorem feedbackChange_switching {before after : FbMode} {c : Clu} (act : Switching target origin s) :
    feedbackChange before after { s with clu := c }
      = if after = target.feedback then endSwitch target origin { s with clu := c } else { s with clu := c } := by
  rcases act with act | act <;> simp only [feedbackChange, act]

theorem feedbackChange_unswitched {before after : FbMode} {c : Clu} (planned : Unswitched s) :
    feedbackChange before after { s with clu := c } = unsolicited before after { s with clu := c } := by
  cases act : s.trc.activity with
  | switching m o => exact absurd act (planned m o).1
  | mismatch m o => exact absurd act (planned m o).2
  | none => simp only [feedbackChange, act]
  | proposed id dir => simp only [feedbackChange, act]
  | following id dir => simp only [feedbackChange, act]
  | armed id dir ex => simp only [feedbackChange, act]

/-! ## What the end of a switch leaves (R87, R88) -/

/-- The part after the end of a switch with the URGENT queue, the STATUS slot, the transfer coordinator and the lines
as given. -/
def endedWith (origin : Origin) (urgent : List TxEntry) (status : Option TxEntry) (trc : Trc) (clu : Clu) (s : State) :
    State :=
  { visitEnded origin s with
    link := { s.link with urgent := urgent, coord := coordAtEnd origin s, status := status }, clu := clu, trc := trc }

theorem endReported (origin : Origin) (s : State) {t : State} (vsm : t.vsm = (visitEnded origin s).vsm)
    (bau : t.bau = (visitEnded origin s).bau) (lva : t.lva = (visitEnded origin s).lva) : EndReported origin s t := by
  rw [EndReported]
  cases joined : joinedVisit origin s with
  | none =>
    rw [visitEnded_none joined] at vsm bau lva
    exact ⟨vsm, bau, lva⟩
  | some v =>
    rw [visitEnded_some joined] at vsm bau lva
    exact ⟨⟨bau, vsm⟩, lva⟩

/-- What a row leaves that ends a switch or a mismatch. -/
structure EndedIn (l : List EventSpec) (origin : Origin) (urgent : List TxEntry) (status : Option TxEntry) (trc : Trc)
    (clu : Clu) (s t : State) : Prop where
  raised   : Raised l s t
  reported : EndReported origin s t
  link     : t.link = { s.link with
    urgent := urgent, coord := coordAtEnd origin s, status := t.link.status }
  status   : t.link.status = status
  trc      : TrcIs trc t
  clu      : t.clu = { clu with horn := t.clu.horn, hornTimer := t.clu.hornTimer }
  port     : PortKept s t
  rest     : SameBut [.vsm, .bau, .lva, .link, .clu, .trc, .hpi] s t

theorem runs_ended {row : Instr} {urgent : List TxEntry} {status : Option TxEntry} {trc : Trc} {clu : Clu}
    (runs : exec row s = .next (settle (told l (endedWith origin urgent status trc clu s))))
    (kept : joinedVisit origin s = none → ClaimKept { s with trc := { s.trc with ownMode := trc.ownMode } })
    (horn : clu.horn = s.clu.horn) (hornTimer : clu.hornTimer = s.clu.hornTimer) :
    ∃ t, exec row s = .next t ∧ EndedIn l origin urgent status trc clu s t
      ∧ (StatusQueued (endedWith origin urgent status trc clu s) → StatusQueued t) := by
  have keeps : ClaimKept (endedWith origin urgent status trc clu s) := by
    cases joined : joinedVisit origin s with
    | some v =>
      refine claimKept_none ?_
      show (visitEnded origin s).lva = none
      rw [visitEnded_some joined]
    | none =>
      rw [endedWith, visitEnded_none joined]
      exact SameView.claimKept (s := { s with trc := { s.trc with ownMode := trc.ownMode } })
        ⟨rfl, rfl, rfl, rfl, rfl, rfl, rfl⟩ rfl (kept joined)
  have minutes : (visitEnded origin s).bau.minutes = s.bau.minutes := by
    cases joined : joinedVisit origin s with
    | none => rw [visitEnded_none joined]
    | some v =>
      rw [visitEnded_some joined]
      exact bauClosed_minutes v s
  obtain ⟨m, runs⟩ := runs_settled_told runs keeps
  exact ⟨_, runs, ⟨raised_told l ⟨rfl, rfl, rfl, rfl, minutes, rfl, horn, hornTimer⟩, endReported origin s rfl rfl rfl,
    rfl, rfl, rfl, rfl, portKept_told rfl, sameBut_of_eq⟩, fun fresh => statusQueued_congr fresh rfl⟩

/-- A station that has come to INV by the end of a switch, as a force finds it. -/
theorem leaving_switchEnded {status : Option TxEntry} {clu : Clu} (live : s.link.state ≠ .listen)
    (idle : s.tsq.state.inProgress = false) (there : clu.fb.qual = .inv)
    (alone : joinedVisit origin s = none → isolatedFlag s = false ∧ ∀ c ∈ s.lva, c.kind = .service) :
    Leaving (switchEnded .inv origin status clu s) := by
  have stands : isolatedFlag (visitEnded origin s) = false ∧ ∀ c ∈ (visitEnded origin s).lva, c.kind = .service := by
    cases joined : joinedVisit origin s with
    | none =>
      rw [visitEnded_none joined]
      exact alone joined
    | some v =>
      rw [visitEnded_some joined]
      refine ⟨?_, fun c claim => nomatch claim⟩
      rw [isolatedFlag, vsmClosed_visit]
  exact ⟨rfl, live, stands.1, idle, stands.2, there.symm ▸ (awayMode_feedback _).symm, .inl rfl⟩

/-! ## The end of a switch and what follows (R87, R88, R104, R107) -/

/-- The switch has the station come to INV. -/
abbrev ComesToInv (target : Mode) (s : State) : Prop := target = .inv ∧ s.trc.ownMode ≠ .inv

/-- The causes with which the end of a switch has the floor forced. -/
def causesAtEnd (target : Mode) (s : State) : List ForceCause := if ComesToInv target s then causesAtInv s else []

/-- The transfer coordinator at the end of a switch with no force, the overload timer started where it is to run. -/
def endedOn (target : Mode) (origin : Origin) (s : State) : Trc := { endedTrc target origin s with
  overloadTimer :=
    if LeavesInv target s then none
    else if ComesToInv target s ∧ s.clu.overload.qual = true then some (10000 * s.hpi.floor.overloadTol)
    else s.trc.overloadTimer }

theorem endedOn_stays (stays : ¬ ComesToInv target s) : endedOn target origin s = endedTrc target origin s := by
  have started : ¬ (ComesToInv target s ∧ s.clu.overload.qual = true) := fun both => stays both.1
  rw [endedOn, if_neg started]
  rfl

theorem endedOn_comes (comes : ComesToInv target s) : endedOn target origin s = { endedTrc target origin s with
    overloadTimer := if s.clu.overload.qual then some (10000 * s.hpi.floor.overloadTol)
      else (endedTrc target origin s).overloadTimer } := by
  have enters : ¬ LeavesInv target s := fun leaves => comes.2 leaves.1
  have active : (ComesToInv target s ∧ s.clu.overload.qual = true) ↔ s.clu.overload.qual = true := and_iff_right comes
  have stood : (endedTrc target origin s).overloadTimer = s.trc.overloadTimer := if_neg enters
  rw [endedOn, if_neg enters, stood, if_congr active rfl rfl]

/-- The transfer coordinator and the lines behind the end of a switch and the forces that it brings. -/
def trcAtEnd (target : Mode) (origin : Origin) (s : State) : Trc :=
  if causesAtEnd target s = [] then endedOn target origin s
  else switchEntered (awayMode s) .forced (some (10000 * s.hpi.floor.hold))
    { s with trc := endedOn target origin s }

theorem trcAtEnd_ownMode (target : Mode) (origin : Origin) (s : State) :
    (trcAtEnd target origin s).ownMode = target := by
  unfold trcAtEnd
  split <;> rfl

def cluAtEnd (target : Mode) (s : State) : Clu :=
  if causesAtEnd target s = [] then feedbackTaken s else commanded (awayMode s) (feedbackTaken s)

/-- The part behind the end of a switch and the forces that it brings. -/
def afterEnd (target : Mode) (origin : Origin) (status : Option TxEntry) (s : State) : State :=
  endedWith origin (s.link.urgent ++ (causesAtEnd target s).map fun c => queued (.force (byteOf c.code))) status
    (trcAtEnd target origin s) (cluAtEnd target s) s

section
variable (inv : Inv s) (sends : Sends s) (there : rawFeedback s.clu.fb = target.feedback)
  (alone : causesAtEnd target s ≠ [] → s.link.urgent.length + (causesAtEnd target s).length ≤ 2
    ∧ s.tsq.state.inProgress = false
    ∧ (joinedVisit origin s = none → isolatedFlag s = false ∧ ∀ c ∈ s.lva, c.kind = .service))
include sends there alone

/-- The two looks, or none, behind the end of a switch. -/
theorem looksAtEnd (status : Option TxEntry) :
    (if ComesToInv target s then
        checkMaint (checkOverload (told l (switchEnded target origin status (feedbackTaken s) s)))
      else told l (switchEnded target origin status (feedbackTaken s) s))
      = told (l ++ (causesAtEnd target s).flatMap fun c => forceTold c s) (afterEnd target origin status s) := by
  by_cases comes : ComesToInv target s
  · obtain rfl : target = .inv := comes.1
    have causes : causesAtEnd .inv s = causesAtInv s := if_pos comes
    rw [causes] at alone
    rw [if_pos comes, afterEnd, trcAtEnd, cluAtEnd, causes]
    by_cases quiet : causesAtInv s = []
    · rw [looks_quiet rfl (by exact quiet), quiet, if_pos rfl, if_pos rfl, endedOn_comes comes, List.flatMap_nil,
        List.append_nil, List.map_nil, List.append_nil]
      rfl
    · obtain ⟨room, idle, present⟩ := alone quiet
      rw [looks_force (leaving_switchEnded sends.2.1 idle there present) rfl (by exact quiet) (by exact room),
        if_neg quiet, if_neg quiet]
      rfl
  · have causes : causesAtEnd target s = [] := if_neg comes
    rw [if_neg comes, afterEnd, trcAtEnd, cluAtEnd, causes, if_pos rfl, if_pos rfl, endedOn_stays comes,
      List.flatMap_nil, List.append_nil, List.map_nil, List.append_nil]
    rfl

include inv

/-- Feedback that equals the target of a switch or a mismatch, as the row leaves it. -/
theorem feedback_ends {id : PropId} {dir : Direction} (timer : s.clu.fb.timer = some 0)
    (act : Switching target origin s) (planned : origin = .planned → s.trc.executing = some (id, dir))
    (kept : joinedVisit origin s = none → ClaimKept { s with trc := { s.trc with ownMode := target } })
    (claim : joinedVisit origin s ≠ none →
      s.link.coord.length < 8 ∧ ∀ c ∈ s.lva, c.kind = .service ∧ c.granted = true) :
    ∃ t status, exec .feedbackQualified s = .next t
      ∧ EndedIn (endTold target origin id dir s ++ (causesAtEnd target s).flatMap fun c => forceTold c s) origin
        (s.link.urgent ++ (causesAtEnd target s).map fun c => queued (.force (byteOf c.code))) status
        (trcAtEnd target origin s) (cluAtEnd target s) s t
      ∧ (s.trc.ownMode ≠ target ∨ joinedVisit origin s ≠ none → StatusQueued t)
      ∧ (s.trc.ownMode = target → joinedVisit origin s = none → status = s.link.status) := by
  obtain ⟨status, ends, fresh, stands⟩ := endSwitchCore_told (l := []) (target := target) (clu := feedbackTaken s)
    planned inv.dues sends claim
  have runs := feedback_running timer sends.1
  have ended : endSwitch target origin { s with clu := feedbackTaken s }
      = if ComesToInv target s
        then checkMaint (checkOverload (endSwitchCore target origin (told [] { s with clu := feedbackTaken s })))
        else endSwitchCore target origin (told [] { s with clu := feedbackTaken s }) := by
    rw [told_nil (by exact inv.events)]
    rfl
  rw [feedbackChange_switching act, if_pos there, ended, ends, List.nil_append, looksAtEnd sends there alone] at runs
  have mode := trcAtEnd_ownMode target origin s
  have horn : (cluAtEnd target s).horn = s.clu.horn ∧ (cluAtEnd target s).hornTimer = s.clu.hornTimer := by
    unfold cluAtEnd
    split <;> exact ⟨rfl, rfl⟩
  obtain ⟨t, done, left, told_⟩ := runs_ended runs (mode.symm ▸ kept) horn.1 horn.2
  exact ⟨t, status, done, left, fun changed => told_ (statusQueued_congr (fresh changed) rfl rfl mode rfl rfl), stands⟩

end

end Sys2Proof.Machine
end

section
/-! Feedback that no switch asked for, and the obligation (R89, R100, R103, R106). -/

namespace Sys2Proof.Machine

variable {s : State} {l : List EventSpec}

/-- A RUNNING part with no attempt in progress may send. -/
theorem sends_of_running (inv : Inv s) (running : s.hpi.running = true) (attempt : s.link.attempt = none) : Sends s :=
  ⟨running, fun listen => absurd ((inv.listen.mp listen).symm.trans running) Bool.false_ne_true, attempt⟩

/-! ## Feedback that does not leave INV (R89) -/

/-- The part whose stage has returned to the mode command, which is then the own mode. -/
def stageReturned (s : State) : State := { s with
  clu := feedbackTaken s
  trc := { s.trc with
    ownMode := s.clu.modeCmd
    overloadTimer := if s.trc.ownMode = .inv then none else s.trc.overloadTimer
    splits := if s.trc.ownMode = .inv then Vector.replicate 16 0 else s.trc.splits } }

section
variable (inv : Inv s) (sends : Sends s) (planned : Unswitched s) (timer : s.clu.fb.timer = some 0)
  (stays : ¬ (s.clu.fb.qual = .inv ∧ (rawFeedback s.clu.fb = .byp ∨ rawFeedback s.clu.fb = .off)))
include inv sends planned timer stays

theorem feedback_unsolicited : exec .feedbackQualified s
    = .next (settle (if rawFeedback s.clu.fb = s.clu.modeCmd.feedback
        then stageReturns (told [] { s with clu := feedbackTaken s })
        else enterMismatch (told [] { s with clu := feedbackTaken s }))) := by
  rw [feedback_running timer sends.1, feedbackChange_unswitched planned, unsolicited,
    if_neg fun both => stays ⟨both.1, .inl both.2⟩, if_neg fun both => stays ⟨both.1, .inr both.2⟩,
    told_nil (by exact inv.events)]
  rfl

/-- A mismatch drops a planned activity with no event. -/
theorem feedback_mismatch (other : rawFeedback s.clu.fb ≠ s.clu.modeCmd.feedback) (kept : ClaimKept s) :
    ∃ t, exec .feedbackQualified s = .next t ∧ Raised [alarm .mismatch []] s t ∧
      TrcIs { s.trc with
        activity := .mismatch s.clu.modeCmd .stage, splits := Vector.replicate 16 0
        proposal := if s.trc.activity = .none then s.trc.proposal else none } t ∧
      t.link = planDropped s ∧ t.clu = { feedbackTaken s with horn := t.clu.horn, hornTimer := t.clu.hornTimer } ∧
      PortKept s t ∧ SameBut [.link, .clu, .trc, .hpi] s t := by
  have drops := dropProposal_told (l := []) (s := { s with clu := feedbackTaken s }) (reason := none) planned sends.2.2
    inv.coord
  have enters : enterMismatch (told [] { s with clu := feedbackTaken s }) = told [alarm .mismatch []] { s with
      clu := feedbackTaken s, link := planDropped s
      trc := { planEndedTrc s with activity := .mismatch s.clu.modeCmd .stage, splits := Vector.replicate 16 0 } } := by
    rw [enterMismatch, drops, setActivity_leaves rfl (by nofun), told_modTrc, raise_told]
    rfl
  have runs := feedback_unsolicited inv sends planned timer stays
  rw [if_neg other, enters] at runs
  have view : SameView s { s with
      clu := feedbackTaken s, link := planDropped s
      trc := { planEndedTrc s with activity := .mismatch s.clu.modeCmd .stage, splits := Vector.replicate 16 0 } } :=
    ⟨planDropped_station s, rfl, rfl, rfl, rfl, rfl, rfl⟩
  obtain ⟨m, runs⟩ := runs_settled_told runs (view.claimKept rfl kept)
  exact ⟨_, runs, raised_told _ ⟨rfl, rfl, rfl, rfl, rfl, rfl, rfl, rfl⟩, rfl, rfl, rfl, portKept_told rfl,
    sameBut_of_eq⟩

/-- The stage stands at the mode command again, which is the own mode. -/
theorem feedback_stands (same : rawFeedback s.clu.fb = s.clu.modeCmd.feedback) (own : s.trc.ownMode = s.clu.modeCmd)
    (kept : ClaimKept s) :
    ∃ t, exec .feedbackQualified s = .next t ∧ t.clu = feedbackTaken s ∧ TrcIs s.trc t ∧ SameBut [.clu, .trc] s t := by
  have runs := feedback_unsolicited inv sends planned timer stays
  have stands : stageReturns { s with clu := feedbackTaken s } = { s with clu := feedbackTaken s } := if_pos own
  rw [if_pos same, told_nil (by exact inv.events), stands] at runs
  exact runs_lines (trc := s.trc) runs kept

/-- The stage returns to the mode command, which becomes the own mode. -/
theorem feedback_returns (same : rawFeedback s.clu.fb = s.clu.modeCmd.feedback) (own : s.trc.ownMode ≠ s.clu.modeCmd)
    (kept : ClaimKept { s with trc := { s.trc with ownMode := s.clu.modeCmd } })
    (quiet : s.clu.modeCmd = .inv → s.clu.overload.qual = false) :
    ∃ t, exec .feedbackQualified s = .next t ∧ t.clu = feedbackTaken s ∧
      TrcIs { s.trc with
        ownMode := s.clu.modeCmd
        overloadTimer := if s.trc.ownMode = .inv then none else s.trc.overloadTimer
        splits := if s.trc.ownMode = .inv then Vector.replicate 16 0 else s.trc.splits } t ∧
      t.link = { s.link with status := t.link.status } ∧ StatusQueued t ∧ SameBut [.link, .clu, .trc] s t := by
  have leaves : LeavesInv s.clu.modeCmd s ↔ s.trc.ownMode = .inv :=
    ⟨And.left, fun inv => ⟨inv, fun cmd => own (inv.trans cmd.symm)⟩⟩
  have mode : setOwnMode s.clu.modeCmd { s with clu := feedbackTaken s } = stageReturned s := by
    refine (setOwnMode_eq _ _).trans ?_
    simp only [State.modTrc, if_congr leaves rfl rfl]
    rfl
  have reported : queueStatus (setOwnMode s.clu.modeCmd { s with clu := feedbackTaken s })
      = withStatus (stageReturned s) := by rw [mode, queueStatus_eq (s := stageReturned s) sends]
  have looks (u : State) (lines : u.clu.overload.qual = s.clu.overload.qual) :
      (if s.clu.modeCmd = .inv then checkOverload u else u) = u := by
    split
    · rename_i toInv
      exact if_neg fun both => absurd (lines.symm.trans both.2) (by rw [quiet toInv]; exact Bool.false_ne_true)
    · rfl
  have returns : stageReturns { s with clu := feedbackTaken s } = withStatus (stageReturned s) :=
    (if_neg own).trans ((looks _ (congrArg (·.clu.overload.qual) reported)).trans reported)
  have runs := feedback_unsolicited inv sends planned timer stays
  rw [if_pos same, told_nil (by exact inv.events), returns] at runs
  have view : SameView { s with trc := { s.trc with ownMode := s.clu.modeCmd } } (withStatus (stageReturned s)) :=
    ⟨rfl, rfl, rfl, rfl, rfl, rfl, rfl⟩
  obtain ⟨m, runs⟩ := runs_settled runs (view.claimKept rfl kept)
  exact ⟨_, runs, rfl, rfl, rfl, statusQueued_of rfl, sameBut_of_eq⟩

end

/-! ## Feedback that leaves INV (R89, R106) -/

section
variable (inv : Inv s) (h : OnInv s) (timer : s.clu.fb.timer = some 0) (urgent : s.link.urgent.length < 2)
  (before : s.clu.fb.qual = .inv)
include inv h timer before

theorem feedback_toBypass (after : rawFeedback s.clu.fb = .byp) : exec .feedbackQualified s
    = .next (settle (force .stageTransfer (told [] { s with clu := feedbackTaken s }))) := by
  rw [feedback_running timer h.sends.1, feedbackChange_unswitched h.planned, unsolicited, if_pos ⟨before, after⟩,
    told_nil (by exact inv.events)]

theorem feedback_toOff (after : rawFeedback s.clu.fb = .off) : exec .feedbackQualified s
    = .next (settle (inverterFault (told [] { s with clu := feedbackTaken s }))) := by
  rw [feedback_running timer h.sends.1, feedbackChange_unswitched h.planned, unsolicited,
    if_neg fun both => absurd (after.symm.trans both.2) (by decide), if_pos ⟨before, after⟩,
    told_nil (by exact inv.events)]

end

section
variable {cause : ForceCause} {c : Clu} {vsm : Vsm} {t : State} {m : Mode}

/-- What a force leaves, as a statement names it by the mode that the station goes to. -/
theorem ForcedOff.leaves (f : ForcedOff l cause c vsm s t) (aim : awayMode { s with clu := c } = m) :
    (t.vsm = vsm ∧ RunOver .forced s t ∧
      t.clu = { commanded m (wdOver s c) with horn := t.clu.horn, hornTimer := t.clu.hornTimer } ∧ PortKept s t ∧
      SameBut [.link, .lva, .tsq, .clu, .trc, .vsm, .hpi] s t) ∧
    t.link = { runReleased s (planDropped s) with
      urgent := s.link.urgent ++ [queued (.force (BitVec.ofNat 8 cause.code))], status := t.link.status } := by
  have link := f.left.link
  rw [runReleased_forceLink] at link
  exact ⟨⟨f.left.vsm, f.left.ended, aim ▸ f.left.clu, f.left.port, f.left.rest⟩, link⟩

/-- A force that finds the feedback at the mode it goes to is there at once. -/
theorem ForcedOff.arrives (f : ForcedOff l cause c vsm s t) (aim : awayMode { s with clu := c } = m)
    (there : c.fb.qual = m.feedback) : TrcIs { s.trc with
      ownMode := m, activity := .none, proposal := none, executing := none, switchTimer := none
      holdTimer := some (10000 * s.hpi.floor.hold), overloadTimer := none, splits := Vector.replicate 16 0 } t
    ∧ StatusQueued t := by
  subst aim
  have trc := f.left.trc
  rw [awayTrc, if_pos there] at trc
  exact ⟨trc, f.fresh (.inr there)⟩

/-- Any other has a switch to it under way. -/
theorem ForcedOff.switches (f : ForcedOff l cause c vsm s t) (aim : awayMode { s with clu := c } = m)
    (away : c.fb.qual ≠ m.feedback) : TrcIs (switchEntered m .forced (some (10000 * s.hpi.floor.hold)) s) t
    ∧ (s.tsq.state.inProgress = true → StatusQueued t)
    ∧ (s.tsq.state.inProgress = false → t.link.status = s.link.status) := by
  subst aim
  have trc := f.left.trc
  rw [awayTrc, if_neg away] at trc
  exact ⟨trc, fun run => f.fresh (.inl run), fun idle => f.stands fun ended =>
    ended.elim (by rw [idle]; exact Bool.false_ne_true) away⟩

end

/-- The mode that a force goes to by BYP-OK, and what it tells where the station cannot follow. -/
theorem awayMode_able {c : Clu} (bypass : c.bypOk.qual = true) : awayMode { s with clu := c } = .byp := if_pos bypass

theorem awayMode_unable {c : Clu} (bypass : c.bypOk.qual = false) : awayMode { s with clu := c } = .off :=
  if_neg (by rw [show ({ s with clu := c } : State).clu.bypOk.qual = false from bypass]; exact Bool.false_ne_true)

theorem riskTold_unable {ownFault : Bool} (bypass : s.clu.bypOk.qual = false) : riskTold ownFault s
    = [alarm (if ownFault then .loadAtRisk else .cannotFollow) [byteOf s.link.station.val]] :=
  if_neg (by rw [bypass]; exact Bool.false_ne_true)

/-- The own claim, where no run holds it, is kept under that own mode. -/
abbrev KeptIn (m : Mode) (s : State) : Prop :=
  s.tsq.state.inProgress = false → ClaimKept { s with trc := { s.trc with ownMode := m } }

section
variable (inv : Inv s) (h : OnInv s) (timer : s.clu.fb.timer = some 0) (urgent : s.link.urgent.length < 2)
  (before : s.clu.fb.qual = .inv)
include inv h timer urgent before

/-- A change from INV to BYP, as the row leaves it. -/
theorem feedback_bypassed {m : Mode} (after : rawFeedback s.clu.fb = .byp)
    (aim : awayMode { s with clu := feedbackTaken s } = m)
    (kept : KeptIn (if .byp = m.feedback then m else .inv) s) :
    ∃ t, exec .feedbackQualified s = .next t
      ∧ ForcedOff (forceRaised .stageTransfer { s with clu := feedbackTaken s }) .stageTransfer (feedbackTaken s)
        (followedUp s) s t := by
  have there : (feedbackTaken s).fb.qual = .byp := after
  exact force_runs h urgent (feedback_toBypass inv h timer before after) (by rw [aim, there]; exact kept) rfl rfl

/-- A change from INV to OFF that the others cannot carry, as the row leaves it. -/
theorem feedback_faulted {m : Mode} (after : rawFeedback s.clu.fb = .off) (short : carriedByOthers s < floorLoad s)
    (aim : awayMode { s with clu := feedbackTaken s } = m)
    (kept : KeptIn (if .off = m.feedback then m else .inv) s) :
    ∃ t, exec .feedbackQualified s = .next t
      ∧ ForcedOff (planTold .fault s ++ forceRaised .inverterFault { s with clu := feedbackTaken s }) .inverterFault
        (feedbackTaken s) (followedUp s) s t := by
  have there : (feedbackTaken s).fb.qual = .off := after
  exact fault_forces h urgent (feedback_toOff inv h timer before after) (by rw [aim, there]; exact kept) rfl rfl short

end

/-! ## The obligation -/

/-- Settles O51. -/
theorem feedbackIsTaken : Obligations.FeedbackIsTaken := by
  refine ⟨fun s inv => ⟨feedback_waits, fun timer stopped => ?_⟩,
    fun target origin id dir s inv running attempt timer act => ⟨fun other kept => ?_, ?_⟩,
    fun s inv running attempt timer planned => ?_,
    fun s inv running attempt timer planned before own present holds urgent room => ?_⟩
  · rw [feedback_configuring timer stopped]
    cases raw : rawFeedback s.clu.fb <;> simp only [FbMode.adopted, feedbackTaken, raw]
  · have runs := feedback_running timer running
    rw [feedbackChange_switching act, if_neg other] at runs
    exact runs_lines (trc := s.trc) runs kept
  · intro there executing kept claim alone
    obtain ⟨t, status, done, left, fresh, stands⟩ :=
      feedback_ends inv (sends_of_running inv running attempt) there alone timer act executing kept claim
    exact ⟨t, done, left.raised, left.reported, left.link, fresh, fun same joined =>
      left.status.trans (stands same joined), left.trc, left.clu, left.port, left.rest⟩
  · have sends := sends_of_running inv running attempt
    intro after c₁ keptIn stays
    exact ⟨feedback_mismatch inv sends planned timer stays, feedback_stands inv sends planned timer stays,
      feedback_returns inv sends planned timer stays⟩
  · have h : OnInv s :=
      ⟨sends_of_running inv running attempt, holds, planned, room, inv.coord, present, own⟩
    intro after c₁ hold ownByte released keptIn arrived under common forcing
    refine ⟨fun seen bypass kept => ?_, fun seen bypass kept => ?_, fun seen backed kept => ?_,
      fun seen short bypass kept => ?_, fun seen short bypass kept => ?_⟩
    · have aim := awayMode_able (s := s) (c := feedbackTaken s) bypass
      obtain ⟨t, done, forced⟩ := feedback_bypassed inv h timer urgent before seen aim kept
      have raised := forced.left.raised
      rw [forceRaised, riskTold_able (by exact bypass), List.append_nil] at raised
      exact ⟨t, done, (forced.leaves aim).1, (forced.leaves aim).2, forced.arrives aim seen, raised⟩
    · have aim := awayMode_unable (s := s) (c := feedbackTaken s) bypass
      obtain ⟨t, done, forced⟩ := feedback_bypassed inv h timer urgent before seen aim kept
      have raised := forced.left.raised
      rw [forceRaised, riskTold_unable (by exact bypass)] at raised
      exact ⟨t, done, (forced.leaves aim).1, (forced.leaves aim).2,
        forced.switches aim (fun off => absurd (seen.symm.trans off) (by decide)), raised⟩
    · obtain ⟨t, status, done, left, fresh⟩ := fault_dropsOut h urgent (feedback_toOff inv h timer before seen)
        (by rw [if_pos (by exact seen)]; exact kept) rfl rfl backed
      have trc := left.trc
      rw [awayTrc, if_pos (by exact seen)] at trc
      exact ⟨t, done, ⟨left.vsm, left.ended, left.clu, left.port, left.rest⟩, left.link, ⟨trc, fresh⟩, left.raised⟩
    · have aim := awayMode_able (s := s) (c := feedbackTaken s) bypass
      obtain ⟨t, done, forced⟩ := feedback_faulted inv h timer urgent before seen short aim kept
      have raised := forced.left.raised
      rw [forceRaised, riskTold_able (by exact bypass), List.append_nil, ← List.append_assoc,
        ← List.append_assoc] at raised
      exact ⟨t, done, (forced.leaves aim).1, (forced.leaves aim).2,
        forced.switches aim (fun off => absurd (seen.symm.trans off) (by decide)), raised⟩
    · have aim := awayMode_unable (s := s) (c := feedbackTaken s) bypass
      obtain ⟨t, done, forced⟩ := feedback_faulted inv h timer urgent before seen short aim kept
      have raised := forced.left.raised
      rw [forceRaised, riskTold_unable (by exact bypass), ← List.append_assoc, ← List.append_assoc,
        ← List.append_assoc] at raised
      exact ⟨t, done, (forced.leaves aim).1, (forced.leaves aim).2, forced.arrives aim seen, raised⟩

end Sys2Proof.Machine
end

section
/-! A contact change as the interlocks, the open visit and the force take it, each in closed form (R47, R107, R155,
R156, R158, R164). -/

namespace Sys2Proof.Machine

variable {s u : State} {l : List EventSpec} {k : Contact} {closed : Bool} {v : Visit}

/-! ## The row (R46, R47) -/

/-- The lines with a contact qualified at its raw level. -/
def contactTaken (k : Contact) (s : State) : Clu :=
  s.clu.contact k fun _ => ⟨(s.clu.contactLine k).raw, (s.clu.contactLine k).raw, none⟩

/-- CONTACT_CHANGE (R47). -/
def changeTold (k : Contact) (closed : Bool) : EventSpec :=
  info .contactChange [match k with
    | .input => 1#8 | .bypassIn => 2#8 | .output => 3#8 | .battery => 4#8 | .maint => 5#8, level closed]

theorem contact_waits (waits : (s.clu.contactLine k).timer ≠ some 0) : exec (.contactQualified k) s = .next s :=
  congrArg Host.Outcome.next (if_neg (due_waiting waits))

theorem contact_runs (inv : Inv s) (timer : (s.clu.contactLine k).timer = some 0) : exec (.contactQualified k) s
    = .next (if s.hpi.running then
        settle (contactChange k (s.clu.contactLine k).raw
          (told [changeTold k (s.clu.contactLine k).raw] { s with clu := contactTaken k s }))
      else told [changeTold k (s.clu.contactLine k).raw] { s with clu := contactTaken k s }) := by
  have detail (b : Bool) : specOf .contactChange (u8 k.code ++ levelByte b) = changeTold k b := by
    cases k <;> cases b <;> rfl
  have lines : (s.modClu fun c => c.contact k LineIn.qualified) = { s with clu := contactTaken k s } :=
    congrArg (fun c => { s with clu := c }) (contact_const k _ _)
  refine congrArg Host.Outcome.next ((if_pos (due_zero timer)).trans ?_)
  rw [lines]
  dsimp only
  rw [raise_eq_told _ _ (by exact inv.events), detail]

theorem contact_running (inv : Inv s) (timer : (s.clu.contactLine k).timer = some 0) (running : s.hpi.running = true) :
    exec (.contactQualified k) s = .next (settle (contactChange k (s.clu.contactLine k).raw
      (told [changeTold k (s.clu.contactLine k).raw] { s with clu := contactTaken k s }))) := by
  rw [contact_runs inv timer, if_pos running]

/-! ## The interlocks (R164) -/

/-- INTERLOCK of a condition (R164). -/
def conditionTold (s : State) (n : Nat) : EventSpec := specOf .interlock [BitVec.ofNat 8 n, modeCode s.trc.ownMode]

theorem outputVisited_eq (s : State) : outputVisited s
    = s.vsm.visit.any fun v => decide (v.kind = .isolation ∨ v.state = .maintOn) := by
  unfold outputVisited
  cases s.vsm.visit with
  | none => rfl
  | some v => simp only [Option.any_some, Bool.decide_or]

/-- The table of R164 names an event where the model finds a condition. -/
theorem interlockTold_eq (k : Contact) (closed : Bool) (s : State) :
    interlockTold k closed s = (interlockCondition k closed s).elim [] fun n => [conditionTold s n] := by
  have row (p : Prop) [Decidable p] (n : Nat) : (if p then some n else none).elim [] (fun n => [conditionTold s n])
      = if p then [conditionTold s n] else [] := by split <;> rfl
  cases closed with
  | true =>
    cases k with
    | maint => simp [interlockTold, interlockCondition, row]; rfl
    | input => rfl
    | bypassIn => rfl
    | output => rfl
    | battery => rfl
  | false =>
    cases k with
    | input => rfl
    | maint => simp [interlockTold, interlockCondition, row]; rfl
    | bypassIn => simp [interlockTold, interlockCondition, row]; rfl
    | output => simp [interlockTold, interlockCondition, row, outputVisited_eq]; rfl
    | battery => simp [interlockTold, interlockCondition, row]; rfl

theorem checkInterlock_told : checkInterlock k closed (told l u) = told (l ++ interlockTold k closed u) u := by
  have condition : interlockCondition k closed (told l u) = interlockCondition k closed u := by
    cases k <;> cases closed <;> rfl
  have mode : u8 u.trc.ownMode.code = [modeCode u.trc.ownMode] := by cases u.trc.ownMode <;> rfl
  rw [checkInterlock, condition, interlockTold_eq]
  cases interlockCondition k closed u with
  | none => rw [Option.elim_none, List.append_nil]
  | some n =>
    have tells : tellInterlock n (told l u) = told (l ++ [conditionTold u n]) u := by
      rw [tellInterlock, raise_told, told_trc, mode]
      rfl
    exact tells

/-! ## The force (R107) -/

/-- MAINT closes onto INV. -/
abbrev OntoInv (k : Contact) (closed : Bool) (s : State) : Prop := k = .maint ∧ closed = true ∧ s.trc.ownMode = .inv

theorem maintContact_clear (clear : ¬ OntoInv k closed u) : maintContact k closed (told l u) = told l u := if_neg clear

theorem maintContact_forces (onto : OntoInv k closed u) :
    maintContact k closed (told l u) = force .interlock (told l u) := if_pos onto

/-! ## JOIN asked in RESTORING (R109, R110, R156) -/

theorem joinRefusal_eq (s : State) : joinRefusal true s = firstFailing ((joinChecks s).drop 1) := by
  simp only [joinRefusal, joinChecks, List.drop_succ_cons, List.drop_zero, firstFailing_cons, firstFailing_nil,
    inverterReady, holdFlag, decide_eq_true_eq]
  rfl

theorem joinRefusal_told : joinRefusal true (told l u) = joinRefusal true u := rfl

theorem joinTarget_eq (s : State) : joinTarget s = floorModeFor s := by
  have floor : ((presentPeers s).any fun e => decide (e.report.mode = .inv)) = true
      ↔ ∃ e ∈ s.peers, e.presence = .present ∧ e.report.mode = .inv := by
    simp [presentPeers, List.any_filter]
  have seen : (((presentPeers s).any fun e => decide (e.report.mode = .inv)) || decide (s.trc.lastKnown = some .inv))
        = true
      ↔ (∃ e ∈ s.peers, e.presence = .present ∧ e.report.mode = .inv) ∨ s.trc.lastKnown = some .inv := by
    rw [Bool.or_eq_true, floor, decide_eq_true_iff]
  by_cases alone : s.ftu.align = .alone
  · rw [joinTarget, floorModeFor, if_pos alone, if_pos (.inl alone)]
  · rw [joinTarget, floorModeFor, if_neg alone]
    exact if_congr (seen.trans (or_iff_right alone).symm) rfl rfl

/-- A JOIN that does not find the feedback at its target. -/
theorem joinFloor_told (act : u.trc.activity = .none) (away : u.clu.fb.qual ≠ (floorModeFor u).feedback) :
    joinFloor (told l u) = told l { u with
      clu := commanded (floorModeFor u) u.clu, trc := joining (floorModeFor u) u } := by
  have target : joinTarget (told l u) = floorModeFor u := joinTarget_eq _
  have begins (m : Mode) : beginSwitch m .join (told l u)
      = told l { u with clu := commanded m u.clu, trc := joining m u } := by
    have timer : switchTimerFor m u.trc = some 400 := by rw [switchTimerFor, act]; rfl
    rw [beginSwitch_told, beginSwitch, setActivity_leaves (by exact act) (by nofun), setModeCmd_eq]
    simp only [State.modTrc, timer, joining]
    rfl
  rw [joinFloor, target, switchTo, begins, if_neg (by exact away)]

/-- A visit in RESTORING asks for JOIN. -/
abbrev AsksJoin (v : Visit) (u : State) : Prop := v.state = .restoring ∧ restored u = true ∧ v.joinRequested = false

theorem asksJoin_iff (v : Visit) (u : State) :
    AsksJoin v u ↔ v.state = .restoring ∧ ¬ v.joinRequested = true ∧ restored u = true := by
  rw [AsksJoin, Bool.not_eq_true, and_comm (a := restored u = true)]

/-- VISIT_STATE of the first JOIN that is refused, with its reason. -/
def refusalTold (v : Visit) (r : Reason) : EventSpec :=
  info .visitState (be16 (BitVec.ofNat 16 v.number) ++ [5#8, 1#8, byteOf r.code])

/-! ## The visit (R154 to R158) -/

/-- The part with the open visit as given. -/
def visited (v : Visit) (s : State) : State := { s with vsm := { s.vsm with visit := some v } }

theorem modVisit_told {f : Visit → Visit} (visit : u.vsm.visit = some v) :
    modVisit f (told l u) = told l (visited (f v) u) := by
  rw [modVisit, told_modVsm, State.modVsm, visit]
  rfl

theorem visited_self (visit : u.vsm.visit = some v) : visited v u = u := by rw [visited, ← visit]

/-- A visit that moves on without a change of the isolated flag is told (R150). -/
theorem enterVisitState_told {st : VisitState} (visit : u.vsm.visit = some v)
    (isolates : v.state.isolates = st.isolates) :
    enterVisitState st (told l u) = told (l ++ [visitTold v st]) (visited { v with state := st } u) := by
  have opened : (told l u).vsm.visit = some v := visit
  rw [enterVisitState, opened]
  dsimp only
  rw [if_pos isolates, modVisit_told visit, tellVisit, raise_told, visitTold, be16_ofNat]
  rfl

/-- The open visit behind a MAINT that closes onto INV. -/
def visitOntoInv (v : Visit) (u : State) : Visit :=
  if v.state = .maintWait then { v with state := .maintOn, outputOpened := false }
  else if AsksJoin v u then { v with retryTimer := some 10000, joinRefused := true } else v

def visitOntoInvTold (v : Visit) (u : State) : List EventSpec :=
  if v.state = .maintWait then [visitTold v .maintOn]
  else if AsksJoin v u ∧ v.joinRefused = false then [refusalTold v .wrongMode] else []

theorem visitOntoInv_isolates (v : Visit) (u : State) : (visitOntoInv v u).state.isolates = v.state.isolates := by
  unfold visitOntoInv
  split
  · rename_i wait
    rw [wait]
    rfl
  · split <;> rfl

/-- The visit keeps its state at the change, and nothing else. -/
abbrev VisitStands (k : Contact) (closed : Bool) (v : Visit) : Prop :=
  v.state = .opened ∨ v.state = .requested ∨ v.state = .isolated
    ∨ v.state = .isolating ∧ ¬ (k = .output ∧ closed = false) ∨ v.state = .maintWait ∧ ¬ (k = .maint ∧ closed = true)

section
variable (visit : u.vsm.visit = some v)
include visit

theorem visitContact_state {st : VisitState} (state : v.state = st) : visitState (told l u) = some st := by
  show u.vsm.visit.map _ = _
  rw [visit, ← state]
  rfl

theorem visitContact_stands (stands : VisitStands k closed v) : visitContact k closed (told l u) = told l u := by
  rcases stands with st | st | st | ⟨st, other⟩ | ⟨st, other⟩ <;> rw [visitContact, visitContact_state visit st]
  · exact if_neg (by simpa using other)
  · exact if_neg other

theorem visitContact_maintWait (wait : v.state = .maintWait) : visitContact .maint true (told l u)
    = told (l ++ [visitTold v .maintOn]) (visited { v with state := .maintOn, outputOpened := false } u) := by
  rw [visitContact, visitContact_state visit wait]
  refine (if_pos ⟨rfl, rfl⟩).trans ?_
  rw [enterMaintOn, modVisit_told visit]
  exact enterVisitState_told (u := visited { v with outputOpened := false } u)
    (v := { v with outputOpened := false }) rfl (by show v.state.isolates = false; rw [wait]; rfl)

theorem visitContact_maintOn (on : v.state = .maintOn) : visitContact k closed (told l u)
    = told l (visited (if k = .output ∧ closed = false then { v with outputOpened := true } else v) u) := by
  rw [visitContact, visitContact_state visit on]
  by_cases opens : k = .output ∧ closed = false
  · rw [if_pos opens]
    exact (if_pos (by simpa using opens)).trans (modVisit_told visit)
  · rw [if_neg opens, visited_self visit]
    exact if_neg (by simpa using opens)

/-- A breaker that opens in RESTORING stops the retry timer. -/
theorem visitContact_breaker (restoring : v.state = .restoring) (breaker : restoringContact k = true) :
    visitContact k false (told l u) = told l (visited { v with retryTimer := none } u) := by
  rw [visitContact, visitContact_state visit restoring]
  refine (if_pos ?_).trans (modVisit_told visit)
  rw [breaker]
  rfl

theorem visitContact_asks (restoring : v.state = .restoring) (other : (restoringContact k && !closed) = false) :
    visitContact k closed (told l u) = tryJoin (told l u) := by
  rw [visitContact, visitContact_state visit restoring]
  exact if_neg (by rw [other]; exact Bool.false_ne_true)

/-- OUTPUT opens in ISOLATING: the visit is ISOLATED, and a claim of it has its fixed flag set (R124, R155). -/
theorem visitContact_isolated (isolating : v.state = .isolating)
    (claim : ∀ c, u.lva = some c → c.kind = .service ∧ c.granted = true ∧ v.claimed = true) :
    visitContact .output false (told l u) = told (l ++ [visitTold v .isolated])
      { visited { v with state := .isolated, stepTimer := none } u with
        lva := u.lva.map fun c => { c with fixed := true } } := by
  have claimed : ((told l u).vsm.visit.map (·.claimed)).getD false = v.claimed := by
    rw [told_vsm, visit]
    rfl
  have enters := enterVisitState_told (l := l) (st := .isolated) (u := visited { v with stepTimer := none } u)
    (v := { v with stepTimer := none }) rfl (by show v.state.isolates = true; rw [isolating]; rfl)
  rw [visitContact, visitContact_state visit isolating]
  refine (if_pos ⟨rfl, by decide⟩).trans ?_
  rw [enterIsolated, claimed, modVisit_told visit, enters]
  cases held : u.lva with
  | none =>
    have free : fixClaim (told (l ++ [visitTold v .isolated])
          (visited { v with state := .isolated, stepTimer := none } u))
        = told (l ++ [visitTold v .isolated]) (visited { v with state := .isolated, stepTimer := none } u) := by
      have lva : (told (l ++ [visitTold v .isolated])
        (visited { v with state := .isolated, stepTimer := none } u)).lva = none := held
      rw [fixClaim, lva]
    rw [Option.map_none, ← held]
    exact ite_eq_right_iff.mpr fun _ => free
  | some c =>
    obtain ⟨kind, granted, mine⟩ := claim c held
    have lva : (told (l ++ [visitTold v .isolated])
      (visited { v with state := .isolated, stepTimer := none } u)).lva = some c := held
    have fixes : fixClaim (told (l ++ [visitTold v .isolated])
          (visited { v with state := .isolated, stepTimer := none } u))
        = (told (l ++ [visitTold v .isolated]) (visited { v with state := .isolated, stepTimer := none } u)).setLva
          (some { c with fixed := true }) := by
      rw [fixClaim, lva]
      exact if_pos (by rw [granted, kind]; rfl)
    rw [if_pos mine]
    exact fixes

theorem tryJoin_stands (stands : ¬ AsksJoin v u) : tryJoin (told l u) = told l u := by
  have opened : (told l u).vsm.visit = some v := visit
  rw [tryJoin, opened]
  exact if_neg ((asksJoin_iff v u).not.mp stands)

theorem tryJoin_refused {r : Reason} (asks : AsksJoin v u) (refused : joinRefusal true u = some r) :
    tryJoin (told l u) = told (l ++ if v.joinRefused then [] else [refusalTold v r])
      (visited { v with retryTimer := some 10000, joinRefused := true } u) := by
  have opened : (told l u).vsm.visit = some v := visit
  have first : tellVisit v VisitState.restoring.code [r.byte]
        (told l (visited { v with retryTimer := some 10000, joinRefused := true } u))
      = told (l ++ [refusalTold v r]) (visited { v with retryTimer := some 10000, joinRefused := true } u) := by
    rw [tellVisit, raise_told, refusalTold, be16_ofNat]
    rfl
  rw [tryJoin, opened]
  refine (if_pos ((asksJoin_iff v u).mp asks)).trans ?_
  rw [joinRefusal_told, refused]
  dsimp only
  rw [joinTurnedAway, modVisit_told visit]
  cases v.joinRefused with
  | true => rw [if_pos rfl, if_pos rfl, List.append_nil]; rfl
  | false => exact first

theorem tryJoin_taken (asks : AsksJoin v u) (taken : joinRefusal true u = none) :
    tryJoin (told l u) = joinFloor (told l (visited { v with joinRequested := true, retryTimer := none } u)) := by
  have opened : (told l u).vsm.visit = some v := visit
  rw [tryJoin, opened]
  refine (if_pos ((asksJoin_iff v u).mp asks)).trans ?_
  rw [joinRefusal_told, taken]
  dsimp only
  rw [modVisit_told visit]

/-! ## MAINT closes onto INV (R107, R158) -/

theorem visitContact_ontoInv (own : u.trc.ownMode = .inv) : visitContact .maint true (told l u)
    = told (l ++ visitOntoInvTold v u) (visited (visitOntoInv v u) u) := by
  by_cases wait : v.state = .maintWait
  · rw [visitContact_maintWait visit wait, visitOntoInv, visitOntoInvTold, if_pos wait, if_pos wait]
  rw [visitOntoInv, visitOntoInvTold, if_neg wait, if_neg wait]
  by_cases asks : AsksJoin v u
  · have refused : joinRefusal true u = some .wrongMode := by simp [joinRefusal, own]
    have once : (if AsksJoin v u ∧ v.joinRefused = false then [refusalTold v .wrongMode] else [])
        = if v.joinRefused then [] else [refusalTold v .wrongMode] := by
      cases v.joinRefused <;> simp [asks]
    rw [visitContact_asks visit asks.1 rfl, tryJoin_refused visit asks refused, if_pos asks, once]
  · have silent : ¬ (AsksJoin v u ∧ v.joinRefused = false) := fun both => asks both.1
    rw [if_neg asks, if_neg silent, visited_self visit, List.append_nil]
    cases state : v.state with
    | opened => exact visitContact_stands visit (.inl state)
    | requested => exact visitContact_stands visit (.inr (.inl state))
    | isolated => exact visitContact_stands visit (.inr (.inr (.inl state)))
    | isolating => exact visitContact_stands visit (.inr (.inr (.inr (.inl ⟨state, by decide⟩))))
    | maintWait => exact absurd state wait
    | maintOn => exact (visitContact_maintOn visit state).trans (by rw [if_neg (by decide), visited_self visit])
    | restoring => exact (visitContact_asks visit state rfl).trans (tryJoin_stands visit asks)

end

end Sys2Proof.Machine
end

section
/-! A qualified contact, as the row leaves it (R47, R103, R107, R155, R156, R158, R164). -/

namespace Sys2Proof.Machine

variable {s u : State} {l : List EventSpec} {k : Contact} {v : Visit}

/-! ## Rows that change the lines and the visits -/

theorem isolatedFlag_visited (visit : s.vsm.visit = some v) : isolatedFlag s = v.state.isolates := by
  rw [isolatedFlag, visit]

/-- The row has left the part with those lines, and has settled. -/
abbrev LinesAre (clu : Clu) (s t : State) : Prop :=
  t.clu = { clu with horn := t.clu.horn, hornTimer := t.clu.hornTimer } ∧ TrcIs s.trc t ∧ PortKept s t
    ∧ SameBut [.vsm, .clu, .trc, .hpi] s t

/-- A row that settles where only the lines and the visits have changed. -/
theorem runs_visit {row : Instr} {clu : Clu} {vsm : Vsm}
    (runs : exec row s = .next (settle (told l { s with clu := clu, vsm := vsm }))) (kept : ClaimKept s)
    (flag : isolatedFlag { s with vsm := vsm } = isolatedFlag s) (horn : clu.horn = s.clu.horn)
    (hornTimer : clu.hornTimer = s.clu.hornTimer) :
    ∃ t, exec row s = .next t ∧ LinesAre clu s t ∧ t.vsm = vsm ∧ Raised l s t := by
  have view : SameView s { s with clu := clu, vsm := vsm } := ⟨rfl, rfl, flag, rfl, rfl, rfl, rfl⟩
  obtain ⟨m, runs⟩ := runs_settled_told runs (view.claimKept rfl kept)
  exact ⟨_, runs, ⟨rfl, rfl, portKept_told rfl, sameBut_of_eq⟩, rfl,
    raised_told l ⟨rfl, rfl, rfl, rfl, rfl, rfl, horn, hornTimer⟩⟩

theorem contactTaken_horn (k : Contact) (s : State) :
    (contactTaken k s).horn = s.clu.horn ∧ (contactTaken k s).hornTimer = s.clu.hornTimer := by
  cases k <;> exact ⟨rfl, rfl⟩

theorem claimKept_lines {clu : Clu} (kept : ClaimKept { s with clu := clu }) : ClaimKept s :=
  SameView.claimKept (s := { s with clu := clu }) ⟨rfl, rfl, rfl, rfl, rfl, rfl, rfl⟩ rfl kept

/-! ## A contact that forces nothing -/

/-- The contact as it is qualified. -/
abbrev closedIn (k : Contact) (s : State) : Bool := (s.clu.contactLine k).raw

/-- The part with the contact qualified. -/
abbrev contacted (k : Contact) (s : State) : State := { s with clu := contactTaken k s }

/-- What any contact change in RUNNING tells before the visit takes it. -/
def contactTold (k : Contact) (s : State) : List EventSpec :=
  changeTold k (closedIn k s) :: interlockTold k (closedIn k s) (contacted k s)

section
variable (inv : Inv s) (timer : (s.clu.contactLine k).timer = some 0) (running : s.hpi.running = true)
include inv timer running

theorem contact_steps : exec (.contactQualified k) s = .next (settle (maintContact k (closedIn k s)
    (visitContact k (closedIn k s) (told (contactTold k s) (contacted k s))))) := by
  rw [contact_running inv timer running, contactChange, checkInterlock_told]
  rfl

variable (clear : ¬ OntoInv k (closedIn k s) s) (kept : ClaimKept s)
include clear kept

/-- A contact that forces nothing and leaves the visit as it is. -/
theorem contact_stands
    (stands : visitContact k (closedIn k s) (told (contactTold k s) (contacted k s))
      = told (contactTold k s) (contacted k s)) :
    ∃ t, exec (.contactQualified k) s = .next t ∧ LinesAre (contactTaken k s) s t ∧ t.vsm = s.vsm
      ∧ Raised (contactTold k s) s t := by
  have runs := contact_steps inv timer running
  rw [stands, maintContact_clear (u := contacted k s) clear] at runs
  exact runs_visit runs kept rfl (contactTaken_horn k s).1 (contactTaken_horn k s).2

/-- A contact that forces nothing and moves the visit. -/
theorem contact_moves {v₁ : Visit} (visit : s.vsm.visit = some v)
    (moves : visitContact k (closedIn k s) (told (contactTold k s) (contacted k s))
      = told l (visited v₁ (contacted k s)))
    (isolates : v₁.state.isolates = v.state.isolates) :
    ∃ t, exec (.contactQualified k) s = .next t ∧ LinesAre (contactTaken k s) s t
      ∧ t.vsm = { s.vsm with visit := some v₁ } ∧ Raised l s t := by
  have runs := contact_steps inv timer running
  rw [moves, maintContact_clear (u := visited v₁ (contacted k s)) clear] at runs
  exact runs_visit runs kept (isolates.trans (isolatedFlag_visited visit).symm) (contactTaken_horn k s).1
    (contactTaken_horn k s).2

end

/-! ## With no visit (R164) -/

/-- The interlocks that a contact can meet with no visit open. -/
theorem interlockTold_unvisited {closed : Bool} (visit : u.vsm.visit = none) (clear : ¬ OntoInv k closed u) :
    interlockTold k closed u
      = if k = .bypassIn ∧ closed = false ∧ u.trc.ownMode = .byp then
          [alarm .interlock [3#8, byteOf u.trc.ownMode.code]]
        else if k = .battery ∧ closed = false ∧ ownSource u = .battery then
          [alarm .interlock [4#8, byteOf u.trc.ownMode.code]]
        else if k = .output ∧ closed = false ∧ u.trc.ownMode ≠ .off then
          [notice .interlock [5#8, byteOf u.trc.ownMode.code]]
        else [] := by
  have mode : modeCode u.trc.ownMode = byteOf u.trc.ownMode.code := by cases u.trc.ownMode <;> rfl
  have unheld : ¬ (k = .maint ∧ closed = false ∧ maintFlag u = true ∧ u.clu.output.qual = false) := fun both => by
    have flag := both.2.2.1
    rw [maintFlag, visit] at flag
    exact absurd flag Bool.false_ne_true
  rw [interlockTold, if_neg clear, if_neg unheld, mode, visit]
  simp only [Option.any_none, and_true]

theorem contactTold_ontoInv (closed : closedIn .maint s = true) (own : s.trc.ownMode = .inv) :
    contactTold .maint s = [changeTold .maint true, alarm .interlock [1#8, 1#8]] := by
  rw [contactTold, closed]
  simp [interlockTold, own, modeCode]

/-- MAINT closes onto INV at a station with nothing for the force to end. -/
theorem contact_forces (inv : Inv s) (timer : (s.clu.contactLine .maint).timer = some 0)
    (running : s.hpi.running = true) (visit : s.vsm.visit = none) (closed : closedIn .maint s = true)
    (h : Leaving s) (unclaimed : s.lva = none) (urgent : s.link.urgent.length < 2) :
    ∃ t, exec (.contactQualified .maint) s = .next t ∧
      Raised (contactTold .maint s ++ plainTold .interlock s) s t ∧
      t.link = { s.link with urgent := s.link.urgent ++ [queued (.force 5#8)] } ∧
      TrcIs (switchEntered (awayMode s) .forced (some (10000 * s.hpi.floor.hold)) s) t ∧
      t.clu = { commanded (awayMode s) (contactTaken .maint s) with horn := t.clu.horn, hornTimer := t.clu.hornTimer } ∧
      PortKept s t ∧ SameBut [.link, .clu, .trc, .hpi] s t := by
  have runs := contact_steps inv timer running
  have stands : visitContact .maint true (told (contactTold .maint s) (contacted .maint s))
      = told (contactTold .maint s) (contacted .maint s) := by
    have none_ : visitState (told (contactTold .maint s) (contacted .maint s)) = none := by
      show s.vsm.visit.map _ = none
      rw [visit]
      rfl
    rw [visitContact, none_]
  have lines : Leaving (contacted .maint s) :=
    ⟨h.inv, h.live, h.present, h.idle, h.claim, h.away, h.act⟩
  rw [closed, stands, maintContact_forces (u := contacted .maint s) ⟨rfl, rfl, h.inv⟩,
    force_leaving (.inr rfl) lines urgent] at runs
  obtain ⟨m, runs⟩ := runs_settled_told runs (claimKept_none unclaimed)
  exact ⟨_, runs, raised_told _ ⟨rfl, rfl, rfl, rfl, rfl, rfl, rfl, rfl⟩, rfl, rfl, rfl, portKept_told rfl,
    sameBut_of_eq⟩

/-! ## OUTPUT opens in ISOLATING (R124, R155) -/

theorem contact_isolates (inv : Inv s) (timer : (s.clu.contactLine .output).timer = some 0)
    (running : s.hpi.running = true) (visit : s.vsm.visit = some v) (kind : v.kind = .isolation)
    (isolating : v.state = .isolating) (closed : closedIn .output s = false)
    (claim : ∀ c, s.lva = some c → c.kind = .service ∧ c.granted = true ∧ v.claimed = true) :
    ∃ t, exec (.contactQualified .output) s = .next t ∧
      t.clu = { contactTaken .output s with horn := t.clu.horn, hornTimer := t.clu.hornTimer } ∧
      t.lva = s.lva.map (fun c => { c with fixed := true }) ∧
      t.vsm = { s.vsm with visit := some { v with state := .isolated, stepTimer := none } } ∧
      Raised [changeTold .output false, visitTold v .isolated] s t ∧ TrcIs s.trc t ∧ PortKept s t ∧
      SameBut [.vsm, .lva, .clu, .trc, .hpi] s t := by
  have silent : contactTold .output s = [changeTold .output false] := by
    rw [contactTold, closed]
    simp [interlockTold, visit, kind]
  have runs := contact_steps inv timer running
  rw [closed, silent, visitContact_isolated (u := contacted .output s) visit isolating claim,
    maintContact_clear fun onto => absurd onto.1 (by decide)] at runs
  obtain ⟨m, runs⟩ := runs_settled_told runs fun c held => by
    obtain ⟨c₀, -, fixed⟩ := Option.map_eq_some_iff.mp held
    exact .inr (.inl (fixed ▸ rfl))
  exact ⟨_, runs, rfl, rfl, rfl, raised_told _ ⟨rfl, rfl, rfl, rfl, rfl, rfl, rfl, rfl⟩, rfl, portKept_told rfl,
    sameBut_of_eq⟩

/-! ## MAINT closes onto INV under a visit (R103, R107, R158) -/

/-- What such a change tells before the run that the force ends. -/
def ontoInvTold (v : Visit) (s : State) : List EventSpec :=
  changeTold .maint true :: alarm .interlock [1#8, 1#8] ::
    (visitOntoInvTold v (contacted .maint s) ++ [forcedTold .interlock s])

/-- The part with the contact and the visit taken, as the force finds it. -/
def ontoInv (v : Visit) (s : State) : State :=
  visited (visitOntoInv v (contacted .maint s)) (contacted .maint s)

theorem ontoInv_isolates (visit : s.vsm.visit = some v) : isolatedFlag (ontoInv v s) = isolatedFlag s :=
  (visitOntoInv_isolates v _).trans (isolatedFlag_visited visit).symm

section
variable (inv : Inv s) (online : OnLine s) (timer : (s.clu.contactLine .maint).timer = some 0)
  (visit : s.vsm.visit = some v) (closed : closedIn .maint s = true) (own : s.trc.ownMode = .inv)
  (urgent : s.link.urgent.length < 2)
include inv online timer visit closed own

theorem contact_ontoInv : exec (.contactQualified .maint) s = .next (settle (force .interlock
    (told ([changeTold .maint true, alarm .interlock [1#8, 1#8]] ++ visitOntoInvTold v (contacted .maint s))
      (ontoInv v s)))) := by
  have runs := contact_steps inv timer online.1
  rw [closed, contactTold_ontoInv closed own, visitContact_ontoInv (u := contacted .maint s) visit own,
    ← ontoInv, maintContact_forces (u := ontoInv v s) ⟨rfl, rfl, own⟩] at runs
  exact runs

include urgent

/-- An isolated station announces the force and does not switch. -/
theorem contact_announces (isolated : isolatedFlag s = true) (kept : ClaimKept s) :
    ∃ t, exec (.contactQualified .maint) s = .next t ∧ Raised (ontoInvTold v s) s t ∧
      t.vsm = { s.vsm with visit := some (visitOntoInv v (contacted .maint s)) } ∧
      t.link = { s.link with urgent := s.link.urgent ++ [queued (.force 5#8)] } ∧
      t.clu = { contactTaken .maint s with horn := t.clu.horn, hornTimer := t.clu.hornTimer } ∧ TrcIs s.trc t ∧
      PortKept s t ∧ SameBut [.link, .clu, .trc, .vsm, .hpi] s t := by
  have flag := ontoInv_isolates visit
  have announces (l : List EventSpec) : force .interlock (told l (ontoInv v s))
      = told (l ++ [forcedTold .interlock s])
        { ontoInv v s with link := { s.link with urgent := s.link.urgent ++ [queued (.force 5#8)] } } := by
    have live : (ontoInv v s).link.state ≠ .listen := by
      show s.link.state ≠ .listen
      rw [online.2.1]
      decide
    have stays (u : State) (on : isolatedFlag u = true) : actOnForce s.link.station false u = u := if_pos on
    rw [force, raise_told, postForce_told, postForce_room live urgent]
    exact stays _ (flag.trans isolated)
  have runs := contact_ontoInv inv online timer visit closed own
  rw [announces] at runs
  have view : SameView s
      { ontoInv v s with link := { s.link with urgent := s.link.urgent ++ [queued (.force 5#8)] } } :=
    ⟨rfl, rfl, flag, rfl, rfl, rfl, rfl⟩
  obtain ⟨m, runs⟩ := runs_settled_told runs (view.claimKept rfl kept)
  refine ⟨_, runs, ?_, rfl, rfl, rfl, rfl, portKept_told rfl, sameBut_of_eq⟩
  rw [ontoInvTold, ← List.cons_append, ← List.cons_append]
  exact raised_told _ ⟨rfl, rfl, rfl, rfl, rfl, rfl, rfl, rfl⟩

/-- Any other station switches, its run ended. -/
theorem contact_leaves (present : isolatedFlag s = false) (act : s.trc.activity = .none) (holds : RunHoldsClaim s)
    (room : s.link.coord.length < 8) (kept : s.tsq.state.inProgress = false → ClaimKept s)
    (away : s.clu.fb.qual ≠ (awayMode s).feedback) :
    ∃ t, exec (.contactQualified .maint) s = .next t ∧
      ForcedOff (ontoInvTold v s ++ runOverTold .forced s ++ riskTold false s) .interlock (contactTaken .maint s)
        { s.vsm with visit := some (visitOntoInv v (contacted .maint s)) } s t := by
  have flag := ontoInv_isolates visit
  have h : OnInv s := ⟨sends_of_onLine online, holds, unswitched_of_none act, fun _ => room, inv.coord, present, own⟩
  have h' : OnInv (ontoInv v s) :=
    ⟨h.sends, h.holds, h.planned, h.room, h.coord, flag.trans present, own⟩
  obtain ⟨status, forces, after⟩ := force_leavesInv
    (l := [changeTold .maint true, alarm .interlock [1#8, 1#8]] ++ visitOntoInvTold v (contacted .maint s))
    .interlock h' urgent
  have told_ : [changeTold .maint true, alarm .interlock [1#8, 1#8]] ++ visitOntoInvTold v (contacted .maint s)
      ++ forceRaised .interlock (ontoInv v s) = ontoInvTold v s ++ runOverTold .forced s ++ riskTold false s := by
    have raised : forceRaised .interlock (ontoInv v s)
        = [forcedTold .interlock s] ++ runOverTold .forced s ++ riskTold false s ++ [] := rfl
    rw [raised, ontoInvTold]
    simp only [List.append_assoc, List.cons_append, List.nil_append, List.append_nil]
  have runs := contact_ontoInv inv online timer visit closed own
  rw [forces, told_] at runs
  exact runs_forcedOff h runs
    ⟨fun ended => statusQueued_congr (after.fresh ended) rfl rfl rfl flag.symm rfl, after.stands⟩
    (fun idle => claimKept_own ((if_neg away).trans own.symm) (kept idle)) flag rfl rfl

end

/-! ## The obligation -/

section
variable (inv : Inv s) (timer : (s.clu.contactLine k).timer = some 0)
include inv timer

/-- In CONFIGURING the change is told, and nothing follows. -/
theorem contact_configuring (stopped : s.hpi.running = false) :
    ∃ t, exec (.contactQualified k) s = .next t ∧ Raised [changeTold k (closedIn k s)] s t ∧
      t.clu = { contactTaken k s with horn := t.clu.horn, hornTimer := t.clu.hornTimer } ∧ PortKept s t ∧
      SameBut [.clu, .hpi] s t := by
  have runs := contact_runs inv timer
  rw [stopped, if_neg Bool.false_ne_true] at runs
  exact ⟨_, runs, raised_told _ ⟨rfl, rfl, rfl, rfl, rfl, rfl, (contactTaken_horn k s).1, (contactTaken_horn k s).2⟩,
    rfl, portKept_told rfl, sameBut_of_eq⟩

variable (running : s.hpi.running = true) (clear : ¬ OntoInv k (closedIn k s) s) (kept : ClaimKept s)
include running clear kept

/-- With no visit open the interlocks alone follow. -/
theorem contact_unvisited (visit : s.vsm.visit = none) :
    ∃ t, exec (.contactQualified k) s = .next t ∧ LinesAre (contactTaken k s) s t ∧ t.vsm = s.vsm
      ∧ Raised (contactTold k s) s t := by
  refine contact_stands inv timer running clear kept ?_
  have none_ : visitState (told (contactTold k s) (contacted k s)) = none := by
    show s.vsm.visit.map _ = none
    rw [visit]
    rfl
  rw [visitContact, none_]

/-- What any contact but a breaker that opens does to a visit in RESTORING (R156). -/
theorem contact_restoring (visit : s.vsm.visit = some v) (restoring : v.state = .restoring)
    (other : (restoringContact k && !closedIn k s) = false) :
    (¬ AsksJoin v (contacted k s) → ∃ t, exec (.contactQualified k) s = .next t ∧ LinesAre (contactTaken k s) s t
      ∧ t.vsm = s.vsm ∧ Raised (contactTold k s) s t) ∧
    (∀ r, AsksJoin v (contacted k s) → firstFailing ((joinChecks (contacted k s)).drop 1) = some r →
      ∃ t, exec (.contactQualified k) s = .next t ∧ LinesAre (contactTaken k s) s t
        ∧ t.vsm = { s.vsm with visit := some { v with retryTimer := some 10000, joinRefused := true } }
        ∧ Raised (contactTold k s ++ if v.joinRefused then [] else [refusalTold v r]) s t) ∧
    (AsksJoin v (contacted k s) → firstFailing ((joinChecks (contacted k s)).drop 1) = none →
      (contactTaken k s).fb.qual ≠ (floorModeFor s).feedback →
      ∃ t, exec (.contactQualified k) s = .next t
        ∧ t.vsm = { s.vsm with visit := some { v with joinRequested := true, retryTimer := none } }
        ∧ TrcIs (joining (floorModeFor s) s) t
        ∧ t.clu = { commanded (floorModeFor s) (contactTaken k s) with
          horn := t.clu.horn, hornTimer := t.clu.hornTimer }
        ∧ Raised (contactTold k s) s t ∧ PortKept s t ∧ SameBut [.vsm, .clu, .trc, .hpi] s t) := by
  have asked := visitContact_asks (l := contactTold k s) (u := contacted k s) visit restoring other
  refine ⟨fun silent => ?_, fun r asks refused => ?_, fun asks taken away => ?_⟩
  · exact contact_stands inv timer running clear kept
      (asked.trans (tryJoin_stands (u := contacted k s) visit silent))
  · rw [← joinRefusal_eq] at refused
    exact contact_moves inv timer running clear kept visit
      (asked.trans (tryJoin_refused (u := contacted k s) visit asks refused)) rfl
  · have act : s.trc.activity = .none := by
      have passes := firstFailing_none taken (c := (decide (s.trc.activity ≠ .none), .busy)) (by simp [joinChecks])
      simpa using passes
    rw [← joinRefusal_eq] at taken
    have joins := joinFloor_told (l := contactTold k s)
      (u := visited { v with joinRequested := true, retryTimer := none } (contacted k s)) act away
    have runs := contact_steps inv timer running
    rw [asked, tryJoin_taken (u := contacted k s) visit asks taken, joins, maintContact_clear (by exact clear)] at runs
    have view : SameView s { visited { v with joinRequested := true, retryTimer := none } (contacted k s) with
        clu := commanded (floorModeFor s) (contactTaken k s), trc := joining (floorModeFor s) s } :=
      ⟨rfl, rfl, (isolatedFlag_visited visit).symm, rfl, rfl, rfl, rfl⟩
    obtain ⟨m, runs⟩ := runs_settled_told runs (view.claimKept rfl kept)
    exact ⟨_, runs, rfl, rfl, rfl, raised_told _ ⟨rfl, rfl, rfl, rfl, rfl, rfl, (contactTaken_horn k s).1,
      (contactTaken_horn k s).2⟩, portKept_told rfl, sameBut_of_eq⟩

end

theorem vsm_visited (visit : s.vsm.visit = some v) : s.vsm = { s.vsm with visit := some v } := by rw [← visit]

theorem sameBut_lines {clu : Clu} {t : State} (left : LinesAre clu s t) (vsm : t.vsm = s.vsm) :
    SameBut [.clu, .trc, .hpi] s t := sameBut_without .vsm left.2.2.2 vsm (by decide)

/-- Settles O50. -/
theorem contactChangeIsTaken : Obligations.ContactChangeIsTaken := by
  refine ⟨fun k s inv => ⟨contact_waits, fun timer => ?_⟩, fun k v s inv online kept visit timer => ?_,
    fun k v s inv online visit timer => ?_⟩
  · intro closed c₁ changed lines
    refine ⟨contact_configuring inv timer, fun running kept visit clear => ?_, ?_, ?_, ?_⟩
    · obtain ⟨t, done, left, vsm, raised⟩ := contact_unvisited inv timer running clear kept visit
      rw [contactTold, interlockTold_unvisited (u := contacted k s) visit clear] at raised
      exact ⟨t, done, left.1, left.2.1, left.2.2.1, sameBut_lines left vsm, raised⟩
    · rintro running visit rfl shut own unclaimed act idle urgent bypass away
      have aim : awayMode s = .byp := if_pos bypass
      have live : s.link.state ≠ .listen := fun listen =>
        absurd ((inv.listen.mp listen).symm.trans running) Bool.false_ne_true
      have leaving : Leaving s := ⟨own, live, by rw [isolatedFlag, visit], idle,
        fun c held => absurd (unclaimed.symm.trans held) (by nofun), by rw [aim]; exact away, .inl act⟩
      obtain ⟨t, done, raised, link, trc, clu, port, rest⟩ :=
        contact_forces inv timer running visit shut leaving unclaimed urgent
      have told_ : changed = changeTold .maint true := congrArg (changeTold .maint) shut
      rw [contactTold_ontoInv shut own, plainTold, riskTold_able bypass] at raised
      rw [aim] at trc clu
      rw [told_, own]
      exact ⟨t, done, raised, link, trc, clu, port, rest⟩
    · rintro v running visit kind isolating rfl shut claim
      have told_ : changed = changeTold .output false := congrArg (changeTold .output) shut
      rw [told_]
      exact contact_isolates inv timer running visit kind isolating shut claim
    · rintro v running visit wait kept rfl shut own
      have told_ : changed = changeTold .maint true := congrArg (changeTold .maint) shut
      have silent : contactTold .maint s = [changeTold .maint true] := by
        rw [contactTold, show closedIn .maint s = true from shut]
        simp [interlockTold, own]
      have moves := visitContact_maintWait (l := contactTold .maint s) (u := contacted .maint s) visit wait
      rw [show true = closedIn .maint s from shut.symm] at moves
      obtain ⟨t, done, left, vsm, raised⟩ := contact_moves inv timer running (fun onto => own onto.2.2) kept visit moves
        (by rw [wait]; rfl)
      rw [silent] at raised
      rw [told_]
      exact ⟨t, done, left.1, vsm, raised, left.2.1, left.2.2.1,
        left.2.2.2⟩
  · intro closed c₁ s₁ changed keptIn visitIs three clear
    have running := online.1
    refine ⟨fun restoring => ⟨fun opens breaker => ?_, fun other => ?_⟩, fun on => ?_⟩
    · have moves := visitContact_breaker (l := contactTold k s) (u := contacted k s) (k := k) visit restoring
        (by rcases breaker with rfl | rfl | rfl <;> rfl)
      rw [show false = closedIn k s from opens.symm] at moves
      exact contact_moves inv timer running clear kept visit moves rfl
    · have stays : (restoringContact k && !closedIn k s) = false := by
        rcases other with shut | rfl | rfl
        · rw [show closedIn k s = true from shut, Bool.not_true, Bool.and_false]
        · rfl
        · rfl
      obtain ⟨unasked, refuses, takes⟩ := contact_restoring inv timer running clear kept visit restoring stays
      refine ⟨fun silent => ?_, fun all fresh => ⟨fun r => refuses r ⟨restoring, all, fresh⟩,
        takes ⟨restoring, all, fresh⟩⟩⟩
      rw [show visitIs v = fun t => t.vsm = s.vsm by simp only [visitIs, ← vsm_visited visit]]
      refine unasked fun asks => ?_
      rcases silent with gap | asked
      · exact absurd (gap.symm.trans asks.2.1) Bool.false_ne_true
      · exact absurd (asks.2.2.symm.trans asked) Bool.false_ne_true
    · refine contact_moves inv timer running clear kept visit
        (visitContact_maintOn (u := contacted k s) visit on) ?_
      split <;> rfl
  · intro closed c₁ s₁ changed ontoInv_ stands three asks v₁ toldAll
    refine ⟨fun clear standing kept => ?_, ?_, ?_⟩
    · obtain ⟨t, done, left, vsm, raised⟩ := contact_stands inv timer online.1 clear (claimKept_lines kept)
        (visitContact_stands (u := contacted k s) visit standing)
      exact ⟨t, done, raised, left.1, left.2.1, left.2.2.1, sameBut_lines left vsm⟩
    · rintro ⟨rfl, shut, own⟩ urgent isolated kept
      have same : toldAll = ontoInvTold v s :=
        congrArg (fun b => changeTold .maint b :: alarm .interlock [1#8, 1#8] ::
          (visitOntoInvTold v (contacted .maint s) ++ [forcedTold .interlock s])) shut
      rw [same]
      exact contact_announces inv online timer visit shut own urgent isolated (claimKept_lines kept)
    · rintro target ⟨rfl, shut, own⟩ urgent present act holds room kept rfl away
      have same : toldAll = ontoInvTold v s :=
        congrArg (fun b => changeTold .maint b :: alarm .interlock [1#8, 1#8] ::
          (visitOntoInvTold v (contacted .maint s) ++ [forcedTold .interlock s])) shut
      obtain ⟨t, done, forced⟩ := contact_leaves inv online timer visit shut own urgent present act holds room
        (fun idle => claimKept_lines (kept idle)) away
      have aim : awayMode { s with clu := contactTaken .maint s } = awayMode s := rfl
      obtain ⟨⟨vsm, ended, clu, port, rest⟩, link⟩ := forced.leaves aim
      obtain ⟨trc, fresh, stood⟩ := forced.switches aim away
      rw [planDropped_none act] at link
      rw [same]
      exact ⟨t, done, forced.left.raised, vsm, ended, link, fresh, stood, trc, clu, port, rest⟩

end Sys2Proof.Machine
end

section
/-! LOAD CARRY RECORD: the record as its bytes carry it, and the preview of health that follows it (R68, R83). -/

namespace Sys2Proof.Machine

variable {s : State}

/-! ## The record in its bytes (R68, R182) -/

theorem nat32_be32 (w : BitVec 32) :
    nat32 (BitVec.ofNat 8 (w.toNat / 16777216)) (BitVec.ofNat 8 (w.toNat / 65536)) (BitVec.ofNat 8 (w.toNat / 256))
      (BitVec.ofNat 8 w.toNat) = w.toNat := by
  have bound := w.isLt
  simp only [nat32, BitVec.toNat_ofNat]
  omega

theorem verdictOf_code (v : Verdict) : Verdict.ofCode (byteOf v.code).toNat = some v := by cases v <;> rfl

theorem verdictOf_uncoded {n : Nat} (uncoded : 3 ≤ n) : Verdict.ofCode n = none := by
  rw [Verdict.ofCode, if_neg (by omega), if_neg (by omega), if_neg (by omega)]

section
variable (u d minTest minVisit : BitVec 32) (hasBaseline verdict synced : Byte)
  (baseline hTest soc nextVisit nextRun : BitVec 16)

/-- The argument bytes of LOAD CARRY RECORD (R182). -/
def carryBytes : List Byte :=
  be32 u ++ be32 d ++ [hasBaseline] ++ be16 baseline ++ be16 hTest ++ [verdict] ++ be16 soc ++ [synced]
    ++ be32 minTest ++ be32 minVisit ++ be16 nextVisit ++ be16 nextRun

theorem carryBytes_length : (carryBytes u d minTest minVisit hasBaseline verdict synced baseline hTest soc nextVisit
    nextRun).length = 29 := by
  simp only [carryBytes, be16, be32, List.cons_append, List.nil_append, List.length_cons, List.length_nil]

/-- The record that the argument bytes carry, before any clamping. -/
def carryCarried (v : Verdict) : Carry :=
  { u := u.toNat, d := d.toNat, baseline := if hasBaseline = 0#8 then none else some baseline.toNat
    hTest := hTest.toNat, verdict := v, soc := soc.toNat, synced := decide (synced ≠ 0#8), minTest := minTest.toNat
    minVisit := minVisit.toNat, nextVisit := nextVisit.toNat, nextRun := nextRun.toNat }

/-- The bytes are read back field by field; a last verdict outside its codes is none. -/
theorem carryArgs_bytes : carryArgs (carryBytes u d minTest minVisit hasBaseline verdict synced baseline hTest soc
      nextVisit nextRun)
    = (Verdict.ofCode verdict.toNat).map (carryCarried u d minTest minVisit hasBaseline synced baseline hTest soc
        nextVisit nextRun) := by
  have zero (b : Byte) : b.toNat = 0 ↔ b = 0#8 := BitVec.toNat_inj (y := 0#8)
  simp only [carryArgs, longAt, wordAt, byteAt, carryBytes, be16, be32, List.cons_append, List.nil_append,
    List.getD_cons_zero, List.getD_cons_succ, Nat.reduceAdd, nat16_be16, nat32_be32, zero, ne_eq]
  rfl

/-- What LOAD CARRY RECORD stores: each field within its range (R68). -/
theorem carryCarried_clamped (v : Verdict) :
    (carryCarried u d minTest minVisit hasBaseline synced baseline hTest soc nextVisit nextRun v).clamped
    = { u := u.toNat, d := d.toNat
        baseline := if hasBaseline = 0#8 then none else some (max 1 baseline.toNat)
        hTest := min 1000 hTest.toNat, verdict := v, soc := min 1000 soc.toNat
        synced := decide (synced ≠ 0#8), minTest := minTest.toNat, minVisit := minVisit.toNat
        nextVisit := max 1 nextVisit.toNat, nextRun := max 1 nextRun.toNat } := by
  simp only [Carry.clamped, carryCarried, apply_ite (Option.map (max 1)), Option.map_none, Option.map_some]

/-- The answer tells CLAMPED exactly where a field lay outside its range (R68). -/
theorem carryCarried_inRange (v : Verdict) :
    (carryCarried u d minTest minVisit hasBaseline synced baseline hTest soc nextVisit nextRun v).clamped
      = carryCarried u d minTest minVisit hasBaseline synced baseline hTest soc nextVisit nextRun v
    ↔ (hasBaseline ≠ 0#8 → 1 ≤ baseline.toNat) ∧ hTest.toNat ≤ 1000 ∧ soc.toNat ≤ 1000 ∧ 1 ≤ nextVisit.toNat
        ∧ 1 ≤ nextRun.toNat := by
  have known : (if hasBaseline = 0#8 then none else some (max 1 baseline.toNat))
        = (if hasBaseline = 0#8 then none else some baseline.toNat)
      ↔ (hasBaseline ≠ 0#8 → 1 ≤ baseline.toNat) := by
    by_cases absent : hasBaseline = 0#8 <;> simp [absent]
  rw [carryCarried_clamped]
  simp only [carryCarried, Carry.mk.injEq, known, min_eq_right_iff, max_eq_right_iff, true_and]

end

/-! ## The command (R68, R83) -/

/-- The part with the record `c` loaded and the preview of health taken from it (R68, R83). -/
def recordLoaded (c : Carry) (s : State) : State :=
  { s with bau := previewed { s.bau with carry := c } s.hpi.cab }

theorem loadCarry_bad {args : List Byte} (length : args.length = 29) (stopped : s.hpi.running = false)
    (bad : carryArgs args = none) :
    exec (.loadCarryRecord (byteOf 29 :: args)) s = .next (onlyAnswered 0x05 (byteOf 29 :: args) 5 0 [] s) := by
  have accepted : TakenIn.accepts .configuring s = true := by rw [TakenIn.accepts, stopped]; rfl
  have carried : argBytes (byteOf 29 :: args) = some args := if_pos length.symm
  have ruled : ruleLoadCarryRecord args (openCommand 0x05 (byteOf 29 :: args) s)
      = (openCommand 0x05 (byteOf 29 :: args) s, badArgument) := by
    rw [ruleLoadCarryRecord, bad]
  exact congrArg Host.Outcome.next
    (command_answers carried (by simp [len, length]) accepted ruled rfl rfl rfl rfl)

theorem loadCarry_answers {c : Carry} {args : List Byte} (length : args.length = 29)
    (stopped : s.hpi.running = false) (record : carryArgs args = some c) :
    exec (.loadCarryRecord (byteOf 29 :: args)) s = .next
      (onlyAnswered 0x05 (byteOf 29 :: args) (if c.clamped = c then 0 else 1) 0 [] (recordLoaded c.clamped s)) := by
  have accepted : TakenIn.accepts .configuring s = true := by rw [TakenIn.accepts, stopped]; rfl
  have carried : argBytes (byteOf 29 :: args) = some args := if_pos length.symm
  have ruled : ruleLoadCarryRecord args (openCommand 0x05 (byteOf 29 :: args) s)
      = (openCommand 0x05 (byteOf 29 :: args) (recordLoaded c.clamped s), clampReply (decide (c.clamped ≠ c))) := by
    rw [ruleLoadCarryRecord, record]
    dsimp only
    rw [previewHealth_previewed]
    rfl
  refine congrArg Host.Outcome.next (command_answers carried (by simp [len, length]) accepted ruled ?_ ?_ ?_ ?_)
  all_goals by_cases inRange : c.clamped = c <;> simp only [inRange, ne_eq, not_true_eq_false, not_false_eq_true,
    decide_true, decide_false, if_true, if_false] <;> rfl

/-- Settles O11. -/
theorem loadCarryRecordReplacesRecord : Obligations.LoadCarryRecordReplacesRecord := by
  intro u d minTest minVisit hasBaseline verdict synced baseline hTest soc nextVisit nextRun s stopped window
  have args := carryArgs_bytes u d minTest minVisit hasBaseline verdict synced baseline hTest soc nextVisit nextRun
  have length := carryBytes_length u d minTest minVisit hasBaseline verdict synced baseline hTest soc nextVisit nextRun
  refine ⟨fun uncoded => ?_, fun v code => ?_⟩
  · rw [verdictOf_uncoded uncoded, Option.map_none] at args
    exact loadCarry_bad length stopped args
  · rw [code, verdictOf_code, Option.map_some, ← code] at args
    have runs := loadCarry_answers (s := s) length stopped args
    have inRange := carryCarried_inRange u d minTest minVisit hasBaseline synced baseline hTest soc nextVisit nextRun v
    simp only [inRange] at runs
    rw [carryCarried_clamped] at runs
    exact ⟨_, runs, rfl, rfl, rfl, sameBut_of_eq⟩

end Sys2Proof.Machine
end

section
/-! The silence of the sense port: STALE, where a run in progress ends, and LOST (R57, R65, R138). -/

namespace Sys2Proof.Machine

variable {s : State}

/-! ## The silence timer (R57) -/

theorem silentFor_iff {term : Ticks} : silentFor term s = true ↔ ∃ n, s.sns.silence = some n ∧ term ≤ n := by
  unfold silentFor
  cases s.sns.silence <;> simp

/-- Silence short of a term: the timer stands still, or has not counted it. -/
theorem not_silentFor {term : Ticks} (short : s.sns.silence = none ∨ ∃ n, s.sns.silence = some n ∧ n < term) :
    ¬ silentFor term s = true := fun silent => by
  obtain ⟨n, counted, long⟩ := silentFor_iff.mp silent
  rcases short with still | ⟨k, held, less⟩
  · rw [counted] at still
    exact Option.some_ne_none n still
  · obtain rfl := Option.some.inj (counted.symm.trans held)
    exact Nat.not_lt.mpr long less

/-! ## STALE (R57, R65, R138) -/

theorem senseStale_waits (waits : s.sns.state ≠ .live ∨ ¬ silentFor staleSilence s = true) :
    exec .senseStaleTimeout s = .next s :=
  congrArg Host.Outcome.next (if_neg fun ⟨live, silent⟩ => waits.elim (· live) (· silent))

/-- The part with the sense state STALE and the float count at 0. -/
def staleEntered (s : State) : State :=
  { s with sns := { s.sns with state := .stale }, bau := { s.bau with floatCount := 0 } }

/-- The event of an entry to STALE, with the last valid sequence. -/
abbrev staleTold (s : State) : EventSpec := notice .senseStale s.sns.lastSeq.toList

theorem senseStale_runs (events : s.hpi.events.length ≤ 32) (live : s.sns.state = .live)
    (silent : silentFor staleSilence s = true) :
    exec .senseStaleTimeout s
      = .next (settle (abortRun .senseStale (told [staleTold s] (staleEntered s)))) := by
  refine congrArg Host.Outcome.next ((if_pos ⟨live, silent⟩).trans ?_)
  dsimp only
  rw [raise_eq_told _ _ (by exact events)]
  rfl

/-- Without a run the claim is judged on the frame that stands, and nothing else changes. -/
theorem senseStale_idle (events : s.hpi.events.length ≤ 32) (live : s.sns.state = .live)
    (silent : silentFor staleSilence s = true) (kept : ClaimKept s) (idle : s.tsq.state.inProgress = false) :
    ∃ m, exec .senseStaleTimeout s
      = .next (told [staleTold s] ((staleEntered s).modTrc fun t => { t with lastKnown := m })) := by
  have noRun : ¬ (told [staleTold s] (staleEntered s)).tsq.state.inProgress = true := fun run =>
    Bool.false_ne_true (idle.symm.trans run)
  have runs := senseStale_runs events live silent
  rw [abortRun, if_neg noRun] at runs
  have view : SameView s (staleEntered s) := ⟨rfl, rfl, rfl, rfl, rfl, rfl, rfl⟩
  exact runs_settled_told runs (view.claimKept rfl kept)

/-- A run in progress ends with SENSE_STALE and no verdict, its claim released (R126, R138, R140). -/
theorem senseStale_endsRun (events : s.hpi.events.length ≤ 32) (live : s.sns.state = .live)
    (silent : silentFor staleSilence s = true) (run : s.tsq.state.inProgress = true) (holds : RunHoldsClaim s)
    (online : OnLine s) (room : s.link.coord.length < 8) :
    ∃ status m, exec .senseStaleTimeout s = .next (told [staleTold s, runTold .senseStale s]
        ((runOver .senseStale s.link status s.trc (staleEntered s)).modTrc fun t => { t with lastKnown := m }))
      ∧ StatusQueued (runOver .senseStale s.link status s.trc (staleEntered s)) := by
  obtain ⟨running, sends, free⟩ := sends_of_onLine online
  obtain ⟨status, ended, queuedIn, -⟩ := abortRun_told (l := [staleTold s]) (s := staleEntered s) (link := s.link)
    (trc := s.trc) (cause := .senseStale) (fun _ _ => rfl) holds running sends free fun _ => room
  have pair : [staleTold s] ++ runOverTold .senseStale (staleEntered s) = [staleTold s, runTold .senseStale s] :=
    congrArg ([staleTold s] ++ ·) (if_pos run)
  rw [pair] at ended
  have kept : ClaimKept (runOver .senseStale s.link status s.trc (staleEntered s)) := claimKept_none (if_pos run)
  have runs := senseStale_runs events live silent
  obtain ⟨m, runs⟩ := runs_settled_told (runs.trans (congrArg (fun r => Host.Outcome.next (settle r)) ended)) kept
  exact ⟨status, m, runs, queuedIn run⟩

/-! ## LOST (R57) -/

theorem senseLost_waits (waits : s.sns.state ≠ .stale ∨ ¬ silentFor lostSilence s = true) :
    exec .senseLostTimeout s = .next s :=
  congrArg Host.Outcome.next (if_neg fun ⟨stale, silent⟩ => waits.elim (· stale) (· silent))

/-- The part with the sense state LOST and the silence timer stopped. -/
def lostEntered (s : State) : State := { s with sns := { s.sns with state := .lost, silence := none } }

theorem senseLost_runs (events : s.hpi.events.length ≤ 32) (stale : s.sns.state = .stale)
    (silent : silentFor lostSilence s = true) (kept : ClaimKept s) :
    ∃ m, exec .senseLostTimeout s = .next (told [alarm .senseLost s.sns.lastSeq.toList]
      ((lostEntered s).modTrc fun t => { t with lastKnown := m })) := by
  have runs : exec .senseLostTimeout s
      = .next (settle (told [alarm .senseLost s.sns.lastSeq.toList] (lostEntered s))) := by
    refine congrArg Host.Outcome.next ((if_pos ⟨stale, silent⟩).trans ?_)
    rw [raise_eq_told _ _ (by exact events)]
    rfl
  have view : SameView s (lostEntered s) := ⟨rfl, rfl, rfl, rfl, rfl, rfl, rfl⟩
  exact runs_settled_told runs (view.claimKept rfl kept)

/-- Settles O54. -/
theorem silenceTakesSenseToLost : Obligations.SilenceTakesSenseToLost := by
  intro s inv
  refine ⟨fun live silent kept idle => ?_, fun live silent run holds online room => ?_, fun waits => ?_,
    fun stale silent kept => ?_, fun waits => ?_⟩
  · obtain ⟨m, runs⟩ := senseStale_idle inv.events live (silentFor_iff.mpr silent) kept idle
    exact ⟨_, runs, rfl, rfl, raised_told _ ⟨rfl, rfl, rfl, rfl, rfl, rfl, rfl, rfl⟩, rfl, portKept_told rfl,
      linesKept_told rfl, sameBut_of_eq⟩
  · obtain ⟨status, m, runs, fresh⟩ :=
      senseStale_endsRun inv.events live (silentFor_iff.mpr silent) run holds online room
    exact ⟨_, runs, rfl, rfl, ⟨rfl, rfl⟩, rfl, fresh, rfl, raised_told _ ⟨rfl, rfl, rfl, rfl, rfl, rfl, rfl, rfl⟩, rfl,
      portKept_told rfl, sameBut_of_eq⟩
  · exact senseStale_waits (waits.imp_right not_silentFor)
  · obtain ⟨m, runs⟩ := senseLost_runs inv.events stale (silentFor_iff.mpr silent) kept
    exact ⟨_, runs, rfl, raised_told _ ⟨rfl, rfl, rfl, rfl, rfl, rfl, rfl, rfl⟩, rfl, portKept_told rfl,
      linesKept_told rfl, sameBut_of_eq⟩
  · exact senseLost_waits (waits.imp_right not_silentFor)

end Sys2Proof.Machine
end

section
/-! The account behind a valid sense frame, in closed form: temperature, charge, float count, discharge remainder,
health and runtime (R58 to R66, R75, R79, R81). -/

namespace Sys2Proof.Machine

variable {s u : State} {l : List EventSpec} {f : SenseFrame} {gap m : Nat}

/-! ## The account behind events -/

/-- An account that keeps the minute counter is written before or behind events alike. -/
theorem told_account {b : Bau} (minutes : b.minutes = u.bau.minutes) :
    { told l u with bau := b } = told l { u with bau := b } := by
  have same : EventSpec.record { u with bau := b } = EventSpec.record u :=
    funext fun e => record_congr e rfl minutes rfl
  simp only [told, same]

/-! ## Temperature and multiplier (R56, R60, R61) -/

theorem frameGap_eq (seq : Byte) (s : State) : gapOf s.sns.lastSeq seq = frameGap seq s := by
  unfold gapOf frameGap
  cases s.sns.lastSeq <;> rfl

theorem frameMultiplier_eq (seq : Byte) (s : State) : multiplierOf s.sns.lastSeq seq = frameMultiplier seq s := by
  have gap := frameGap_eq seq s
  cases last : s.sns.lastSeq <;> rw [last] at gap <;> simp only [multiplierOf, frameMultiplier, last, gap]

/-- A frame changes no more of the account than T_f before it is counted. -/
theorem warmed_frame (f : SenseFrame) (s : State) :
    ∃ tf tfInit, warmed f s = { s.bau with tf := tf, tfInit := tfInit } := by
  unfold warmed
  split <;> exact ⟨_, _, rfl⟩

theorem warmed_minutes (f : SenseFrame) (s : State) : (warmed f s).minutes = s.bau.minutes := by
  obtain ⟨_, _, warm⟩ := warmed_frame f s
  rw [warm]

theorem takeTemperature_eq (f : SenseFrame) (s : State) : takeTemperature f s = { s with bau := warmed f s } := by
  unfold takeTemperature warmed SenseFrame.tMax
  cases ([f.t1, f.t2, f.t3, f.t4].filterMap id).max? with
  | none => rfl
  | some t =>
    refine congrArg (fun b => { s with bau := b }) ?_
    dsimp only
    cases s.bau.tfInit <;> rfl

/-! ## Charge and float (R62, R65) -/

/-- The float count that a frame leads to, before the resync. -/
def floatReached (f : SenseFrame) (gap m : Nat) (s : State) : Nat :=
  if s.hpi.cab.floatV ≠ 0 ∧ s.hpi.cab.floatV ≤ f.v ∧ f.i.natAbs ≤ s.hpi.cab.floatI then
    (if 4 ≤ gap then 1 else s.bau.floatCount + m)
  else 0

/-- The account after a frame's charge and float count: at 7200 counted frames Q is taken as full. -/
def charged (f : SenseFrame) (gap m : Nat) (s : State) : Bau :=
  let count := floatReached f gap m s
  let full := fullCharge s.bau.h s
  { s.bau with
    q := if 7200 ≤ count then full else (max 0 (min (full : Int) (s.bau.q + m * f.i))).toNat
    floatCount := if 7200 ≤ count then 0 else count
    carry := { s.bau.carry with synced := s.bau.carry.synced || decide (7200 ≤ count) } }

theorem floatHolds_iff : floatHolds f s = true
    ↔ s.hpi.cab.floatV ≠ 0 ∧ s.hpi.cab.floatV ≤ f.v ∧ f.i.natAbs ≤ s.hpi.cab.floatI := by
  simp only [floatHolds, Bool.and_eq_true, decide_eq_true_eq, and_assoc]

theorem countFloat_countCharge (running : s.hpi.running = true) :
    countFloat f gap m (countCharge m f.i s) = { s with bau := charged f gap m s } := by
  have full : qFull s = fullCharge s.bau.h s := if_pos running
  have count : (if floatHolds f (countCharge m f.i s) then
      (if 4 ≤ gap then 1 else (countCharge m f.i s).bau.floatCount + m) else 0) = floatReached f gap m s :=
    ite_congr (propext (floatHolds_iff (s := countCharge m f.i s))) (fun _ => rfl) fun _ => rfl
  have fullStill : qFull (countCharge m f.i s) = qFull s := rfl
  rw [countFloat, count, resyncCount, charged]
  by_cases resync : 7200 ≤ floatReached f gap m s
  · simp only [fullStill, full, resync, if_true, decide_true, Bool.or_true]
    rfl
  · simp only [resync, if_false, decide_false, Bool.or_false, countCharge, clampInt, full]
    rfl

/-! ## Discharge remainder (R66) -/

/-- A frame that completes no step of the remainder leaves the life used. -/
theorem countDischarge_rest (steps : stepsMade m f.i s = 0) (life : s.bau.carry.u ≤ 4294967295) :
    countDischarge m f.i s = { s with bau := { s.bau with carry := { s.bau.carry with
      d := if f.i < 0 then s.bau.carry.d + m * f.i.natAbs else s.bau.carry.d } } } := by
  unfold stepsMade at steps
  unfold countDischarge
  split <;> rename_i out
  · rw [if_pos out] at steps
    have rest : (s.bau.carry.d + m * f.i.natAbs) % stepSize s = s.bau.carry.d + m * f.i.natAbs := by
      have whole := Nat.div_add_mod (s.bau.carry.d + m * f.i.natAbs) (stepSize s)
      rwa [steps, Nat.mul_zero, Nat.zero_add] at whole
    have unaged : min max32 (s.bau.carry.u + 0) = s.bau.carry.u := min_eq_right life
    simp only [steps, rest, Nat.zero_mul, addLife, State.modBau, unaged]
  · rfl

/-- A frame that completes steps of the remainder adds the cycle penalty of each to the life used. -/
theorem countDischarge_steps (out : f.i < 0) : countDischarge m f.i s
    = { s with bau := { s.bau with carry := { s.bau.carry with
        u := min 4294967295 (s.bau.carry.u
          + (s.bau.carry.d + m * f.i.natAbs) / dischargeStep s * s.hpi.cab.cyclePenalty)
        d := (s.bau.carry.d + m * f.i.natAbs) % dischargeStep s } } } :=
  if_pos out

/-! ## Health and runtime (R75, R79, R81) -/

theorem refreshRuntime_eq (s : State) :
    refreshRuntime s = { s with bau := { s.bau with runtime := runtimeFor s.bau.q (ownLoad s) s } } := rfl

theorem refreshRuntime_stands (stands : s.bau.runtime = runtimeFor s.bau.q (ownLoad s) s) : refreshRuntime s = s := by
  rw [refreshRuntime_eq, ← stands]

/-- The account after H_age and H are taken as given: a new H clamps Q, and runtime and the weak flag follow (R79). -/
def healthTaken (hAge h : Nat) (s : State) : Bau :=
  if h = s.bau.h then { s.bau with hAge := hAge }
  else
    { s.bau with
      hAge := hAge, h := h, q := min s.bau.q (fullCharge h s)
      runtime := runtimeFor (min s.bau.q (fullCharge h s)) (ownLoad s) s
      weak := decide (h < s.hpi.cab.weakTh) || decide (s.bau.carry.verdict = .weak) }

theorem healthTaken_h (hAge h : Nat) (s : State) : (healthTaken hAge h s).h = h := by
  unfold healthTaken
  split <;> rename_i same
  · exact same.symm
  · rfl

theorem healthTaken_minutes (hAge h : Nat) (s : State) : (healthTaken hAge h s).minutes = s.bau.minutes := by
  unfold healthTaken
  split <;> rfl

/-- A new H takes runtime along. -/
theorem healthTaken_runtime {hAge h : Nat} (new : h ≠ s.bau.h) :
    (healthTaken hAge h s).runtime = runtimeFor (healthTaken hAge h s).q (ownLoad s) s := by
  rw [healthTaken, if_neg new]

theorem healthTaken_told (hAge h : Nat) (b : Bau) :
    healthTaken hAge h { told l s with bau := b } = healthTaken hAge h { s with bau := b } := rfl

theorem recomputeHealth_eq (s : State) : recomputeHealth s
    = { s with bau := healthTaken (ageHealth s.bau.carry.u (uRated s)) (healthNow s) s } := by
  have shape (a : Bau → Nat) (h : Nat) :
      (if h = s.bau.h then s.modBau fun b => { b with hAge := a b }
        else refreshWeak (refreshRuntime ((s.modBau fun b => { b with hAge := a b }).modBau fun b =>
          { b with h := h, q := min b.q (qFullOf (s.hpi.cab.cRated.getD 0) h) })))
        = { s with bau := healthTaken (a s.bau) h s } := by
    unfold healthTaken
    split <;> rfl
  exact shape (fun b => ageHealth b.carry.u (uRated s)) (healthNow s)

theorem healthNow_eq (s : State) : healthNow s = healthOf s.bau.carry.u s.bau.carry.hTest s := by
  simp only [healthNow, healthOf, ageHealth, uRated]

/-- A new H is reported to the VSM, which evaluates the dues; where H stands no report follows (R75, R79, R147). -/
theorem recountHealth_eq (s : State) : recountHealth s
    = (let w := { s with bau := healthTaken (ageHealth s.bau.carry.u (uRated s)) (healthNow s) s }
      if healthNow s = s.bau.h then w else evaluateDues w) := by
  have counted {w : State} (h : recomputeHealth s = w) :
      recountHealth s = if w.bau.h = s.bau.h then w else evaluateDues w := by rw [← h]; rfl
  rw [counted (recomputeHealth_eq s)]
  dsimp only
  rw [healthTaken_h]

/-! ## The frame as it is counted (R58, R62) -/

/-- The part in which a frame is counted: the frame held, the sense state LIVE, the silence over. -/
abbrev frameHeard (f : SenseFrame) (s : State) : State := { s with sns := ⟨.live, some f, some f.seq, some 0⟩ }

/-- The account after charge and float of a frame (R60 to R65). -/
def frameCharged (f : SenseFrame) (s : State) : Bau :=
  charged f (frameGap f.seq s) (frameMultiplier f.seq s) { s with bau := warmed f s }

/-- The account after a frame that completes no step of the remainder (R66, R81). -/
def frameRested (f : SenseFrame) (s : State) : Bau :=
  let b := frameCharged f s
  { b with carry := { b.carry with d := dischargeWith f s }, runtime := runtimeFor b.q f.p s }

/-- The account after the steps of the remainder that a frame completes, before health is taken again (R66). -/
def frameAged (f : SenseFrame) (s : State) : Bau :=
  let b := frameCharged f s
  { b with carry := { b.carry with
    u := min 4294967295 (s.bau.carry.u + dischargeWith f s / dischargeStep s * s.hpi.cab.cyclePenalty)
    d := dischargeWith f s % dischargeStep s } }

/-- Health after the steps of a frame (R76, R79). -/
def frameHealth (f : SenseFrame) (s : State) : Nat := healthOf (frameAged f s).carry.u s.bau.carry.hTest s

/-- The account of a frame that completes steps, health taken again, before the last look at runtime (R75, R79). -/
def frameJudged (f : SenseFrame) (s : State) : Bau :=
  healthTaken (ageHealth (frameAged f s).carry.u (uRated s)) (frameHealth f s)
    { frameHeard f s with bau := frameAged f s }

/-- The whole steps of the remainder that a frame completes. -/
def frameSteps (f : SenseFrame) (s : State) : Nat := if f.i < 0 then dischargeWith f s / dischargeStep s else 0

theorem frameCharged_frame (f : SenseFrame) (s : State) : ∃ tf tfInit q floatCount synced, frameCharged f s
    = { s.bau with
      tf := tf, tfInit := tfInit, q := q, floatCount := floatCount
      carry := { s.bau.carry with synced := synced } } := by
  obtain ⟨tf, tfInit, warm⟩ := warmed_frame f s
  rw [frameCharged, warm]
  exact ⟨_, _, _, _, _, rfl⟩

/-- A frame that completes no step is counted as R62 to R66 put it. -/
theorem frameCounted_rested (none_ : 0 ≤ f.i ∨ dischargeWith f s < dischargeStep s) :
    frameCounted f s = frameRested f s := by
  obtain ⟨tf, tfInit, warm⟩ := warmed_frame f s
  simp only [frameCounted, frameRested, frameCharged, charged, floatReached, if_pos none_, warm]
  rfl

/-- A frame that completes steps is counted with health taken again. -/
theorem frameCounted_judged (some_ : ¬ (0 ≤ f.i ∨ dischargeWith f s < dischargeStep s)) :
    frameCounted f s = { frameJudged f s with runtime := runtimeFor (frameJudged f s).q f.p s } := by
  obtain ⟨tf, tfInit, warm⟩ := warmed_frame f s
  simp only [frameCounted, if_neg some_, frameJudged, frameHealth, frameAged, frameCharged, charged, floatReached, warm,
    healthTaken, ageHealth, uRated]
  generalize min 4294967295 (s.bau.carry.u + dischargeWith f s / dischargeStep s * s.hpi.cab.cyclePenalty) = u
  generalize healthOf u s.bau.carry.hTest s = h,
    1000 - min 1000 (1000 * u / (s.hpi.cab.life * 8415360)) = hAge
  by_cases same : h = s.bau.h
  · simp only [same, if_true]
    rfl
  · simp only [same, if_false]
    rfl

/-! The last look at runtime sets one field. These are stated for any account, since the kernel unfolds the figures of a
given one. -/

theorem withRuntime_h (b : Bau) (n : Nat) : { b with runtime := n }.h = b.h := rfl

theorem withRuntime_minutes (b : Bau) (n : Nat) : { b with runtime := n }.minutes = b.minutes := rfl

theorem withRuntime_self {b : Bau} {n : Nat} (same : b.runtime = n) : { b with runtime := n } = b := by rw [← same]

theorem frameJudged_h (f : SenseFrame) (s : State) : (frameJudged f s).h = frameHealth f s := healthTaken_h _ _ _

theorem frameCounted_judged_h (some_ : ¬ (0 ≤ f.i ∨ dischargeWith f s < dischargeStep s)) :
    (frameCounted f s).h = frameHealth f s :=
  (congrArg Bau.h (frameCounted_judged some_)).trans ((withRuntime_h _ _).trans (frameJudged_h f s))

theorem frameRested_h (f : SenseFrame) (s : State) : (frameRested f s).h = s.bau.h := by
  obtain ⟨_, _, _, _, _, c⟩ := frameCharged_frame f s
  rw [frameRested, c]

theorem frameRested_minutes (f : SenseFrame) (s : State) : (frameRested f s).minutes = s.bau.minutes := by
  obtain ⟨_, _, _, _, _, c⟩ := frameCharged_frame f s
  rw [frameRested, c]

/-! ## The account behind events (R58 step 3, R62) -/

/-- A frame is not counted in CONFIGURING (R62). -/
theorem accountFrame_stopped (stopped : s.hpi.running = false) :
    accountFrame f gap m (told l (frameHeard f s)) = told l { frameHeard f s with bau := warmed f s } := by
  have still : ((told l (frameHeard f s)).hpi.running
      && decide ((told l (frameHeard f s)).sns.state = .live)) = false := by
    rw [told_running, stopped, Bool.false_and]
  rw [accountFrame, still, takeTemperature_eq]
  exact told_account (warmed_minutes f s)

/-- The frame as it is charged, behind events. -/
abbrev chargedPart (l : List EventSpec) (f : SenseFrame) (s : State) : State :=
  { told l (frameHeard f s) with bau := frameCharged f s }

theorem stepsMade_charged :
    stepsMade (frameMultiplier f.seq s) f.i (chargedPart l f s) = frameSteps f s := by
  obtain ⟨_, _, _, _, _, c⟩ := frameCharged_frame f s
  unfold stepsMade frameSteps dischargeWith
  dsimp only [chargedPart]
  rw [c]
  split <;> rfl

theorem accountFrame_running (running : s.hpi.running = true) :
    accountFrame f (frameGap f.seq s) (frameMultiplier f.seq s) (told l (frameHeard f s))
      = refreshRuntime (if frameSteps f s = 0 then countDischarge (frameMultiplier f.seq s) f.i (chargedPart l f s)
        else recountHealth (countDischarge (frameMultiplier f.seq s) f.i (chargedPart l f s))) := by
  have counts : ((told l (frameHeard f s)).hpi.running
      && decide ((told l (frameHeard f s)).sns.state = .live)) = true := by
    rw [told_running, running]
    rfl
  have charges : countFloat f (frameGap f.seq s) (frameMultiplier f.seq s) (countCharge (frameMultiplier f.seq s) f.i
      { told l (frameHeard f s) with bau := warmed f (told l (frameHeard f s)) }) = chargedPart l f s :=
    countFloat_countCharge (s := { told l (frameHeard f s) with bau := warmed f (told l (frameHeard f s)) }) running
  rw [accountFrame, counts, if_pos rfl, takeTemperature_eq]
  dsimp only
  rw [charges, stepsMade_charged]

/-- A frame that completes no step leaves health (R66, R81). -/
theorem accountFrame_rested (running : s.hpi.running = true) (life : s.bau.carry.u ≤ 4294967295)
    (steps : frameSteps f s = 0) :
    accountFrame f (frameGap f.seq s) (frameMultiplier f.seq s) (told l (frameHeard f s))
      = told l { frameHeard f s with bau := frameRested f s } := by
  obtain ⟨_, _, _, _, _, c⟩ := frameCharged_frame f s
  have unaged : (chargedPart l f s).bau.carry.u ≤ 4294967295 := by
    dsimp only [chargedPart]
    rwa [c]
  have none_ : stepsMade (frameMultiplier f.seq s) f.i (chargedPart l f s) = 0 := by rw [stepsMade_charged, steps]
  have rest : (if f.i < 0 then (frameCharged f s).carry.d + frameMultiplier f.seq s * f.i.natAbs
      else (frameCharged f s).carry.d) = dischargeWith f s := by rw [c, dischargeWith]
  rw [accountFrame_running running, if_pos steps, countDischarge_rest none_ unaged, refreshRuntime_eq]
  refine Eq.trans ?_ (told_account (frameRested_minutes f s))
  dsimp only [chargedPart, frameRested]
  rw [rest]
  rfl

theorem frameSteps_ne (steps : frameSteps f s ≠ 0) :
    f.i < 0 ∧ ¬ (0 ≤ f.i ∨ dischargeWith f s < dischargeStep s) := by
  unfold frameSteps at steps
  split at steps <;> rename_i out
  · refine ⟨out, fun few => few.elim (fun charge => absurd out (not_lt.mpr charge)) fun less => ?_⟩
    exact steps (Nat.div_eq_of_lt less)
  · exact absurd rfl steps

theorem frameAged_frame (f : SenseFrame) (s : State) : ∃ tf tfInit q floatCount carry, frameAged f s
    = { s.bau with tf := tf, tfInit := tfInit, q := q, floatCount := floatCount, carry := carry } ∧
      carry.hTest = s.bau.carry.hTest := by
  obtain ⟨_, _, _, _, _, c⟩ := frameCharged_frame f s
  rw [frameAged, c]
  exact ⟨_, _, _, _, _, rfl, rfl⟩

/-- The steps of the remainder age the account of a frame. -/
theorem countDischarge_charged (out : f.i < 0) :
    countDischarge (frameMultiplier f.seq s) f.i (chargedPart l f s)
      = { told l (frameHeard f s) with bau := frameAged f s } := by
  obtain ⟨_, _, _, _, _, c⟩ := frameCharged_frame f s
  have d : dischargeWith f s = s.bau.carry.d + frameMultiplier f.seq s * f.i.natAbs := if_pos out
  rw [countDischarge_steps out, frameAged, d]
  dsimp only [chargedPart]
  rw [c]
  rfl

theorem frameAged_h (f : SenseFrame) (s : State) : (frameAged f s).h = s.bau.h := by
  obtain ⟨_, _, _, _, _, aged, -⟩ := frameAged_frame f s
  rw [aged]

/-- Health is taken again on the aged account. -/
theorem recountHealth_aged : recountHealth { told l (frameHeard f s) with bau := frameAged f s }
    = if frameHealth f s = s.bau.h then { told l (frameHeard f s) with bau := frameJudged f s }
      else evaluateDues { told l (frameHeard f s) with bau := frameJudged f s } := by
  obtain ⟨_, _, _, _, _, aged, hTest⟩ := frameAged_frame f s
  have health : healthNow { told l (frameHeard f s) with bau := frameAged f s } = frameHealth f s := by
    rw [healthNow_eq, frameHealth, ← hTest]
    dsimp only
    rw [aged]
    rfl
  rw [recountHealth_eq, health]
  dsimp only
  rw [healthTaken_told, frameAged_h]
  rfl

theorem frameJudged_minutes (f : SenseFrame) (s : State) : (frameJudged f s).minutes = s.bau.minutes := by
  obtain ⟨_, _, _, _, _, aged, -⟩ := frameAged_frame f s
  rw [frameJudged, healthTaken_minutes, aged]

theorem frameCounted_minutes (f : SenseFrame) (s : State) : (frameCounted f s).minutes = s.bau.minutes := by
  by_cases rest : 0 ≤ f.i ∨ dischargeWith f s < dischargeStep s
  · rw [frameCounted_rested rest, frameRested_minutes]
  · rw [frameCounted_judged rest]
    exact (withRuntime_minutes _ _).trans (frameJudged_minutes f s)

theorem frameJudged_runtime (new : frameHealth f s ≠ s.bau.h) :
    (frameJudged f s).runtime = runtimeFor (frameJudged f s).q f.p s :=
  healthTaken_runtime (s := { frameHeard f s with bau := frameAged f s }) (by rwa [frameAged_h])

/-- A frame that completes steps has health taken again, which raises the dues where it changes (R75, R79, R147). -/
theorem accountFrame_judged (running : s.hpi.running = true) (steps : frameSteps f s ≠ 0) :
    accountFrame f (frameGap f.seq s) (frameMultiplier f.seq s) (told l (frameHeard f s))
      = told (l ++ frameDues f s) { frameHeard f s with bau := frameCounted f s, vsm := frameVsm f s } := by
  obtain ⟨out, some_⟩ := frameSteps_ne steps
  have counted := frameCounted_judged some_
  have health := frameCounted_judged_h some_
  rw [accountFrame_running running, if_neg steps, countDischarge_charged out, recountHealth_aged]
  by_cases same : frameHealth f s = s.bau.h
  · rw [if_pos same, frameDues, frameVsm, if_pos (health.trans same), if_pos (health.trans same), List.append_nil]
    refine Eq.trans ?_ (told_account (u := frameHeard f s) (frameCounted_minutes f s))
    rw [counted]
    generalize frameJudged f s = b
    rfl
  · have runtime := frameJudged_runtime same
    obtain ⟨raised, evaluated⟩ := duesEvaluated_congr (s := { s with bau := frameJudged f s })
      (u := { frameHeard f s with bau := frameJudged f s }) rfl rfl rfl
    rw [if_neg same, frameDues, frameVsm, if_neg (health.trans_ne same), if_neg (health.trans_ne same),
      counted.trans (withRuntime_self runtime), told_account (u := frameHeard f s) (frameJudged_minutes f s),
      evaluateDues_told, raised, evaluated]
    generalize frameJudged f s = b at runtime ⊢
    exact refreshRuntime_stands runtime

/-- Without a whole step a frame is counted at rest, unless the step has no size. -/
theorem rested_of_frameSteps (steps : frameSteps f s = 0) (size : f.i < 0 → 0 < dischargeStep s) :
    0 ≤ f.i ∨ dischargeWith f s < dischargeStep s := by
  unfold frameSteps at steps
  split at steps <;> rename_i out
  · exact .inr ((Nat.div_eq_zero_iff_lt (size out)).mp steps)
  · exact .inl (not_lt.mp out)

theorem frameVsm_visit (f : SenseFrame) (s : State) : (frameVsm f s).visit = s.vsm.visit := by
  unfold frameVsm
  split <;> rfl

/-- What the account of a frame leaves in RUNNING; in the figures of R66 where a discharge step has a size. -/
theorem accountFrame_counted (running : s.hpi.running = true) (life : s.bau.carry.u ≤ 4294967295) : ∃ new b v,
    accountFrame f (frameGap f.seq s) (frameMultiplier f.seq s) (told l (frameHeard f s))
        = told (l ++ new) { frameHeard f s with bau := b, vsm := v }
      ∧ b.minutes = s.bau.minutes ∧ v.visit = s.vsm.visit
      ∧ ((f.i < 0 → 0 < dischargeStep s) → b = frameCounted f s ∧ v = frameVsm f s ∧ new = frameDues f s) := by
  by_cases steps : frameSteps f s = 0
  · refine ⟨[], frameRested f s, s.vsm, ?_, frameRested_minutes f s, rfl, fun size => ?_⟩
    · rw [List.append_nil]
      exact accountFrame_rested running life steps
    · have counted := frameCounted_rested (rested_of_frameSteps steps size)
      have health : (frameCounted f s).h = s.bau.h := by rw [counted, frameRested_h]
      exact ⟨counted.symm, (if_pos health).symm, (if_pos health).symm⟩
  · exact ⟨_, _, _, accountFrame_judged running steps, frameCounted_minutes f s, frameVsm_visit f s,
      fun _ => ⟨rfl, rfl, rfl⟩⟩

end Sys2Proof.Machine
end

section
/-! A valid sense frame with no run in progress: the row from the sense state to the re-evaluation of the own claim (R56
to R58). -/

namespace Sys2Proof.Machine

variable {s : State} {f : SenseFrame} {frame : List Byte}

/-- SENSE_RESTORED of a frame that ends STALE or LOST (R57). -/
def restoredTold (f : SenseFrame) (s : State) : List EventSpec :=
  match s.sns.state with
  | .stale => [info .senseRestored [2#8, f.seq]]
  | .lost => [info .senseRestored [3#8, f.seq]]
  | .waiting => []
  | .live => []

/-- The sense port takes the frame before any other block sees it (R57, R58). -/
theorem holdFrame_goLive (events : s.hpi.events.length ≤ 32) :
    holdFrame f (goLive f s) = told (restoredTold f s) (frameHeard f s) := by
  have silent : told [] (frameHeard f s) = frameHeard f s := told_nil events
  unfold goLive restoredTold
  cases state : s.sns.state with
  | stale => dsimp only; rw [raise_eq_told _ _ (by exact events)]; rfl
  | lost => dsimp only; rw [raise_eq_told _ _ (by exact events)]; rfl
  | waiting => exact silent.symm
  | live => exact silent.symm

/-- Without a run in progress no frame reaches the test sequencer (R134). -/
theorem testFrame_idle {m : Nat} (idle : s.tsq.state.inProgress = false) : testFrame f m s = s := by
  unfold testFrame
  split
  · rfl
  · cases state : s.tsq.state with
    | idle => rfl
    | ended => rfl
    | claiming => exact absurd idle (by rw [state]; nofun)
    | running n => exact absurd idle (by rw [state]; nofun)
    | paused n => exact absurd idle (by rw [state]; nofun)

/-- The frame behind the sense port and the account is settled. -/
theorem validSenseFrame_runs (events : s.hpi.events.length ≤ 32) (valid : parseSenseFrame frame = .valid f) :
    exec (.validSenseFrame frame) s = .next (settle (testFrame f (frameMultiplier f.seq s)
      (accountFrame f (frameGap f.seq s) (frameMultiplier f.seq s) (told (restoredTold f s) (frameHeard f s))))) := by
  refine congrArg Host.Outcome.next ?_
  simp only [validSenseFrame, valid, takeFrameValid, frameGap_eq, frameMultiplier_eq, holdFrame_goLive events]

/-- What a frame leaves, from the account and the VSM behind it and the events raised. -/
theorem frame_leaves {l : List EventSpec} {b : Bau} {v : Vsm} (events : s.hpi.events.length ≤ 32)
    (valid : parseSenseFrame frame = .valid f) (idle : s.tsq.state.inProgress = false)
    (kept : s.hpi.running = true → ClaimKept (frameHeard f s))
    (accounted : accountFrame f (frameGap f.seq s) (frameMultiplier f.seq s) (told (restoredTold f s) (frameHeard f s))
      = told l { frameHeard f s with bau := b, vsm := v })
    (minutes : b.minutes = s.bau.minutes) (visit : v.visit = s.vsm.visit) :
    ∃ t, exec (.validSenseFrame frame) s = .next t ∧ t.sns = (frameHeard f s).sns ∧ TrcIs s.trc t ∧ PortKept s t ∧
      LinesKept s t ∧ SameBut [.sns, .bau, .vsm, .clu, .trc, .hpi] s t ∧ t.bau = b ∧ t.vsm = v ∧ Raised l s t := by
  have runs := validSenseFrame_runs events valid
  rw [accounted, testFrame_idle (by exact idle)] at runs
  have settled : ∃ m, settle (told l { frameHeard f s with bau := b, vsm := v })
      = told l (State.modTrc (fun t => { t with lastKnown := m }) { frameHeard f s with bau := b, vsm := v }) := by
    cases running : s.hpi.running with
    | false =>
      have stopped : ¬ (told l { frameHeard f s with bau := b, vsm := v }).hpi.running = true := fun h =>
        Bool.false_ne_true (running.symm.trans h)
      exact ⟨s.trc.lastKnown, if_neg stopped⟩
    | true =>
      have isolated : isolatedFlag { frameHeard f s with bau := b, vsm := v } = isolatedFlag (frameHeard f s) := by
        unfold isolatedFlag
        rw [visit]
      have view : SameView (frameHeard f s) { frameHeard f s with bau := b, vsm := v } :=
        ⟨rfl, rfl, isolated, rfl, rfl, rfl, rfl⟩
      exact settle_told (view.claimKept rfl (kept running))
  obtain ⟨m, settled⟩ := settled
  exact ⟨_, runs.trans (congrArg _ settled), rfl, rfl, portKept_told rfl, linesKept_told rfl, sameBut_of_eq, rfl, rfl,
    raised_told l ⟨rfl, rfl, rfl, rfl, minutes, rfl, rfl, rfl⟩⟩

/-- Settles O52. -/
theorem senseFrameIsCounted : Obligations.SenseFrameIsCounted := by
  intro frame f s inv valid idle heard kept
  cases running : s.hpi.running with
  | false =>
    obtain ⟨t, runs, sns, trc, port, lines, rest, bau, vsm, raised⟩ := frame_leaves inv.events valid idle
      kept (accountFrame_stopped running) (warmed_minutes f s) rfl
    exact ⟨t, runs, sns, trc, port, lines, rest, fun _ => ⟨bau, vsm, raised⟩, fun run => absurd run (by decide)⟩
  | true =>
    obtain ⟨new, b, v, accounted, minutes, visit, counted⟩ :=
      accountFrame_counted (l := restoredTold f s) (f := f) running inv.life
    obtain ⟨t, runs, sns, trc, port, lines, rest, bau, vsm, raised⟩ := frame_leaves inv.events valid idle
      kept accounted minutes visit
    refine ⟨t, runs, sns, trc, port, lines, rest, fun stopped => absurd stopped (by decide), fun _ size => ?_⟩
    obtain ⟨rfl, rfl, rfl⟩ := counted size
    exact ⟨bau, vsm, raised⟩

end Sys2Proof.Machine
end

section
/-! LOAD AGEING TABLE and SET PROFILE: the lists as their bytes carry them, and what each replaces (R74, R129). -/

namespace Sys2Proof.Machine

variable {s : State}

/-- A command that may have clamped a value is answered CLAMPED or OK (R169, R174). -/
theorem command_clamps {code : Byte} {lengths : Nat → Bool} {taken : TakenIn} {rule : Rule} {window args : List Byte}
    {u : State} {changed : Bool} (carried : argBytes window = some args) (fits : lengths args.length = true)
    (accepted : taken.accepts s = true)
    (ruled : rule args (openCommand code window s) = (openCommand code window u, clampReply changed)) :
    hostCommand code lengths taken rule window s
      = onlyAnswered code window (if changed then 1 else 0) 0 [] u := by
  cases changed <;> exact command_answers carried fits accepted ruled rfl rfl rfl rfl

/-! ## LOAD AGEING TABLE (R74, R182) -/

theorem pairsOf_be16 (values : List (BitVec 16)) : pairsOf (values.flatMap be16) = values.map (·.toNat) := by
  induction values with
  | nil => rfl
  | cons v rest ih =>
    simp only [List.flatMap_cons, be16, List.cons_append, List.nil_append, pairsOf, nat16_be16, List.map_cons,
      List.cons.injEq, true_and]
    exact ih

theorem length_flatMap_be16 (values : List (BitVec 16)) : (values.flatMap be16).length = 2 * values.length := by
  simp only [List.length_flatMap, be16, List.length_cons, List.length_nil, List.map_const', List.sum_replicate,
    smul_eq_mul]
  omega

theorem length_writeWeights (table : List Nat) (start : Nat) (values : List Nat) :
    (writeWeights table start values).length = table.length := by
  induction values generalizing table start with
  | nil => rfl
  | cons v rest ih => rw [writeWeights, ih, List.length_set]

/-- Value j stands at index start + j, as 255 at most; no other weight has changed. -/
theorem getElem?_writeWeights {table : List Nat} {j : Nat} (within : j < table.length) (start : Nat)
    (values : List Nat) : (writeWeights table start values)[j]? =
      if start ≤ j then
        match values[j - start]? with
        | some v => some (min 255 v)
        | none => table[j]?
      else table[j]? := by
  induction values generalizing table start with
  | nil => simp [writeWeights]
  | cons v rest ih =>
    rw [writeWeights, ih (by rwa [List.length_set])]
    rcases Nat.lt_trichotomy start j with before | rfl | behind
    · obtain ⟨k, rfl⟩ := Nat.exists_eq_add_of_lt before
      have reaches : start + k + 1 - start = k + 1 := by omega
      have next : start + k + 1 - (start + 1) = k := by omega
      rw [if_pos (by omega), if_pos before.le, reaches, next, List.getElem?_cons_succ,
        List.getElem?_set_ne (by omega)]
    · rw [if_neg (by omega), if_pos le_rfl, Nat.sub_self, List.getElem?_cons_zero, List.getElem?_set_self within]
    · rw [if_neg (by omega), if_neg (by omega), List.getElem?_set_ne (by omega)]

theorem argBytes_ageing {start : Byte} {values : List (BitVec 16)} (few : values.length ≤ 16) :
    argBytes (byteOf (1 + 2 * values.length) :: start :: values.flatMap be16)
      = some (start :: values.flatMap be16) := by
  refine if_pos ?_
  rw [byteOf, toNat_ofNat_byte (by omega), List.length_cons, length_flatMap_be16, Nat.add_comm]

/-- The part with weights written from an index on (R74). -/
def weightsLoaded (start : Byte) (values : List (BitVec 16)) (s : State) : State :=
  { s with bau := { s.bau with ageing := writeWeights s.bau.ageing start.toNat (values.map (·.toNat)) } }

theorem loadAgeing_answers {start : Byte} {values : List (BitVec 16)} (few : values.length ≤ 16)
    (stopped : s.hpi.running = false) :
    let window := byteOf (1 + 2 * values.length) :: start :: values.flatMap be16
    exec (.loadAgeingTable window) s = .next (
      if 15 < start.toNat then onlyAnswered 0x03 window 5 0 [] s
      else onlyAnswered 0x03 window
        (if 16 < start.toNat + values.length ∨ ∃ v ∈ values.take (16 - start.toNat), 255 < v.toNat then 1 else 0) 0 []
        (weightsLoaded start values s)) := by
  intro window
  have accepted : TakenIn.accepts .configuring s = true := by rw [TakenIn.accepts, stopped]; rfl
  have fits : decide ((start :: values.flatMap be16).length % 2 = 1 ∧ (start :: values.flatMap be16).length ≤ 33)
      = true := by
    rw [List.length_cons, length_flatMap_be16]
    exact decide_eq_true (by omega)
  have first : byteAt (start :: values.flatMap be16) 0 = start.toNat := rfl
  have pairs : pairsOf ((start :: values.flatMap be16).drop 1) = values.map (·.toNat) := pairsOf_be16 values
  refine congrArg Host.Outcome.next ?_
  split <;> rename_i beyond
  · refine command_answers (argBytes_ageing few) fits accepted (r := badArgument) ?_ rfl rfl rfl rfl
    rw [ruleLoadAgeingTable, first, if_pos beyond]
  · have changed : (((values.map (·.toNat)).take (16 - start.toNat)).any (fun v => decide (255 < v))
          || decide (16 < start.toNat + (values.map (·.toNat)).length))
        = decide (16 < start.toNat + values.length ∨ ∃ v ∈ values.take (16 - start.toNat), 255 < v.toNat) := by
      rw [Bool.eq_iff_iff]
      simp only [Bool.or_eq_true, List.any_eq_true, decide_eq_true_eq, ← List.map_take, List.mem_map,
        exists_exists_and_eq_and, List.length_map, or_comm]
    have ruled : ruleLoadAgeingTable (start :: values.flatMap be16) (openCommand 0x03 window s)
        = (openCommand 0x03 window (weightsLoaded start values s), clampReply (decide (16 < start.toNat
          + values.length ∨ ∃ v ∈ values.take (16 - start.toNat), 255 < v.toNat))) := by
      rw [ruleLoadAgeingTable, first, if_neg beyond, pairs, changed]
      rfl
    refine (command_clamps (argBytes_ageing few) fits accepted ruled).trans ?_
    simp only [decide_eq_true_eq]
    rfl

/-! ## SET PROFILE (R129, R182) -/

/-- A step of SET PROFILE as it is carried, before any clamping. -/
def stepCarried (st : StepKind × BitVec 16 × BitVec 16 × Byte) : TestStep :=
  { kind := st.1, duration := st.2.1.toNat, floor := st.2.2.1.toNat, capture := decide (st.2.2.2 ≠ 0#8) }

theorem profileArgs_bytes (steps : List (StepKind × BitVec 16 × BitVec 16 × Byte)) :
    profileArgs (steps.flatMap profileStepBytes) = some (steps.map stepCarried) := by
  induction steps with
  | nil => rfl
  | cons st rest ih =>
    obtain ⟨kind, duration, floor, capture⟩ := st
    simp only [List.flatMap_cons, profileStepBytes, be16, List.cons_append, List.nil_append, profileArgs, stepArgs,
      nat16_be16, List.map_cons]
    rw [ih]
    cases kind <;> rfl

theorem length_profileBytes (steps : List (StepKind × BitVec 16 × BitVec 16 × Byte)) :
    (steps.flatMap profileStepBytes).length = 6 * steps.length := by
  simp only [List.length_flatMap, profileStepBytes, be16, List.cons_append, List.nil_append, List.length_cons,
    List.length_nil, List.map_const', List.sum_replicate, smul_eq_mul]
  omega

/-- A step is carried as it is stored exactly where its duration lies in 1 to 3600. -/
theorem clamped_stepCarried (st : StepKind × BitVec 16 × BitVec 16 × Byte) :
    (stepCarried st).clamped = stepCarried st ↔ 1 ≤ st.2.1.toNat ∧ st.2.1.toNat ≤ 3600 := by
  simp only [TestStep.clamped, stepCarried, clampNat, TestStep.mk.injEq, true_and, and_true]
  omega

theorem setProfile_answers {steps : List (StepKind × BitVec 16 × BitVec 16 × Byte)} (few : steps.length ≤ 42)
    (stopped : s.hpi.running = false) :
    let window := byteOf (6 * steps.length) :: steps.flatMap profileStepBytes
    exec (.setProfile window) s = .next (
      if steps = [] ∨ 8 < steps.length then onlyAnswered 0x04 window 5 0 [] s
      else onlyAnswered 0x04 window
        (if ∀ st ∈ steps, 1 ≤ st.2.1.toNat ∧ st.2.1.toNat ≤ 3600 then 0 else 1) 0 []
        { s with tsq := { s.tsq with profile := steps.map fun st => (stepCarried st).clamped } }) := by
  intro window
  have accepted : TakenIn.accepts .configuring s = true := by rw [TakenIn.accepts, stopped]; rfl
  have carried : argBytes window = some (steps.flatMap profileStepBytes) := by
    refine if_pos ?_
    rw [byteOf, toNat_ofNat_byte (by omega), length_profileBytes]
  have fits : decide ((steps.flatMap profileStepBytes).length % 6 = 0) = true := by
    rw [length_profileBytes]
    exact decide_eq_true (by omega)
  have count : (steps.map stepCarried = [] ∨ 8 < (steps.map stepCarried).length) ↔ (steps = [] ∨ 8 < steps.length) := by
    rw [List.map_eq_nil_iff, List.length_map]
  refine congrArg Host.Outcome.next ?_
  split <;> rename_i bad
  · refine command_answers carried fits accepted (r := badArgument) ?_ rfl rfl rfl rfl
    rw [ruleSetProfile, profileArgs_bytes]
    exact if_pos (count.mpr bad)
  · have same : (steps.map stepCarried).map TestStep.clamped = steps.map stepCarried
        ↔ ∀ st ∈ steps, 1 ≤ st.2.1.toNat ∧ st.2.1.toNat ≤ 3600 := by
      rw [List.map_map, List.map_inj_left]
      exact forall₂_congr fun st _ => clamped_stepCarried st
    have ruled : ruleSetProfile (steps.flatMap profileStepBytes) (openCommand 0x04 window s)
        = (openCommand 0x04 window
            { s with tsq := { s.tsq with profile := steps.map fun st => (stepCarried st).clamped } },
          clampReply (decide ((steps.map stepCarried).map TestStep.clamped ≠ steps.map stepCarried))) := by
      rw [ruleSetProfile, profileArgs_bytes]
      refine (if_neg (count.not.mpr bad)).trans ?_
      rw [List.map_map]
      rfl
    refine (command_clamps carried fits accepted ruled).trans ?_
    simp only [same, ne_eq, decide_not, Bool.not_eq_true', decide_eq_false_iff_not, ite_not]

/-- Settles O10. -/
theorem ageingTableAndProfileReplaced : Obligations.AgeingTableAndProfileReplaced := by
  refine ⟨fun start values s stopped few length => ?_, fun steps s stopped few => ?_⟩
  · have runs := loadAgeing_answers (start := start) few stopped
    refine ⟨fun beyond => ?_, fun within => ⟨_, runs.trans (congrArg _ (if_neg (by omega))), rfl, ?_, ?_, rfl,
      sameBut_of_eq⟩⟩
    · exact runs.trans (congrArg _ (if_pos beyond))
    · exact (length_writeWeights ..).trans length
    · intro j below
      refine (getElem?_writeWeights (by rwa [length]) start.toNat (values.map (·.toNat))).trans ?_
      rw [List.getElem?_map]
      cases values[j - start.toNat]? <;> rfl
  · have runs := setProfile_answers few stopped
    refine ⟨fun bad => runs.trans (congrArg _ (if_pos bad)), fun some_ short => ?_⟩
    exact runs.trans (congrArg _ (if_neg (not_or.mpr ⟨some_, by omega⟩)))

end Sys2Proof.Machine
end

section
/-! Health taken again, and the operating minute: the account it leaves, the dues it raises and the own claim judged
again behind them (R71, R73, R76 to R81, R122, R147, R148). -/

namespace Sys2Proof.Machine

variable {s : State}

/-! ## The account (R73, R76, R79 to R81) -/

/-- The account `b` after health and the weak flag are taken again: a new H clamps Q and takes runtime along (R79,
R80). -/
def healthWeighed (b : Bau) (s : State) : Bau :=
  let h := healthOf b.carry.u b.carry.hTest s
  let q := if h = b.h then b.q else min b.q (fullCharge h s)
  { b with
    hAge := 1000 - min 1000 (1000 * b.carry.u / (s.hpi.cab.life * 8415360)), h := h, q := q
    weak := decide (h < s.hpi.cab.weakTh) || decide (b.carry.verdict = .weak)
    runtime := if h = b.h then b.runtime else runtimeFor q (ownLoad s) s }

theorem refreshWeak_health (b : Bau) (s : State) :
    refreshWeak (recomputeHealth { s with bau := b }) = { s with bau := healthWeighed b s } := by
  have taken (hAge h : Nat) : refreshWeak { s with bau := healthTaken hAge h { s with bau := b } }
      = { s with bau := { b with
          hAge := hAge, h := h, q := if h = b.h then b.q else min b.q (fullCharge h s)
          weak := decide (h < s.hpi.cab.weakTh) || decide (b.carry.verdict = .weak)
          runtime := if h = b.h then b.runtime
            else runtimeFor (if h = b.h then b.q else min b.q (fullCharge h s)) (ownLoad s) s } } := by
    unfold healthTaken
    dsimp only
    split <;> rename_i same
    · subst same
      rfl
    · rfl
  rw [recomputeHealth_eq, healthNow_eq]
  exact taken _ _

/-- The account `b` after health, the weak flag and runtime are all taken again (R79 to R81). -/
def healthRefreshed (b : Bau) (s : State) : Bau :=
  { healthWeighed b s with runtime := runtimeFor (healthWeighed b s).q (ownLoad s) s }

theorem refreshRuntime_health (b : Bau) (s : State) :
    refreshRuntime (refreshWeak (recomputeHealth { s with bau := b })) = { s with bau := healthRefreshed b s } := by
  rw [refreshWeak_health, refreshRuntime_eq, healthRefreshed]
  generalize healthWeighed b s = w
  rfl

/-- The account whose counts an operating minute has moved, before health is taken again; all sums saturate (R71, R73,
R74). -/
def minuteCounted (s : State) : Bau :=
  let up := fun n : Nat => min 4294967295 n
  { s.bau with
    divider := s.bau.divider - 600000000, minutes := up (s.bau.minutes + 1)
    carry := { s.bau.carry with
      u := up (s.bau.carry.u + weightOf s.bau.tf s), minTest := up (s.bau.carry.minTest + 1)
      minVisit := up (s.bau.carry.minVisit + 1) } }

theorem operatingMinute_runs (due : operatingMinuteDue s = true) : exec .operatingMinute s
    = .next (settle (evaluateDues { s with bau := healthRefreshed (minuteCounted s) s })) := by
  have counts (max full : Nat) (w : Nat) :
      State.modBau (fun b => { b with carry := { b.carry with
          minTest := min max (b.carry.minTest + 1), minVisit := min max (b.carry.minVisit + 1) } })
        (State.modBau (fun b => { b with carry := { b.carry with u := min max (b.carry.u + w) } })
        (State.modBau (fun b => { b with minutes := min max (b.minutes + 1) })
        (State.modBau (fun b => { b with divider := b.divider - full }) s)))
      = { s with bau := { s.bau with
          divider := s.bau.divider - full, minutes := min max (s.bau.minutes + 1)
          carry := { s.bau.carry with
            u := min max (s.bau.carry.u + w), minTest := min max (s.bau.carry.minTest + 1)
            minVisit := min max (s.bau.carry.minVisit + 1) } } } := rfl
  have band (d : Nat → Nat) : bandWeight (s.modBau fun b => { b with divider := d b.divider }) = weightOf s.bau.tf s :=
    rfl
  refine congrArg Host.Outcome.next ((if_pos due).trans (congrArg settle ?_))
  refine congrArg evaluateDues (Eq.trans ?_ (refreshRuntime_health (minuteCounted s) s))
  refine congrArg (fun w => refreshRuntime (refreshWeak (recomputeHealth w)))
    ((counts max32 cyclesPerMinute _).trans ?_)
  rw [band (· - cyclesPerMinute)]
  rfl

/-! ## The row -/

/-- A row that writes the account, has the dues evaluated and settles: the claim is kept or lost on the view as it
stood. -/
theorem account_evaluated {row : Instr} {b : Bau} (events : s.hpi.events.length ≤ 32)
    (runs : exec row s = .next (settle (evaluateDues { s with bau := b }))) :
    let s₁ := { s with bau := b }
    let told_ := (duesRaised s₁).map (·.2)
    let aged := fun t : State => t.bau = s₁.bau ∧ t.vsm = duesEvaluated s₁ ∧ TrcIs s.trc t ∧ PortKept s t
    (ClaimKept s → ∃ t, exec row s = .next t ∧ aged t ∧ Raised told_ s₁ t ∧ LinesKept s t ∧
        SameBut [.bau, .vsm, .clu, .trc, .hpi] s t) ∧
    (∀ (c : Claim) (r : Reason), OnLine s → s.link.coord.length < 8 → TestClaimFails c r s →
      ∃ t, exec row s = .next t ∧ aged t ∧ Raised (told_ ++ lossTold c r s) s₁ t ∧
        RunLost c r s.link s t ∧ SameBut [.bau, .vsm, .link, .lva, .tsq, .clu, .trc, .hpi] s t) := by
  intro s₁ told_ aged
  have view : SameView s (s₁.modVsm fun _ => duesEvaluated s₁) := ⟨rfl, rfl, rfl, rfl, rfl, rfl, rfl⟩
  rw [← told_nil (s := { s with bau := b }) events, evaluateDues_told, List.nil_append] at runs
  refine ⟨fun kept => ?_, fun c r online room fails => ?_⟩
  · obtain ⟨m, runs⟩ := runs_settled_told runs (view.claimKept rfl kept)
    exact ⟨_, runs, ⟨rfl, rfl, rfl, portKept_told rfl⟩, raised_told _ ⟨rfl, rfl, rfl, rfl, rfl, rfl, rfl, rfl⟩,
      linesKept_told rfl, sameBut_of_eq⟩
  · obtain ⟨lva, test, granted, loose, underway, check⟩ := fails
    obtain ⟨m, n, settled⟩ := settle_lost (l := told_) (u := s₁.modVsm fun _ => duesEvaluated s₁) online
      room ⟨lva, test, granted, loose, underway, (view.keepCheck c.time).trans check⟩
    rw [settled] at runs
    exact ⟨_, runs, ⟨rfl, rfl, rfl, portKept_told rfl⟩, raised_told _ ⟨rfl, rfl, rfl, rfl, rfl, rfl, rfl, rfl⟩,
      runLost_of (u := withFloorMode m (s₁.modVsm fun _ => duesEvaluated s₁)) test granted underway rfl rfl rfl rfl rfl
        rfl rfl rfl rfl, sameBut_of_eq⟩

/-- Settles O55: the account in closed form, then the dues, then the claim kept or lost on the view as it stood. -/
theorem operatingMinuteAges : Obligations.OperatingMinuteAges := by
  intro s inv
  have dueIs : operatingMinuteDue s = true ↔ s.hpi.running = true ∧ 600000000 ≤ s.bau.divider := by
    rw [operatingMinuteDue, Bool.and_eq_true, decide_eq_true_iff, cyclesPerMinute]
  refine ⟨fun early => congrArg Host.Outcome.next (if_neg fun due => ?_), fun running full => ?_⟩
  · obtain ⟨running, full⟩ := dueIs.mp due
    rcases early with stopped | short
    · exact Bool.false_ne_true (stopped.symm.trans running)
    · exact absurd short (not_lt.mpr full)
  · exact account_evaluated inv.events (operatingMinute_runs (dueIs.mpr ⟨running, full⟩))

end Sys2Proof.Machine
end

section
/-! The end of a run with a verdict, in closed form: the record of the account, TEST_OVERDUE cleared and the dues evaluated
(R78, R140, R143, R147, R149). -/

namespace Sys2Proof.Machine

variable {s u : State} {l : List EventSpec} {c : Claim} {cause : EndCause} {good : Bool}

/-! ## TEST_OVERDUE (R149) -/

/-- The events of a due that is cleared where it stands. -/
def overdueTold (s : State) : List EventSpec :=
  if s.vsm.dues.any fun d => decide (d.kind = .testOverdue) then
    [notice .dueCleared (3#8 :: be16 Config.testSourceCode)] else []

theorem clearOverdue_told : clearDue .testOverdue testSource (told l s)
    = told (l ++ overdueTold s) (withoutDues [.testOverdue] s) := by
  unfold overdueTold
  split <;> rename_i held
  · have holds : holdsDue .testOverdue (told l s) = true := held
    rw [clearDue, if_pos holds, told_modVsm, raise_told, withoutDues]
    simp only [List.mem_singleton]
    rfl
  · have clear : ¬ holdsDue .testOverdue (told l s) = true := held
    have stands : withoutDues [.testOverdue] s = s := by
      refine congrArg (fun d => { s with vsm := { s.vsm with dues := d } }) (List.filter_eq_self.mpr fun d mem => ?_)
      refine decide_eq_true fun kind => held (List.any_eq_true.mpr ⟨d, mem, decide_eq_true ?_⟩)
      exact List.mem_singleton.mp kind
    rw [clearDue, if_neg clear, List.append_nil, stands]

/-! ## The account (R77 to R80) -/

/-- The account after a verdict (R78 to R80). -/
def verdictAccount (good : Bool) (resistance : Option Nat) (s : State) : Bau :=
  healthWeighed { s.bau with carry := recordVerdict good resistance s.hpi.cab.weakCap s.bau.carry } s

theorem healthWeighed_minutes (b : Bau) (s : State) : (healthWeighed b s).minutes = b.minutes := by rw [healthWeighed]

theorem healthWeighed_carry (b : Bau) (s : State) : (healthWeighed b s).carry = b.carry := by rw [healthWeighed]

theorem healthWeighed_h (b : Bau) (s : State) : (healthWeighed b s).h = healthOf b.carry.u b.carry.hTest s := by
  rw [healthWeighed]

theorem healthWeighed_weak (b : Bau) (s : State) : (healthWeighed b s).weak
    = (decide ((healthWeighed b s).h < s.hpi.cab.weakTh) || decide (b.carry.verdict = .weak)) := by
  rw [healthWeighed]

/-- The part after the verdict went to the account and took TEST_OVERDUE from the list, before the dues. -/
def verdictTaken (good : Bool) (resistance : Option Nat) (s : State) : State :=
  withoutDues [.testOverdue] { s with bau := verdictAccount good resistance s }

theorem verdictUpdate_told (resistance : Option Nat) : verdictUpdate good resistance (told l s)
    = told (l ++ overdueTold s ++ (duesRaised (verdictTaken good resistance s)).map (·.2))
      ((verdictTaken good resistance s).modVsm fun _ => duesEvaluated (verdictTaken good resistance s)) := by
  have weighed : refreshWeak (recomputeHealth ((told l s).modBau fun b =>
        { b with carry := recordVerdict good resistance (told l s).hpi.cab.weakCap b.carry }))
      = { told l s with bau := verdictAccount good resistance s } := refreshWeak_health _ (told l s)
  rw [verdictUpdate, weighed, told_account (by exact healthWeighed_minutes _ s), clearOverdue_told, evaluateDues_told]
  rfl

/-! ## The end of the run (R140) -/

/-- TEST_ENDED of a run that ends with a verdict (R140). -/
def judgedTold (cause : EndCause) (good : Bool) (s : State) : EventSpec :=
  notice .testEnded (be16 (BitVec.ofNat 16 s.tsq.run.number)
    ++ [byteOf cause.code, byteOf s.tsq.run.completed, if good then 1#8 else 2#8])

/-- The resistance that the captures of the run give (R142). -/
abbrev runResistance (s : State) : Option Nat := testResistance s.tsq.profile s.tsq.run.captures

/-- The part after the run that held `c` has ended, before its verdict goes to the account. -/
def runEnded (c : Claim) (cause : EndCause) (good : Bool) (s : State) : State :=
  (runReleasing c s).modTsq fun t => { t with
    state := .ended, run := RunRec.blank
    result := some { resultOf cause s with verdict := if good then .good else .weak } }

/-- The part after the verdict of the run that held `c` went to the account, before the dues. -/
abbrev runJudged (c : Claim) (cause : EndCause) (good : Bool) (s : State) : State :=
  verdictTaken good (runResistance s) (runEnded c cause good s)

theorem endRun_judges (verdict : verdictOf cause (runResistance u) (told l u) = some good) (claim : u.lva = some c)
    (test : c.kind = .test) (sends : Sends u) (room : u.link.coord.length < 8) :
    endRun cause (told l u)
      = told (l ++ [judgedTold cause good u] ++ overdueTold u ++ (duesRaised (runJudged c cause good u)).map (·.2))
        ((runJudged c cause good u).modVsm fun _ => duesEvaluated (runJudged c cause good u)) := by
  have kind : ((told l u).modClu fun k => { k with testWd := false }).lva.map (·.kind) = some .test := by
    rw [State.modClu_lva, told_lva, claim, Option.map_some, test]
  have released : releaseKind .test ((told l u).modClu fun k => { k with testWd := false })
      = told l (runReleasing c u) := by
    rw [releaseKind, if_pos kind]
    exact releaseClaim_eq (s := (told l u).modClu _) claim sends room
  have result : resultNow cause (some good) (told l u)
      = { resultOf cause u with verdict := if good then .good else .weak } := by
    cases good <;> rfl
  have ended : endRun cause (told l u)
      = verdictUpdate good (runResistance u) (told (l ++ [judgedTold cause good u]) (runEnded c cause good u)) := by
    simp only [endRun, told_tsq, verdict, released, result, told_modTsq, raise_told, judgedTold, be16_ofNat]
    cases good <;> rfl
  rw [ended, verdictUpdate_told]
  rfl

/-- A claim that was granted is released by its RELEASE (R126). -/
theorem claimReleased_granted (granted : c.granted = true) (test : c.kind = .test) (k : Link) :
    claimReleased c k = { k with coord := k.coord ++ [queued (.release .test c.time)] } := by
  rw [claimReleased, granted, Bool.true_or, if_pos rfl, test]

/-! ## What the row leaves -/

theorem healthOf_congr {life hTest : Nat} (cab : u.hpi.cab = s.hpi.cab) : healthOf life hTest u = healthOf life hTest s := by
  rw [healthOf, cab]
  rfl

/-- The account that a verdict leaves reads of the part the account, the settings and the last frame. -/
theorem verdictAccount_runEnded (resistance : Option Nat) :
    verdictAccount good resistance (runEnded c cause good u) = verdictAccount good resistance u := by
  have same {v : State} (b : Bau) (cab : v.hpi.cab = u.hpi.cab) (sns : v.sns = u.sns) :
      healthWeighed b v = healthWeighed b u := by
    simp only [healthWeighed, healthOf_congr cab, fullCharge_congr cab, runtimeFor_congr cab, ownLoad_congr sns, cab]
  exact same _ rfl rfl

theorem verdictAccount_carry (good : Bool) (resistance : Option Nat) (s : State) :
    (verdictAccount good resistance s).carry = recordVerdict good resistance s.hpi.cab.weakCap s.bau.carry :=
  healthWeighed_carry _ s

/-- Health after a verdict, from the life used and the new H_test (R79). -/
theorem verdictAccount_h (good : Bool) (resistance : Option Nat) (s : State) : (verdictAccount good resistance s).h
    = healthOf s.bau.carry.u (verdictAccount good resistance s).carry.hTest s := by
  rw [verdictAccount_carry, verdictAccount, healthWeighed_h]
  rfl

theorem verdictAccount_weak (good : Bool) (resistance : Option Nat) (s : State) :
    (verdictAccount good resistance s).weak
      = (decide ((verdictAccount good resistance s).h < s.hpi.cab.weakTh) || !good) := by
  rw [verdictAccount, healthWeighed_weak]
  cases good <;> rfl

/-- The due list without TEST_OVERDUE, which a verdict clears (R149). -/
def overdueCleared (v : Vsm) : Vsm := { v with dues := v.dues.filter fun d => decide (d.kind ≠ .testOverdue) }

/-- What a run leaves that ended with a verdict, from the part `u` in which it ended behind the events `l`. -/
structure JudgedLeft (l : List EventSpec) (c : Claim) (cause : EndCause) (good : Bool) (u s t : State) : Prop where
  tsq    : t.tsq = { u.tsq with
    state := .ended, run := RunRec.blank
    result := some { resultOf cause u with verdict := if good then .good else .weak } }
  bau    : t.bau = verdictAccount good (runResistance u) u
  vsm    : t.vsm = duesEvaluated { u with bau := t.bau, vsm := overdueCleared u.vsm }
  raised : Raised (l ++ [judgedTold cause good u] ++ overdueTold u
    ++ (duesRaised { u with bau := t.bau, vsm := overdueCleared u.vsm }).map (·.2)) s t
  lva    : t.lva = none
  link   : t.link = { u.link with coord := u.link.coord ++ [queued (.release .test c.time)], status := t.link.status }
  status : StatusQueued t
  clu    : t.clu = { u.clu with testWd := false, horn := t.clu.horn, hornTimer := t.clu.hornTimer }
  trc    : TrcIs u.trc t
  port   : PortKept s t
  rest   : SameBut [.bau, .tsq, .lva, .link, .clu, .vsm, .trc, .hpi] u t

section
variable {t : State} (left : JudgedLeft l c cause good u s t)
include left

theorem JudgedLeft.carry : t.bau.carry = recordVerdict good (runResistance u) u.hpi.cab.weakCap u.bau.carry :=
  (congrArg Bau.carry left.bau).trans (verdictAccount_carry _ _ _)

theorem JudgedLeft.health : t.bau.h = healthOf u.bau.carry.u t.bau.carry.hTest u := by rw [left.bau, verdictAccount_h]

theorem JudgedLeft.weak : t.bau.weak = (decide (t.bau.h < u.hpi.cab.weakTh) || !good) := by
  rw [left.bau, verdictAccount_weak]

/-- The dues are those of any part with the settings and the due list of `u`. -/
theorem JudgedLeft.dues {v : State} {m : Vsm} (cab : v.hpi.cab = u.hpi.cab) (vsm : m = u.vsm) :
    t.vsm = duesEvaluated { v with bau := t.bau, vsm := overdueCleared m } ∧
      Raised (l ++ [judgedTold cause good u] ++ overdueTold u
        ++ (duesRaised { v with bau := t.bau, vsm := overdueCleared m }).map (·.2)) s t := by
  obtain ⟨dues, evaluated⟩ := duesEvaluated_congr
    (u := { v with bau := t.bau, vsm := overdueCleared m }) (s := { u with bau := t.bau, vsm := overdueCleared u.vsm })
    rfl cab (congrArg overdueCleared vsm)
  rw [dues, evaluated]
  exact ⟨left.vsm, left.raised⟩

end

theorem runs_judged {row : Instr} {r : State} (runs : exec row r = .next (settle (endRun cause (told l u))))
    (verdict : verdictOf cause (runResistance u) (told l u) = some good) (claim : u.lva = some c)
    (test : c.kind = .test) (granted : c.granted = true) (sends : Sends u) (room : u.link.coord.length < 8)
    (stamps : SameStamps s u) (port : u.hpi = s.hpi) :
    ∃ t, exec row r = .next t ∧ JudgedLeft l c cause good u s t := by
  rw [endRun_judges verdict claim test sends room] at runs
  obtain ⟨m, runs⟩ := runs_settled_told runs (claimKept_none rfl)
  have account : (runJudged c cause good u).bau = verdictAccount good (runResistance u) u := verdictAccount_runEnded _
  have cleared : (runJudged c cause good u).vsm = overdueCleared u.vsm := by
    simp only [runJudged, verdictTaken, withoutDues, State.modVsm_vsm, List.mem_singleton]
    rfl
  obtain ⟨dues, evaluated⟩ := duesEvaluated_congr (u := runJudged c cause good u)
    (s := { u with bau := (runJudged c cause good u).bau, vsm := overdueCleared u.vsm }) rfl rfl cleared
  have minutes : (runJudged c cause good u).bau.minutes = s.bau.minutes := by
    rw [account]
    exact (healthWeighed_minutes _ u).trans stamps.minutes
  rw [dues] at runs
  refine ⟨_, runs, ⟨rfl, account, evaluated, raised_told _ ?_, rfl, ?_, ?_, rfl, rfl, portKept_told port,
    sameBut_of_eq⟩⟩
  · exact ⟨stamps.events, stamps.lost, stamps.floor, stamps.cab, minutes, stamps.time, stamps.horn, stamps.hornTimer⟩
  · exact congrArg (fun k : Link => { k with status := (runReleasing c u).link.status })
      (claimReleased_granted granted test u.link)
  · exact statusQueued_of (u := ((u.modClu fun k => { k with testWd := false }).modLink (claimReleased c)).setLva none)
      rfl

end Sys2Proof.Machine
end

section
/-! The test resistance: the first pair of captures in profile order (R142). -/

namespace Sys2Proof.Machine

variable {captures : List Capture} {l : List TestStep} {m j : Nat} {x y : Capture}

/-- Step `j` of the list, whose first step has number `m`, is a REST step with a DISCHARGE step behind it, and both
captures are held. -/
def HeldPair (captures : List Capture) (m : Nat) (l : List TestStep) (j : Nat) (x y : Capture) : Prop :=
  (l[j]?).map (·.kind) = some .rest ∧ (l[j + 1]?).map (·.kind) = some .discharge ∧
    captureOf (m + j) captures = some x ∧ captureOf (m + j + 1) captures = some y

theorem heldPair_cons (a : TestStep) :
    HeldPair captures m (a :: l) (j + 1) x y ↔ HeldPair captures (m + 1) l j x y := by
  have number : m + 1 + j = m + (j + 1) := by omega
  simp only [HeldPair, List.getElem?_cons_succ, number]

theorem capturePair_held {a : TestStep} (held : HeldPair captures m (a :: l) 0 x y) :
    capturePair m (a :: l) captures = some (x, y) := by
  obtain ⟨rest, discharge, first, second⟩ := held
  cases l with
  | nil => exact absurd discharge (by simp)
  | cons b more =>
    have kinds : a.kind = .rest ∧ b.kind = .discharge := ⟨Option.some.inj rest, Option.some.inj discharge⟩
    rw [Nat.add_zero] at first second
    simp only [capturePair, first, second, if_pos kinds]

theorem capturePair_unheld {a : TestStep} (unheld : ∀ x y, ¬ HeldPair captures m (a :: l) 0 x y) :
    capturePair m (a :: l) captures = capturePair (m + 1) l captures := by
  cases l with
  | nil => rfl
  | cons b more =>
    rw [capturePair]
    split
    · rename_i x y first second
      refine if_neg fun kinds => unheld x y ⟨?_, ?_, first, second⟩
      · exact congrArg some kinds.1
      · exact congrArg some kinds.2
    · rfl

/-- The first pair decides, whatever later pairs hold. -/
theorem capturePair_first (held : HeldPair captures m l j x y) (first : ∀ k < j, ∀ x y, ¬ HeldPair captures m l k x y) :
    capturePair m l captures = some (x, y) := by
  induction l generalizing m j with
  | nil => exact absurd held.1 (by simp)
  | cons a l ih =>
    cases j with
    | zero => exact capturePair_held held
    | succ j =>
      rw [capturePair_unheld (first 0 (Nat.succ_pos j))]
      refine ih ((heldPair_cons a).mp held) fun k less x y later => ?_
      exact first (k + 1) (Nat.succ_lt_succ less) x y ((heldPair_cons a).mpr later)

theorem capturePair_none (none_ : ∀ j x y, ¬ HeldPair captures m l j x y) : capturePair m l captures = none := by
  induction l generalizing m with
  | nil => rfl
  | cons a l ih =>
    rw [capturePair_unheld (none_ 0)]
    exact ih fun j x y later => none_ (j + 1) x y ((heldPair_cons a).mpr later)

theorem pairResistance_absent (absent : x.i - y.i ≤ 0 ∨ (x.v : Int) - (y.v : Int) < 0) : pairResistance x y = none :=
  if_pos absent

/-- 10,000 × ΔV ÷ ΔI rounded down, within 1 to 65535. -/
theorem pairResistance_present (di : 0 < x.i - y.i) (dv : 0 ≤ (x.v : Int) - (y.v : Int)) : pairResistance x y
    = some (max 1 (min 65535 (10000 * ((x.v : Int) - (y.v : Int)) / (x.i - y.i)))).toNat := by
  have present : ¬ (x.i - y.i ≤ 0 ∨ (x.v : Int) - (y.v : Int) < 0) := by omega
  rw [pairResistance, if_neg present]
  obtain ⟨dv, dvIs⟩ := Int.eq_ofNat_of_zero_le dv
  obtain ⟨di, diIs⟩ := Int.eq_ofNat_of_zero_le di.le
  rw [dvIs, diIs]
  have quotient : (10000 * (dv : Int) / (di : Int)) = ((10000 * dv / di : Nat) : Int) := by push_cast; rfl
  rw [quotient]
  simp only [Int.toNat_natCast]
  generalize 10000 * dv / di = n
  congr 1
  omega

end Sys2Proof.Machine
end

section
/-! The timers of a test run: the end of a step and of a pause (R133, R135, R137, R140 to R143). -/

namespace Sys2Proof.Machine

variable {s : State} {n : Nat} {st : TestStep} {c : Claim}

/-! ## The end of a step (R135, R137) -/

/-- The capture that the end of a step takes (R135). -/
def captureTaken (n : Nat) (st : TestStep) (s : State) : Option Capture :=
  let recent := s.tsq.run.recent
  if st.capture = true ∧ recent ≠ [] then
    some ⟨n, (recent.map Prod.fst).sum / recent.length, (recent.map Prod.snd).sum.fdiv recent.length⟩
  else none

theorem stepCapture_eq (step : s.tsq.profile[n - 1]? = some st) : stepCapture n s = captureTaken n st s := by
  have found : profileStep n s = some st := step
  simp only [stepCapture, found, averageCapture, captureTaken]
  by_cases flag : st.capture = true <;> by_cases empty : s.tsq.run.recent = [] <;> simp [flag, empty]

/-- The part with a capture appended to those of the run. -/
def withCapture (x : Option Capture) (s : State) : State :=
  s.modTsq fun t => { t with run := { t.run with captures := t.run.captures ++ x.toList } }

theorem takeCapture_eq (step : s.tsq.profile[n - 1]? = some st) :
    takeCapture n s = withCapture (captureTaken n st s) s := by
  have taken := stepCapture_eq step
  unfold takeCapture
  cases capture : captureTaken n st s with
  | some x => rw [taken.trans capture]; rfl
  | none =>
    rw [taken.trans capture]
    refine congrArg (fun l => { s with tsq := { s.tsq with run := { s.tsq.run with captures := l } } }) ?_
    exact (List.append_nil _).symm

/-- TEST_STEP of a step that ends (R137, R183); that the presence byte of a capture is 1 is log entry 30. -/
def stepTold (n : Nat) (st : TestStep) (s : State) : EventSpec :=
  info .testStep (be16 (BitVec.ofNat 16 s.tsq.run.number) ++ [byteOf n] ++
    match captureTaken n st s with
    | some x => [1#8] ++ be16 (BitVec.ofNat 16 x.v) ++ be16 (BitVec.ofInt 16 x.i)
    | none => [0#8, 0#8, 0#8, 0#8, 0#8])

/-- The part at the end of a step, the capture taken and the step counted. -/
def stepCounted (n : Nat) (st : TestStep) (s : State) : State :=
  (withCapture (captureTaken n st s) s).modTsq fun t => { t with run := { t.run with completed := t.run.completed + 1 } }

theorem stepTold_eq : specOf .testStep (u16 s.tsq.run.number ++ u8 n ++ captureItem (captureTaken n st s))
    = stepTold n st s := by
  rw [stepTold, be16_ofNat]
  cases captureTaken n st s with
  | none => rfl
  | some x => dsimp only; rw [be16_ofNat]; rfl

theorem testStepTimer_runs (state : s.tsq.state = .running n) (timer : s.tsq.run.stepTimer = some 0)
    (step : s.tsq.profile[n - 1]? = some st) (events : s.hpi.events.length ≤ 32) :
    exec .testStepTimerExpiry s = .next (settle (
      if s.tsq.profile.length ≤ n then endRun .profileDone (told [stepTold n st s] (stepCounted n st s))
      else if s.tsq.run.single then pauseRun n (told [stepTold n st s] (stepCounted n st s))
      else enterStep (n + 1) (told [stepTold n st s] (stepCounted n st s)))) := by
  refine congrArg Host.Outcome.next ?_
  rw [testStepTimerExpiry, state]
  refine (if_pos (due_zero timer)).trans (congrArg settle ?_)
  rw [stepDone, stepCapture_eq step, takeCapture_eq step]
  dsimp only
  rw [raise_eq_told _ _ (by exact events), stepTold_eq]
  rfl

theorem testStepTimer_waits (state : s.tsq.state = .running n) (timer : s.tsq.run.stepTimer ≠ some 0) :
    exec .testStepTimerExpiry s = .next s := by
  refine congrArg Host.Outcome.next ?_
  rw [testStepTimerExpiry, state]
  exact if_neg (due_waiting timer)

theorem pauseTimer_waits (state : s.tsq.state = .paused n) (timer : s.tsq.run.pauseTimer ≠ some 0) :
    exec .pauseTimerExpiry s = .next s := by
  refine congrArg Host.Outcome.next ?_
  rw [pauseTimerExpiry, state]
  exact if_neg (due_waiting timer)

theorem pauseTimer_runs (state : s.tsq.state = .paused n) (timer : s.tsq.run.pauseTimer = some 0) :
    exec .pauseTimerExpiry s = .next (settle (endRun .pauseTimeout s)) := by
  refine congrArg Host.Outcome.next ?_
  rw [pauseTimerExpiry, state]
  exact if_pos (due_zero timer)

/-! ## The next step and the pause (R133, R137) -/

theorem claimKept_held (held : TestClaimHeld c s) : ClaimKept s := by
  obtain ⟨lva, -, -, check⟩ := held
  intro d mem
  obtain rfl : c = d := Option.some.inj (lva.symm.trans mem)
  exact .inr (.inr check)

/-- A row that moves a run on, behind the events `l`: the run, its state and TEST-WD change. -/
theorem runs_movedOn {row : Instr} {r : State} {l : List EventSpec} {tsq : Tsq} {wd : Bool}
    (runs : exec row r = .next (settle (told l { s with tsq := tsq, clu := { s.clu with testWd := wd } })))
    (held : TestClaimHeld c s) :
    ∃ t, exec row r = .next t ∧ t.tsq = tsq ∧
      t.clu = { s.clu with testWd := wd, horn := t.clu.horn, hornTimer := t.clu.hornTimer } ∧
      Raised l s t ∧ PortKept s t ∧ TrcIs s.trc t ∧ SameBut [.tsq, .clu, .trc, .hpi] s t := by
  have view : SameView s { s with tsq := tsq, clu := { s.clu with testWd := wd } } :=
    ⟨rfl, rfl, rfl, rfl, rfl, rfl, rfl⟩
  obtain ⟨m, runs⟩ := runs_settled_told runs (view.claimKept rfl (claimKept_held held))
  exact ⟨_, runs, rfl, rfl, raised_told l ⟨rfl, rfl, rfl, rfl, rfl, rfl, rfl, rfl⟩, portKept_told rfl, rfl,
    sameBut_of_eq⟩

/-! ## The verdict of a profile that is done (R77, R78, R143) -/

/-- GOOD where no resistance was measured, or the term of the one measured is not below the weak threshold (R143). -/
def doneGood (resistance : Option Nat) (s : State) : Bool :=
  match resistance with
  | none => true
  | some r => decide (s.hpi.cab.weakTh ≤ resistanceTerm s.bau.carry.baseline r)

theorem verdictOf_profileDone (resistance : Option Nat) :
    verdictOf .profileDone resistance s = some (doneGood resistance s) := by
  cases resistance <;> rfl

theorem baselineAfter_eq (good : Bool) (resistance baseline : Option Nat) : baselineAfter good resistance baseline
    = if baseline = none ∧ good = true then resistance else baseline := by
  cases baseline <;> cases good <;> rfl

theorem recordVerdict_eq (good : Bool) (resistance : Option Nat) (cap : Nat) (r : Carry) :
    recordVerdict good resistance cap r =
      (let baseline := if r.baseline = none ∧ good = true then resistance else r.baseline
       let term := match resistance with
         | none => r.hTest
         | some x => resistanceTerm baseline x
       { r with
         baseline := baseline, hTest := if good then term else min term cap
         verdict := if good then .good else .weak, minTest := 0 }) := by
  unfold recordVerdict
  rw [baselineAfter_eq]
  cases resistance <;> rfl

/-- The next step is entered, with TEST-WD as its kind asks (R133). -/
theorem testStepTimer_enters {next : TestStep} (inv : Inv s) (held : TestClaimHeld c s)
    (state : s.tsq.state = .running n) (timer : s.tsq.run.stepTimer = some 0)
    (step : s.tsq.profile[n - 1]? = some st) (follows : s.tsq.profile[n]? = some next)
    (many : s.tsq.run.single = false) :
    ∃ t, exec .testStepTimerExpiry s = .next t ∧
      t.tsq = { s.tsq with state := .running (n + 1), run := { (stepCounted n st s).tsq.run with
        recent := [], floorCount := 0, stepTimer := some (10000 * next.duration), pauseTimer := none } } ∧
      t.clu = { s.clu with
        testWd := decide (next.kind = .discharge), horn := t.clu.horn, hornTimer := t.clu.hornTimer } ∧
      Raised [stepTold n st s] s t ∧ PortKept s t ∧ TrcIs s.trc t ∧ SameBut [.tsq, .clu, .trc, .hpi] s t := by
  have runs := testStepTimer_runs state timer step inv.events
  have within : ¬ s.tsq.profile.length ≤ n := not_le.mpr (List.getElem?_eq_some_iff.mp follows).1
  have goesOn : ¬ s.tsq.run.single = true := fun single => Bool.false_ne_true (many.symm.trans single)
  have found : profileStep (n + 1) (told [stepTold n st s] (stepCounted n st s)) = some next := follows
  have duration : ticksOfSeconds next.duration = 10000 * next.duration := Nat.mul_comm _ _
  rw [if_neg within, if_neg goesOn, enterStep, found] at runs
  dsimp only at runs
  rw [duration, told_modTsq, told_testWd] at runs
  exact runs_movedOn runs held

/-- A single-step run pauses for 10 minutes (R137). -/
theorem testStepTimer_pauses (inv : Inv s) (held : TestClaimHeld c s) (state : s.tsq.state = .running n)
    (timer : s.tsq.run.stepTimer = some 0) (step : s.tsq.profile[n - 1]? = some st)
    (more : n < s.tsq.profile.length) (single : s.tsq.run.single = true) :
    ∃ t, exec .testStepTimerExpiry s = .next t ∧
      t.tsq = { s.tsq with state := .paused n, run := { (stepCounted n st s).tsq.run with
        stepTimer := none, pauseTimer := some 6000000 } } ∧
      t.clu = { s.clu with testWd := false, horn := t.clu.horn, hornTimer := t.clu.hornTimer } ∧
      Raised [stepTold n st s] s t ∧ PortKept s t ∧ TrcIs s.trc t ∧ SameBut [.tsq, .clu, .trc, .hpi] s t := by
  have runs := testStepTimer_runs state timer step inv.events
  rw [if_neg (not_le.mpr more), if_pos single, pauseRun, told_modTsq, told_testWd] at runs
  exact runs_movedOn runs held

/-- The last step ends the run with PROFILE_DONE and its verdict. -/
theorem testStepTimer_ends (inv : Inv s) (online : OnLine s) (held : TestClaimHeld c s)
    (state : s.tsq.state = .running n) (timer : s.tsq.run.stepTimer = some 0)
    (step : s.tsq.profile[n - 1]? = some st) (last : s.tsq.profile.length ≤ n) (room : s.link.coord.length < 8) :
    ∃ t, exec .testStepTimerExpiry s = .next t ∧ JudgedLeft [stepTold n st s] c .profileDone
      (doneGood (runResistance (stepCounted n st s)) s) (stepCounted n st s) s t := by
  obtain ⟨lva, test, granted, -⟩ := held
  have runs := testStepTimer_runs state timer step inv.events
  rw [if_pos last] at runs
  exact runs_judged runs (verdictOf_profileDone (s := told [stepTold n st s] (stepCounted n st s)) _) lva test granted
    (sends_of_onLine (s := s) online) room ⟨rfl, rfl, rfl, rfl, rfl, rfl, rfl, rfl⟩ rfl

/-- The end of a pause ends the run with PAUSE_TIMEOUT and no verdict. -/
theorem pauseTimer_ends (inv : Inv s) (online : OnLine s) (held : TestClaimHeld c s)
    (state : s.tsq.state = .paused n) (timer : s.tsq.run.pauseTimer = some 0) (room : s.link.coord.length < 8) :
    ∃ t, exec .pauseTimerExpiry s = .next t ∧
      t.tsq = { s.tsq with state := .ended, run := RunRec.blank, result := some (resultOf .pauseTimeout s) } ∧
      t.lva = none ∧
      t.link = { s.link with
        coord := s.link.coord ++ [queued (.release .test c.time)], status := t.link.status } ∧
      StatusQueued t ∧
      t.clu = { s.clu with testWd := false, horn := t.clu.horn, hornTimer := t.clu.hornTimer } ∧
      Raised [runTold .pauseTimeout s] s t ∧ PortKept s t ∧ TrcIs s.trc t ∧
      SameBut [.tsq, .lva, .link, .clu, .trc, .hpi] s t := by
  obtain ⟨lva, test, granted, -⟩ := held
  have runs := pauseTimer_runs state timer
  rw [endRun_releases (fun _ _ => rfl) lva test (sends_of_onLine online) room inv.events] at runs
  obtain ⟨m, runs⟩ := runs_settled_told runs (claimKept_none rfl)
  refine ⟨_, runs, rfl, rfl, ?_, ?_, rfl, raised_told _ ⟨rfl, rfl, rfl, rfl, rfl, rfl, rfl, rfl⟩, portKept_told rfl, rfl,
    sameBut_of_eq⟩
  · exact congrArg (fun k : Link => { k with status := (runReleasing c s).link.status })
      (claimReleased_granted granted test s.link)
  · exact statusQueued_of (u := ((s.modClu fun k => { k with testWd := false }).modLink (claimReleased c)).setLva none)
      rfl

/-- Settles O57: each timer in closed form, the verdict of the last step by `runs_judged`, the pairs of captures by
`capturePair_first` and `capturePair_none`. -/
theorem testStepTimerMovesRun : Obligations.TestStepTimerMovesRun := by
  refine ⟨fun n st c s inv online held => ⟨testStepTimer_waits, pauseTimer_waits, ?_, ?_⟩, fun profile captures => ?_⟩
  · intro state timer step recent capture captures told_ run
    refine ⟨fun next => testStepTimer_enters inv held state timer step,
      testStepTimer_pauses inv held state timer step, fun last room => ?_⟩
    obtain ⟨t, runs, left⟩ := testStepTimer_ends inv online held state timer step last room
    obtain ⟨evaluated, raised⟩ := left.dues (v := s) (m := s.vsm) rfl rfl
    exact ⟨t, runs, ⟨left.tsq, left.carry.trans (recordVerdict_eq _ _ _ _), left.health, left.weak, evaluated, raised⟩,
      left.status, left.lva, left.link, left.clu, left.port, left.trc,
      sameBut_trans (t := stepCounted n st s) sameBut_of_eq (sameBut_mono (by decide) left.rest)⟩
  · exact fun state timer room => pauseTimer_ends inv online held state timer room
  · intro pair
    have pairs (j : Nat) (x y : Capture) : HeldPair captures 1 profile j x y ↔ pair (j + 1) x y := by
      simp only [HeldPair, pair, captureOf, Nat.add_comm 1 j, Nat.add_sub_cancel, Nat.le_add_left, true_and]
    have numbered {n : Nat} {x y : Capture} (h : pair n x y) : ∃ j, n = j + 1 := Nat.exists_eq_add_of_le' h.1
    refine ⟨fun n x y here first => ?_, fun none_ => ?_⟩
    · obtain ⟨j, rfl⟩ := numbered here
      have found := capturePair_first ((pairs j x y).mpr here) fun k less x₁ y₁ earlier =>
        first (k + 1) x₁ y₁ (Nat.succ_lt_succ less) ((pairs k x₁ y₁).mp earlier)
      have measured : testResistance profile captures = pairResistance x y := by rw [testResistance, found]
      exact ⟨fun absent => measured.trans (pairResistance_absent absent),
        fun di dv => measured.trans (pairResistance_present di dv)⟩
    · have found : capturePair 1 profile captures = none :=
        capturePair_none fun j x y h => none_ (j + 1) x y ((pairs j x y).mp h)
      rw [testResistance, found]

end Sys2Proof.Machine
end

section
/-! A valid sense frame that reaches a run in progress: what the run takes of it, and the ends it brings (R134 to R136,
R138, R143). -/

namespace Sys2Proof.Machine

variable {s u : State} {f : SenseFrame} {frame : List Byte} {l : List EventSpec} {n m : Nat} {st : TestStep} {c : Claim}

/-! ## The row up to the run (R58) -/

/-- The part after the account and the VSM of a frame, before the run takes it. -/
abbrev frameAccounted (b : Bau) (v : Vsm) (f : SenseFrame) (s : State) : State :=
  { frameHeard f s with bau := b, vsm := v }

/-- The account counts a frame before it reaches the run (R58). -/
theorem frame_reachesRun (inv : Inv s) (running : s.hpi.running = true) (live : s.sns.state = .live)
    (valid : parseSenseFrame frame = .valid f) : ∃ new b v,
    exec (.validSenseFrame frame) s = .next (settle (testFrame f (frameMultiplier f.seq s)
        (told new (frameAccounted b v f s))))
      ∧ accountFrame f (frameGap f.seq s) (frameMultiplier f.seq s) (told [] (frameHeard f s))
        = told new (frameAccounted b v f s)
      ∧ b.minutes = s.bau.minutes ∧ v.visit = s.vsm.visit
      ∧ ((f.i < 0 → 0 < dischargeStep s) → b = frameCounted f s ∧ v = frameVsm f s ∧ new = frameDues f s) := by
  have runs := validSenseFrame_runs inv.events valid
  have fresh : restoredTold f s = [] := by rw [restoredTold, live]
  obtain ⟨new, b, v, accounted, minutes, visit, counted⟩ := accountFrame_counted (l := []) (f := f) running inv.life
  rw [fresh, accounted] at runs
  exact ⟨new, b, v, runs, accounted, minutes, visit, counted⟩

theorem frameRested_record (f : SenseFrame) (s : State) :
    (frameRested f s).carry.baseline = s.bau.carry.baseline ∧ (frameRested f s).carry.hTest = s.bau.carry.hTest := by
  obtain ⟨_, _, _, _, _, charged⟩ := frameCharged_frame f s
  rw [frameRested, charged]
  exact ⟨rfl, rfl⟩

theorem frameCounted_record (f : SenseFrame) (s : State) :
    (frameCounted f s).carry.baseline = s.bau.carry.baseline ∧ (frameCounted f s).carry.hTest = s.bau.carry.hTest := by
  rw [frameCounted]
  dsimp only
  split <;> exact ⟨rfl, rfl⟩

/-- No frame touches what verdicts have left in the record. -/
theorem accountFrame_record (running : s.hpi.running = true) (life : s.bau.carry.u ≤ 4294967295) {b : Bau} {v : Vsm}
    (accounted : accountFrame f (frameGap f.seq s) (frameMultiplier f.seq s) (told [] (frameHeard f s))
      = told l (frameAccounted b v f s)) :
    b.carry.baseline = s.bau.carry.baseline ∧ b.carry.hTest = s.bau.carry.hTest := by
  have account := congrArg State.bau accounted
  rw [told_bau] at account
  by_cases steps : frameSteps f s = 0
  · rw [accountFrame_rested running life steps] at account
    obtain rfl : frameRested f s = b := account
    exact frameRested_record f s
  · rw [accountFrame_judged running steps] at account
    obtain rfl : frameCounted f s = b := account
    exact frameCounted_record f s

/-! ## What the run takes (R134, R136) -/

theorem testFrame_step (counted : m ≠ 0) (state : u.tsq.state = .running n) (mains : f.mainsOk = true)
    (step : u.tsq.profile[n - 1]? = some st) :
    testFrame f m u = floorTest n st f (u.modTsq fun t => { t with run := t.run.take f m }) := by
  have found : profileStep n u = some st := step
  simp only [testFrame, if_neg counted, state, frameInStep, mains, Bool.not_true, Bool.false_eq_true, if_false, found]

/-- In a pause, and for a repeat, the run takes nothing of a frame with mains. -/
theorem testFrame_untaken (mains : f.mainsOk = true) (untaken : u.tsq.state = .paused n ∨ m = 0) :
    testFrame f m u = u := by
  unfold testFrame
  split
  · rfl
  · rename_i counted
    rw [untaken.resolve_right counted]

/-- Lost mains end the run in a step and in a pause (R138). -/
theorem testFrame_lost (counted : m ≠ 0) (mains : f.mainsOk = false)
    (state : u.tsq.state = .running n ∨ u.tsq.state = .paused n) : testFrame f m u = endRun .mainsLost u := by
  rcases state with state | state <;>
    simp only [testFrame, if_neg counted, state, frameInStep, mains, Bool.not_false, Bool.false_eq_true, if_true,
      if_false]

/-- The frame counts toward the end of a DISCHARGE step by its voltage floor (R136). -/
abbrev BelowFloor (st : TestStep) (f : SenseFrame) : Prop := st.kind = .discharge ∧ 0 < st.floor ∧ f.v ≤ st.floor

/-- The floor count after a frame that does not end the step (R136). -/
def floorCounted (st : TestStep) (f : SenseFrame) (before : Nat) : Nat :=
  if decide (BelowFloor st f) then 1 else if st.kind = .discharge ∧ 0 < st.floor then 0 else before

theorem floorTest_counts (first : BelowFloor st f → u.tsq.run.floorCount = 0) :
    floorTest n st f u = u.modTsq fun t => { t with run := { t.run with
      floorCount := floorCounted st f t.run.floorCount } } := by
  unfold floorTest floorCounted
  by_cases floored : st.kind = .discharge ∧ 0 < st.floor
  · rw [if_pos floored]
    by_cases below : f.v ≤ st.floor
    · have hit : BelowFloor st f := ⟨floored.1, floored.2, below⟩
      have once : ¬ 2 ≤ u.tsq.run.floorCount + 1 := by rw [first hit]; omega
      rw [if_pos below]
      refine (if_neg once).trans ?_
      simp only [decide_eq_true hit, if_true, State.modTsq, first hit]
    · rw [if_neg below]
      have miss : decide (BelowFloor st f) = false := decide_eq_false fun hit => below hit.2.2
      simp only [miss, Bool.false_eq_true, if_false, if_pos floored]
  · rw [if_neg floored]
    have miss : decide (BelowFloor st f) = false := decide_eq_false fun hit => floored ⟨hit.1, hit.2.1⟩
    simp only [miss, Bool.false_eq_true, if_false, if_neg floored]
    rfl

/-- The second frame in a row at or below the floor ends the run, its capture taken (R135, R136). -/
theorem floorTest_ends (hit : BelowFloor st f) (second : u.tsq.run.floorCount = 1) :
    floorTest n st f u = endRun .floorReached
      (takeCapture n (u.modTsq fun t => { t with run := { t.run with floorCount := t.run.floorCount + 1 } })) := by
  have twice : 2 ≤ u.tsq.run.floorCount + 1 := by rw [second]
  rw [floorTest, if_pos ⟨hit.1, hit.2.1⟩, if_pos hit.2.2]
  exact if_pos twice

/-! ## A frame that the run goes on after -/

/-- A frame that the run goes on after leaves the account and the VSM as they count it, and the run as it takes it. -/
theorem frame_runGoesOn {tsq : Tsq} (inv : Inv s) (running : s.hpi.running = true) (live : s.sns.state = .live)
    (valid : parseSenseFrame frame = .valid f) (size : f.i < 0 → 0 < dischargeStep s)
    (held : TestClaimHeld c (frameHeard f s))
    (takes : ∀ l b v, testFrame f (frameMultiplier f.seq s) (told l (frameAccounted b v f s))
      = told l { frameAccounted b v f s with tsq := tsq }) :
    ∃ t, exec (.validSenseFrame frame) s = .next t ∧ t.tsq = tsq ∧ t.sns = (frameHeard f s).sns ∧
      t.bau = frameCounted f s ∧ t.vsm = frameVsm f s ∧ Raised (frameDues f s) s t ∧ TrcIs s.trc t ∧ PortKept s t ∧
      LinesKept s t ∧ SameBut [.sns, .bau, .tsq, .vsm, .clu, .trc, .hpi] s t := by
  obtain ⟨new, b, v, runs, -, minutes, visit, counted⟩ := frame_reachesRun inv running live valid
  obtain ⟨rfl, rfl, rfl⟩ := counted size
  rw [takes] at runs
  have isolated : isolatedFlag { frameAccounted (frameCounted f s) (frameVsm f s) f s with tsq := tsq }
      = isolatedFlag (frameHeard f s) := by
    unfold isolatedFlag
    rw [visit]
  have view : SameView (frameHeard f s) { frameAccounted (frameCounted f s) (frameVsm f s) f s with tsq := tsq } :=
    ⟨rfl, rfl, isolated, rfl, rfl, rfl, rfl⟩
  obtain ⟨m, runs⟩ := runs_settled_told runs (view.claimKept rfl (claimKept_held held))
  exact ⟨_, runs, rfl, rfl, rfl, rfl, raised_told _ ⟨rfl, rfl, rfl, rfl, minutes, rfl, rfl, rfl⟩, rfl,
    portKept_told rfl, linesKept_told rfl, sameBut_of_eq⟩

/-! ## The ends (R136, R138, R143) -/

/-- A frame with lost mains ends the run with MAINS_LOST, before the claim is judged again (log entry 15). -/
theorem frame_mainsLost (inv : Inv s) (online : OnLine s) (live : s.sns.state = .live)
    (valid : parseSenseFrame frame = .valid f) (size : f.i < 0 → 0 < dischargeStep s) (claim : s.lva = some c)
    (test : c.kind = .test) (mains : f.mainsOk = false) (counted : frameMultiplier f.seq s ≠ 0)
    (state : s.tsq.state = .running n ∨ s.tsq.state = .paused n) (room : s.link.coord.length < 8) :
    ∃ t, exec (.validSenseFrame frame) s = .next t ∧ RunOver .mainsLost s t ∧ t.sns = (frameHeard f s).sns ∧
      t.bau = frameCounted f s ∧ t.vsm = frameVsm f s ∧
      t.link = { runReleased s s.link with status := t.link.status } ∧ StatusQueued t ∧
      t.clu = { wdOver s s.clu with horn := t.clu.horn, hornTimer := t.clu.hornTimer } ∧
      Raised (frameDues f s ++ [runTold .mainsLost s]) s t ∧ TrcIs s.trc t ∧ PortKept s t ∧
      SameBut [.sns, .bau, .vsm, .tsq, .lva, .link, .clu, .trc, .hpi] s t := by
  obtain ⟨running, sends, free⟩ := sends_of_onLine online
  obtain ⟨new, b, v, runs, -, minutes, visit, accounted⟩ := frame_reachesRun inv running live valid
  obtain ⟨rfl, rfl, rfl⟩ := accounted size
  have run : s.tsq.state.inProgress = true := by rcases state with state | state <;> rw [state] <;> rfl
  have holds : RunHoldsClaim s := by
    rw [RunHoldsClaim, run, runClaim, claim, Option.filter_some, test]
    rfl
  obtain ⟨status, ended, queuedIn, -⟩ := abortRun_told (l := frameDues f s) (link := s.link) (trc := s.trc)
    (s := frameAccounted (frameCounted f s) (frameVsm f s) f s) (cause := .mainsLost) (fun _ _ => rfl) holds running
    sends free fun _ => room
  have ends : endRun .mainsLost (told (frameDues f s) (frameAccounted (frameCounted f s) (frameVsm f s) f s))
      = told (frameDues f s ++ [runTold .mainsLost s])
        (runOver .mainsLost s.link status s.trc (frameAccounted (frameCounted f s) (frameVsm f s) f s)) := by
    have told_ : runOverTold .mainsLost (frameAccounted (frameCounted f s) (frameVsm f s) f s)
        = [runTold .mainsLost s] := if_pos run
    rw [told_] at ended
    exact (if_pos (by exact run)).symm.trans ended
  rw [testFrame_lost counted mains (by exact state), ends] at runs
  obtain ⟨m, runs⟩ := runs_settled_told runs (claimKept_none (if_pos run))
  exact ⟨_, runs, ⟨rfl, rfl⟩, rfl, rfl, rfl, rfl, queuedIn run, rfl,
    raised_told _ ⟨rfl, rfl, rfl, rfl, minutes, rfl, rfl, rfl⟩, rfl, portKept_told rfl, sameBut_of_eq⟩

/-- The part in which a step ends by its floor: the frame taken, the second count made, the capture taken (R134 to
R136). -/
def floorHit (n : Nat) (st : TestStep) (f : SenseFrame) (u : State) : State :=
  let w := u.modTsq fun t =>
    { t with run := { t.run.take f 1 with floorCount := (t.run.take f 1).floorCount + 1 } }
  withCapture (captureTaken n st w) w

/-- The frames that a run keeps behind a frame taken: the last four (R134). -/
def recentAfter (f : SenseFrame) (r : RunRec) : List (Nat × Int) :=
  (if r.recent.length < 4 then r.recent else r.recent.drop 1) ++ [(f.v, f.i)]

/-- The capture of a step that ends by its floor: the frame just taken stands among its frames (R135, R136). -/
def floorCapture (n : Nat) (st : TestStep) (f : SenseFrame) (r : RunRec) : Option Capture :=
  let recent := recentAfter f r
  if st.capture then
    some ⟨n, (recent.map Prod.fst).sum / recent.length, (recent.map Prod.snd).sum.fdiv recent.length⟩
  else none

theorem floorHit_run (n : Nat) (st : TestStep) (f : SenseFrame) (u : State) : (floorHit n st f u).tsq.run
    = { u.tsq.run with
        recent := recentAfter f u.tsq.run
        captures := u.tsq.run.captures ++ (floorCapture n st f u.tsq.run).toList
        minV := some (match u.tsq.run.minV with | some v => min v f.v | none => f.v)
        discharged := if f.i < 0 then min 4294967295 (u.tsq.run.discharged + f.i.natAbs) else u.tsq.run.discharged
        floorCount := u.tsq.run.floorCount + 1 } := by
  have capture : captureTaken n st (u.modTsq fun t =>
        { t with run := { t.run.take f 1 with floorCount := (t.run.take f 1).floorCount + 1 } })
      = floorCapture n st f u.tsq.run := by
    have some_ : recentAfter f u.tsq.run ≠ [] := List.concat_ne_nil _ _
    by_cases flag : st.capture = true
    · exact (if_pos ⟨flag, some_⟩).trans (if_pos flag).symm
    · exact (if_neg fun both => flag both.1).trans (if_neg flag).symm
  have charge : u.tsq.run.discharged + 1 * f.i.natAbs = u.tsq.run.discharged + f.i.natAbs := by rw [Nat.one_mul]
  rw [floorHit, capture, ← charge]
  rfl

/-- The charge of a frame at rest or in charge leaves health, and no due is raised for it. -/
theorem frameVsm_charging (charging : 0 ≤ f.i) : frameVsm f s = s.vsm ∧ frameDues f s = [] := by
  have health : (frameCounted f s).h = s.bau.h := by rw [frameCounted_rested (.inl charging), frameRested_h]
  exact ⟨if_pos health, if_pos health⟩

/-- The second frame in a row at or below the floor of a DISCHARGE step ends the run with FLOOR_REACHED. -/
theorem frame_floorReached (inv : Inv s) (online : OnLine s) (live : s.sns.state = .live)
    (valid : parseSenseFrame frame = .valid f) (state : s.tsq.state = .running n)
    (step : s.tsq.profile[n - 1]? = some st) (hit : BelowFloor st f) (second : s.tsq.run.floorCount = 1)
    (mains : f.mainsOk = true) (once : frameMultiplier f.seq s = 1) (claim : s.lva = some c) (test : c.kind = .test)
    (granted : c.granted = true) (room : s.link.coord.length < 8) : ∃ t new b v,
    exec (.validSenseFrame frame) s = .next t
      ∧ JudgedLeft new c .floorReached false (floorHit n st f (frameAccounted b v f s)) s t
      ∧ b.carry.baseline = s.bau.carry.baseline ∧ b.carry.hTest = s.bau.carry.hTest
      ∧ (0 ≤ f.i → v = s.vsm ∧ new = []) := by
  have running := online.1
  obtain ⟨new, b, v, runs, accounted, minutes, visit, counted⟩ := frame_reachesRun inv running live valid
  obtain ⟨baseline, hTest⟩ := accountFrame_record running inv.life accounted
  have ends : testFrame f 1 (told new (frameAccounted b v f s))
      = endRun .floorReached (told new (floorHit n st f (frameAccounted b v f s))) := by
    rw [testFrame_step Nat.one_ne_zero (by exact state) mains (by exact step),
      floorTest_ends hit (by exact second), takeCapture_eq (by exact step)]
    rfl
  rw [once, ends] at runs
  obtain ⟨t, runs, left⟩ := runs_judged (s := s) (u := floorHit n st f (frameAccounted b v f s)) (good := false) runs
    rfl claim test granted (sends_of_onLine (s := s) online) room ⟨rfl, rfl, rfl, rfl, minutes, rfl, rfl, rfl⟩ rfl
  refine ⟨t, new, b, v, runs, left, baseline, hTest, fun charging => ?_⟩
  obtain ⟨-, vsm, dues⟩ := counted fun out => absurd out (not_lt.mpr charging)
  obtain ⟨stands, silent⟩ := frameVsm_charging (s := s) charging
  exact ⟨vsm.trans stands, dues.trans silent⟩

/-- The multiplier of a frame that follows the last one is 1 (R56). -/
theorem frameMultiplier_next {seq : Byte} (follows : s.sns.lastSeq = some (seq - 1#8)) : frameMultiplier seq s = 1 := by
  have other : seq ≠ seq - 1#8 := by bv_omega
  have none_ : (seq - (seq - 1#8) - 1#8).toNat = 0 := by
    have zero : seq - (seq - 1#8) - 1#8 = 0#8 := by bv_omega
    rw [zero]
    rfl
  simp only [frameMultiplier, frameGap, follows, if_neg other, none_, Nat.zero_le, if_true]

/-- H_test after a WEAK verdict: the term against the baseline that stood, capped (R77, R78). -/
theorem recordVerdict_weak {resistance : Option Nat} {cap : Nat} {r before : Carry}
    (baseline : r.baseline = before.baseline) (hTest : r.hTest = before.hTest) :
    (recordVerdict false resistance cap r).hTest = min (match resistance, before.baseline with
        | some x, some b => if x ≤ b then 1000 else 1000 - 1000 * (x - b) / b
        | some _, none => 1000
        | none, _ => before.hTest) cap
      ∧ (recordVerdict false resistance cap r).baseline = before.baseline := by
  rw [recordVerdict_eq, ← baseline, ← hTest]
  cases resistance <;> cases r.baseline <;> exact ⟨rfl, rfl⟩

/-- Settles O53: the account counts the frame, then the run takes it, goes on or ends. -/
theorem runningTestTakesFrame : Obligations.RunningTestTakesFrame := by
  refine ⟨?_, ?_⟩
  · intro frame f n c s inv online valid live claim test granted size heard m taken
    refine ⟨fun mains held => ⟨fun st state step counted first => ?_, fun untaken => ?_⟩,
      fun mains counted state room => ?_⟩
    · refine frame_runGoesOn inv online.1 live valid size held fun l b v => ?_
      have fresh : BelowFloor st f → s.tsq.run.floorCount = 0 := fun hit => first (decide_eq_true hit)
      rw [testFrame_step counted (by exact state) mains (by exact step), floorTest_counts (by exact fresh)]
      rfl
    · exact frame_runGoesOn inv online.1 live valid size held fun l b v =>
        testFrame_untaken (n := n) mains (by exact untaken)
    · exact frame_mainsLost inv online live valid size claim test mains counted state room
  · intro frame f n st c s inv online valid state step discharge floored low second mains live follows claim test
      granted room
    obtain ⟨t, new, b, v, runs, left, baseline, hTest, charging⟩ := frame_floorReached inv online live valid state step
      ⟨discharge, floored, low⟩ second mains (frameMultiplier_next follows) claim test granted room
    obtain ⟨capped, kept⟩ := recordVerdict_weak (resistance := runResistance (floorHit n st f (frameAccounted b v f s)))
      (cap := s.hpi.cab.weakCap) baseline hTest
    refine ⟨t, runs, ⟨?_, ?_, ?_, ?_, ?_, ?_, ?_, fun charge => ?_⟩, ?_, left.lva, ?_, left.status, left.clu, left.trc,
      left.port, ?_⟩
    · refine left.tsq.trans ?_
      rw [resultOf, floorHit_run]
      rfl
    · rw [left.carry]
      exact kept
    · rw [left.carry]
      refine capped.trans ?_
      rw [runResistance, floorHit_run]
      rfl
    · rw [left.carry]
      rfl
    · rw [left.carry]
      rfl
    · rw [left.health, left.carry]
      rfl
    · rw [left.weak]
      exact Bool.or_true _
    · obtain ⟨rfl, rfl⟩ := charging charge
      exact left.dues (v := s) (m := s.vsm) rfl rfl
    · exact left.rest .sns (by decide)
    · rw [left.link, released, test]
      rfl
    · exact sameBut_trans (t := floorHit n st f (frameAccounted b v f s)) sameBut_of_eq
        (sameBut_mono (by decide) left.rest)

end Sys2Proof.Machine
end

section
/-! The closures of a visit behind events, whatever its outcome: the record in the log, the dues of a COMPLETED one, the
way out of ISOLATING and into RESTORING (R149, R156, R157, R161, R163). -/

namespace Sys2Proof.Machine

variable {s u : State} {l : List EventSpec} {v : Visit} {outcome : VisitOutcome} {causes : List Byte}

/-! ## A closure that is not COMPLETED (R163) -/

/-- The part after a visit has closed with no due cleared: its record stands in the log. -/
def visitLogged (outcome : VisitOutcome) (v : Visit) (s : State) : State :=
  s.modVsm fun m => { m with visit := none, log := logged (logOf v outcome [] s) m.log }

/-- The log record and VISIT_STATE of a closure that clears no due (R163, R165). -/
theorem tellClosure_unmet (v : Visit) (outcome : VisitOutcome) (causes : List Byte) (u : State) :
    tellVisit v outcome.code causes (appendLog (logRecOf v outcome [] (told l u)) (told l u))
      = told (l ++ [closureTold v outcome (causeItem causes)])
        (u.modVsm fun m => { m with log := logged (logOf v outcome [] u) m.log }) := by
  rw [tellVisit, appendLog, told_modVsm, raise_told, closureTold, be16_ofNat]
  rfl

theorem closeVisit_present (visit : s.vsm.visit = some v) (other : outcome ≠ .completed)
    (present : v.state.isolates = false) : closeVisit outcome causes (told l s)
      = told (l ++ [closureTold v outcome (causeItem causes)]) (visitLogged outcome v s) := by
  have opened : (told l s).vsm.visit = some v := visit
  have silent : ¬ v.state.isolates = true := by rw [present]; exact Bool.false_ne_true
  rw [closeVisit, opened]
  dsimp only
  rw [if_neg silent, if_neg other, if_neg other]
  exact tellClosure_unmet v outcome causes { s with vsm := { s.vsm with visit := none } }

/-- The visit had the isolated flag set: a STATUS with the flag clear is queued. -/
theorem closeVisit_absent (visit : s.vsm.visit = some v) (other : outcome ≠ .completed)
    (isolates : v.state.isolates = true) (sends : Sends s) : closeVisit outcome causes (told l s)
      = told (l ++ [closureTold v outcome (causeItem causes)]) (withStatus (visitLogged outcome v s)) := by
  have opened : (told l s).vsm.visit = some v := visit
  have queued_ : queueStatus ((told l s).modVsm fun m => { m with visit := none })
      = told l (withStatus { s with vsm := { s.vsm with visit := none } }) :=
    queueStatus_told_eq (s := { s with vsm := { s.vsm with visit := none } }) sends
  rw [closeVisit, opened]
  dsimp only
  rw [if_pos isolates, if_neg other, if_neg other, queued_]
  exact tellClosure_unmet v outcome causes (withStatus { s with vsm := { s.vsm with visit := none } })

/-! ## A COMPLETED closure (R149, R163) -/

/-- The part after a COMPLETED closure that queues no STATUS. -/
def visitCompleted (v : Visit) (s : State) : State := { s with
  bau := bauClosed v s
  vsm := { (vsmClosed v s).1 with log := logged (logOf v .completed (duesClosed v s) s) s.vsm.log } }

theorem vsmClosed_log (v : Visit) (s : State) : (vsmClosed v s).1.log = s.vsm.log := by
  by_cases new : .batteryReplaced ∈ v.tasks
  · rw [vsmClosed_replaced new]
    rfl
  · rw [vsmClosed_kept new]
    rfl

theorem vsmClosed_told (v : Visit) (s : State) :
    (vsmClosed v s).2 = closureDues v s ++ [closureTold v .completed [0#8, 0#8]] := by
  by_cases new : .batteryReplaced ∈ v.tasks
  · rw [closureDues, vsmClosed_replaced new, List.dropLast_concat]
  · rw [closureDues, vsmClosed_kept new, List.dropLast_concat]

theorem closeVisit_completedPresent (visit : s.vsm.visit = some v) (present : v.state.isolates = false)
    (nodup : (s.vsm.dues.map (·.kind)).Nodup) :
    closeVisit .completed [] (told l s) = told (l ++ (vsmClosed v s).2) (visitCompleted v s) := by
  have opened : (told l s).vsm.visit = some v := visit
  have silent : ¬ v.state.isolates = true := by rw [present]; exact Bool.false_ne_true
  have unvisited : (told l s).modVsm (fun m => { m with visit := none })
      = told l { s with vsm := { s.vsm with visit := none } } := rfl
  have kinds : clearedDues v (told l { s with vsm := { s.vsm with visit := none } }) = duesClosed v s :=
    (clearedDues_eq v _).trans (duesClosed_congr rfl)
  have done := completeVisit_told (l := l) (s := s) (v := v) (u := { s with vsm := { s.vsm with visit := none } })
    nodup rfl rfl rfl rfl
  have record (u : State) (h : u.bau.minutes = s.bau.minutes) :
      logRecOf v .completed (duesClosed v s) u = logOf v .completed (duesClosed v s) s := by
    rw [logRecOf, h]
    rfl
  rw [closeVisit, opened]
  dsimp only
  rw [if_neg silent, if_pos rfl, if_pos rfl, unvisited, kinds, done,
    record _ (by exact bauClosed_minutes v s), tellClosure_told, vsmClosed_told, List.append_assoc, vsmClosed_log,
    visitCompleted]

/-- A visit with nothing to clear and no new string leaves the account and the dues as they stand. -/
theorem visitCompleted_quiet (dues : s.vsm.dues = []) (kind : v.kind ≠ .isolation) (old : .batteryReplaced ∉ v.tasks) :
    bauClosed v s = s.bau ∧ (vsmClosed v s).2 = [closureTold v .completed [0#8, 0#8]] ∧
      { (vsmClosed v s).1 with log := logged (logOf v .completed (duesClosed v s) s) s.vsm.log }
        = (visitLogged .completed v s).vsm := by
  have kinds : duesClosed v s = [] := by rw [duesClosed, dues]; rfl
  have periodic : ¬ (v.kind = .isolation ∧ .periodicDone ∈ v.tasks) := fun both => kind both.1
  refine ⟨?_, ?_, ?_⟩
  · simp only [bauClosed, if_neg old, if_neg periodic]
  · rw [vsmClosed_kept old, kinds]
    rfl
  · rw [vsmClosed_kept old, vsmCleared, kinds, dues]
    show ({ s.vsm with visit := none, dues := [], log := _ } : Vsm) = _
    rw [← dues]
    rfl

/-! ## Out of ISOLATING (R157, R161) -/

/-- A visit that leaves ISOLATING closes with the answer to its JOIN; `u'` stands after the JOIN was asked for. -/
theorem leaveIsolating_told {u' : State} (visit : u'.vsm.visit = some v) (isolating : v.state = .isolating)
    (other : outcome ≠ .completed) (asked : requestJoin (told l u) = told l u') (sends : Sends u')
    (claim : ∀ c ∈ u'.lva, c.kind = .service ∧ c.granted = true) (room : u'.link.coord.length < 8) :
    ∃ status, leaveIsolating outcome [] (told l u) = told (l ++ [closureTold v outcome [1#8, joinAnswer u]])
      (withStatus (visitLogged outcome v (unclaimed status u'))) := by
  obtain ⟨status, freed⟩ := releaseService_told (l := l) claim sends room
  refine ⟨status, ?_⟩
  have closes := closeVisit_absent (l := l) (s := unclaimed status u') (causes := [joinAnswer u]) (by exact visit) other
    (by rw [isolating]; rfl) (by exact sends)
  rw [leaveIsolating, asked, freed]
  exact closes

theorem requestJoin_refused {r : Reason} (refused : joinRefusal true u = some r) :
    requestJoin u = u ∧ joinAnswer u = byteOf r.code := by
  rw [requestJoin, joinAnswer, refused]
  exact ⟨rfl, rfl⟩

/-- The part after a JOIN taken, its switch to the mode of the floor under way. -/
def joinTaken (s : State) : State := { s with
  clu := commanded (floorModeFor s) s.clu, trc := joining (floorModeFor s) s }

/-- A JOIN that is taken finds no activity. -/
theorem idle_of_joins (taken : firstFailing ((joinChecks s).drop 1) = none) : s.trc.activity = .none := by
  have passes := firstFailing_none taken (c := (decide (s.trc.activity ≠ .none), .busy)) (by simp [joinChecks])
  simpa using passes

theorem requestJoin_taken (taken : firstFailing ((joinChecks u).drop 1) = none)
    (away : u.clu.fb.qual ≠ (floorModeFor u).feedback) :
    requestJoin (told l u) = told l (joinTaken u) ∧ joinAnswer u = 0#8 := by
  have accepted := (joinRefusal_eq u).trans taken
  rw [requestJoin, joinRefusal_told, joinAnswer, accepted]
  exact ⟨joinFloor_told (idle_of_joins taken) away, rfl⟩

/-! ## Into RESTORING (R156) -/

/-- The record of a visit that enters RESTORING. -/
def restoringVisit (v : Visit) (s : State) : Visit := { v with
  state := .restoring, joinRequested := false, stepTimer := some (600000 * s.hpi.cab.stepTimeout) }

theorem enterRestoring_told (visit : u.vsm.visit = some v) (isolated : v.state = .isolated) :
    enterRestoring (told l u) = tryJoin (told (l ++ [visitTold v .restoring]) (visited (restoringVisit v u) u)) := by
  have term : stepTerm (told l u) = 600000 * u.hpi.cab.stepTimeout := Nat.mul_comm _ _
  rw [enterRestoring, term, modVisit_told visit]
  exact congrArg tryJoin (enterVisitState_told (st := .restoring)
    (u := visited { v with joinRequested := false, stepTimer := some (600000 * u.hpi.cab.stepTimeout) } u)
    (v := { v with joinRequested := false, stepTimer := some (600000 * u.hpi.cab.stepTimeout) }) rfl
    (by show v.state.isolates = _; rw [isolated]; rfl))

/-! ## Out of REQUESTED (R126, R161) -/

theorem releaseService_queued {c : Claim} (claim : s.lva = some c) (service : c.kind = .service)
    (ungranted : c.granted = false) (unsent : c.inWindow = false) (sends : Sends s)
    (room : s.link.coord.length ≤ 8) : releaseKind .service s = withStatus (claimWithdrawn c s) := by
  have mine : s.lva.map (·.kind) = some .service := by rw [claim, Option.map_some, service]
  rw [releaseKind, if_pos mine, releaseClaim, claim]
  dsimp only
  rw [ungranted, unsent, if_neg (by decide), withdraw_free sends.2.2 room]
  exact queueStatus_eq (s := claimWithdrawn c s) sends

/-- With no congestion reported the queue alone changes. -/
theorem claimWithdrawn_link {c : Claim} (service : c.kind = .service) (clear : s.link.congestionReported = false) :
    (claimWithdrawn c s).link
      = { s.link with coord := s.link.coord.filter fun e => decide (e.msg ≠ .claim .service c.time) } := by
  show coordWithout (fun e => decide (e.msg = .claim c.kind c.time)) s.link = _
  simp only [coordWithout, service, clear, Bool.false_and, decide_not]

end Sys2Proof.Machine
end

section
/-! CLOSE VISIT and CANCEL VISIT by the state of the visit, and the end of its JOIN switch (R156, R157, R160, R161,
R163). -/

namespace Sys2Proof.Machine

variable {s : State} {l : List EventSpec} {v : Visit} {outcome : VisitOutcome}

/-! ## The commands -/

section
variable (running : s.hpi.running = true)
include running

/-- CLOSE VISIT that is not taken changes nothing. -/
theorem closeVisit_answers {r : Reply} {status reason : Nat} (ruled : ∀ u, u.vsm = s.vsm → u.clu = s.clu →
      ruleCloseVisit [] u = (u, r)) (hs : r.status.code = status) (hr : r.reason = byteOf reason) (hb : r.body = [])
    (hl : r.lost = none) : exec (.closeVisit [0#8]) s = .next (onlyAnswered 0x28 [0#8] status reason [] s) :=
  congrArg Host.Outcome.next (command_answers (taken := .running) rfl rfl running (ruled _ rfl rfl) hs hr hb hl)

/-- CANCEL VISIT out of its states changes nothing. -/
theorem cancelVisit_answers (ruled : ∀ u, u.vsm = s.vsm → ruleCancelVisit [] u = (u, wrongState)) :
    exec (.cancelVisit [0#8]) s = .next (onlyAnswered 0x29 [0#8] 2 0 [] s) :=
  congrArg Host.Outcome.next (command_answers (taken := .running) rfl rfl running (ruled _ rfl) rfl rfl rfl rfl)

/-- Both commands with no visit open. -/
theorem unvisited_answers (visit : s.vsm.visit = none) :
    exec (.closeVisit [0#8]) s = .next (onlyAnswered 0x28 [0#8] 2 0 [] s) ∧
    exec (.cancelVisit [0#8]) s = .next (onlyAnswered 0x29 [0#8] 2 0 [] s) := by
  refine ⟨closeVisit_answers running (r := wrongState) (fun u vsm _ => ?_) rfl rfl rfl rfl,
    cancelVisit_answers running fun u vsm => ?_⟩
  · rw [ruleCloseVisit, vsm, visit]
  · rw [ruleCancelVisit, vsm, visit]

variable (visit : s.vsm.visit = some v)
include visit

theorem closeVisit_wrongState (state : v.state = .requested ∨ v.state = .isolating ∨ v.state = .maintWait) :
    exec (.closeVisit [0#8]) s = .next (onlyAnswered 0x28 [0#8] 2 0 [] s) :=
  closeVisit_answers running (r := wrongState) (fun u vsm _ => by
    rcases state with state | state | state <;> simp only [ruleCloseVisit, vsm, visit, state]) rfl rfl rfl rfl

theorem closeVisit_busy (state : v.state = .restoring) :
    exec (.closeVisit [0#8]) s = .next (onlyAnswered 0x28 [0#8] 3 0 [] s) :=
  closeVisit_answers running (r := busyReply) (fun u vsm _ => by simp only [ruleCloseVisit, vsm, visit, state])
    rfl rfl rfl rfl

theorem closeVisit_breakers (state : v.state = .maintOn) (open_ : s.clu.maint.qual = true ∨ s.clu.output.qual = false) :
    exec (.closeVisit [0#8]) s = .next (onlyAnswered 0x28 [0#8] 4 Reason.breakers.code [] s) :=
  closeVisit_answers running (r := refusedReply .breakers) (fun u vsm clu => by
    have bars : (!s.clu.maint.qual && s.clu.output.qual) = false := by rcases open_ with h | h <;> simp [h]
    simp only [ruleCloseVisit, vsm, clu, visit, state, bars, Bool.false_eq_true, if_false]) rfl rfl rfl rfl

theorem cancelVisit_wrongState (state : v.state = .isolated ∨ v.state = .restoring ∨ v.state = .maintOn) :
    exec (.cancelVisit [0#8]) s = .next (onlyAnswered 0x29 [0#8] 2 0 [] s) :=
  cancelVisit_answers running fun u vsm => by
    rcases state with state | state | state <;> simp only [ruleCancelVisit, vsm, visit, state]

end

/-- The part with one of the two commands in its buffer. -/
abbrev visitCommand (code : Byte) (s : State) : State := openCommand code [0#8] s

/-- CLOSE VISIT in OPEN, or in MAINT_ON with the cabinet back on its own contacts. -/
abbrev Closes (v : Visit) (s : State) : Prop :=
  v.state = .opened ∨ v.state = .maintOn ∧ s.clu.maint.qual = false ∧ s.clu.output.qual = true

theorem Closes.present (closes : Closes v s) : v.state.isolates = false := by
  rcases closes with state | ⟨state, -⟩ <;> rw [state] <;> rfl

/-- CLOSE VISIT of a visit that has not isolated the station. -/
theorem closeVisit_completes (inv : Inv s) (running : s.hpi.running = true) (visit : s.vsm.visit = some v)
    (closes : Closes v s) (kept : ClaimKept s) :
    ∃ t, exec (.closeVisit [0#8]) s = .next t ∧ Completed v s t ∧ Raised (vsmClosed v s).2 s t ∧
      Answered 0x28 [0#8] 0 0 [] t ∧ SettingsKept s t ∧ LinesKept s t ∧ TrcIs s.trc t ∧
      SameBut [.vsm, .bau, .clu, .trc, .hpi] s t := by
  have done := closeVisit_completedPresent (s := visitCommand 0x28 s) (l := []) visit closes.present inv.dues
  rw [told_nil (by exact inv.events), List.nil_append] at done
  have ruled : ruleCloseVisit [] (visitCommand 0x28 s)
      = (settle (told (vsmClosed v (visitCommand 0x28 s)).2 (visitCompleted v (visitCommand 0x28 s))), okReply) := by
    have opened : (visitCommand 0x28 s).vsm.visit = some v := visit
    rw [← done, ruleCloseVisit, opened]
    dsimp only
    rcases closes with state | ⟨state, maint, output⟩
    · rw [state]
    · have clear : (!(visitCommand 0x28 s).clu.maint.qual && (visitCommand 0x28 s).clu.output.qual) = true := by
        show (!s.clu.maint.qual && s.clu.output.qual) = true
        rw [maint, output]
        rfl
      rw [state]
      exact if_pos clear
  have flag : isolatedFlag (visitCompleted v (visitCommand 0x28 s)) = isolatedFlag s := by
    rw [isolatedFlag_visited visit, closes.present, isolatedFlag]
    show (match (vsmClosed v (visitCommand 0x28 s)).1.visit with | some v => v.state.isolates | none => false) = false
    rw [vsmClosed_visit]
  obtain ⟨account, vsm⟩ := vsmClosed_congr (v := v) (s := s) (u := visitCommand 0x28 s) rfl rfl rfl rfl
  obtain ⟨t, runs, left⟩ := command_leaves (lengths := len 0) (taken := .running) rfl rfl running ruled
    (SameView.claimKept (s := s) ⟨rfl, rfl, flag, rfl, rfl, rfl, rfl⟩ rfl kept) rfl
    (bauClosed_minutes v (visitCommand 0x28 s)) rfl rfl rfl
  refine ⟨t, congrArg Host.Outcome.next runs, ⟨?_, ?_⟩, vsm ▸ left.raised, left.answered, left.settings, left.clu,
    left.trc, sameBut_trans (by exact sameBut_of_eq) (sameBut_mono (by decide) left.rest)⟩
  · exact (left.rest .bau (by decide)).trans account
  · refine (left.rest .vsm (by decide)).trans ?_
    rw [visitCompleted, vsm]
    rfl

/-- A closure with nothing to clear leaves the account as it stands. -/
theorem closeVisit_quiet (inv : Inv s) (running : s.hpi.running = true) (visit : s.vsm.visit = some v)
    (closes : Closes v s) (kept : ClaimKept s) (dues : s.vsm.dues = []) (kind : v.kind ≠ .isolation)
    (old : .batteryReplaced ∉ v.tasks) :
    ∃ t, exec (.closeVisit [0#8]) s = .next t ∧
      t.vsm = { s.vsm with visit := none, log := logged (logOf v .completed [] s) s.vsm.log } ∧
      Raised [closureTold v .completed [0#8, 0#8]] s t ∧ Answered 0x28 [0#8] 0 0 [] t ∧
      SettingsKept s t ∧ LinesKept s t ∧ TrcIs s.trc t ∧ SameBut [.vsm, .clu, .trc, .hpi] s t := by
  obtain ⟨t, runs, ⟨bau, vsm⟩, raised, answered, settings, lines, trc, rest⟩ :=
    closeVisit_completes inv running visit closes kept
  obtain ⟨account, told_, quiet⟩ := visitCompleted_quiet dues kind old
  exact ⟨t, runs, vsm.trans quiet, told_ ▸ raised, answered, settings, lines, trc,
    sameBut_without .bau rest (bau.trans account) (by decide)⟩

/-! ## CLOSE VISIT in ISOLATED (R156) -/

section
variable (inv : Inv s) (running : s.hpi.running = true) (visit : s.vsm.visit = some v) (isolated : v.state = .isolated)
  (kept : ClaimKept s)
include inv running visit isolated kept

/-- CLOSE VISIT in ISOLATED, once the steps behind RESTORING are known. -/
theorem closeVisit_restores {w : Visit} {clu : Clu} {trc : Trc}
    (asks : tryJoin (told [visitTold v .restoring] (visited (restoringVisit v s) (visitCommand 0x28 s)))
      = told l { visited w (visitCommand 0x28 s) with clu := clu, trc := trc })
    (isolates : w.state.isolates = true) (mode : trc.ownMode = s.trc.ownMode) (horn : clu.horn = s.clu.horn)
    (hornTimer : clu.hornTimer = s.clu.hornTimer) :
    ∃ t, exec (.closeVisit [0#8]) s = .next t ∧ t.vsm = { s.vsm with visit := some w } ∧ Raised l s t ∧
      Answered 0x28 [0#8] 0 0 [] t ∧ SettingsKept s t ∧ TrcIs trc t ∧
      t.clu = { clu with horn := t.clu.horn, hornTimer := t.clu.hornTimer } ∧ SameBut [.vsm, .clu, .trc, .hpi] s t := by
  have enters := enterRestoring_told (l := []) (u := visitCommand 0x28 s) visit isolated
  rw [told_nil (by exact inv.events), List.nil_append] at enters
  have ruled : ruleCloseVisit [] (visitCommand 0x28 s)
      = (settle (told l { visited w (visitCommand 0x28 s) with clu := clu, trc := trc }), okReply) := by
    have opened : (visitCommand 0x28 s).vsm.visit = some v := visit
    rw [← asks, ruleCloseVisit, opened]
    dsimp only
    rw [isolated]
    exact congrArg (fun u => (settle u, okReply)) enters
  have flag : isolatedFlag { visited w (visitCommand 0x28 s) with clu := clu, trc := trc } = isolatedFlag s := by
    rw [isolatedFlag_visited visit, isolated]
    exact isolates
  obtain ⟨t, runs, left⟩ := command_leaves (lengths := len 0) (taken := .running) rfl rfl running ruled
    (SameView.claimKept (s := s) ⟨rfl, mode, flag, rfl, rfl, rfl, rfl⟩ rfl kept) rfl rfl rfl horn hornTimer
  exact ⟨t, congrArg Host.Outcome.next runs, left.rest .vsm (by decide), left.raised, left.answered, left.settings,
    left.trc, left.clu, sameBut_trans (by exact sameBut_of_eq) (sameBut_mono (by decide) left.rest)⟩

theorem closeVisit_waits (gap : (s.clu.input.qual && s.clu.battery.qual && s.clu.output.qual) = false) :
    ∃ t, exec (.closeVisit [0#8]) s = .next t ∧ t.vsm = { s.vsm with visit := some (restoringVisit v s) } ∧
      Raised [visitTold v .restoring] s t ∧ Answered 0x28 [0#8] 0 0 [] t ∧ SettingsKept s t ∧ TrcIs s.trc t ∧
      LinesKept s t ∧ SameBut [.vsm, .clu, .trc, .hpi] s t := by
  refine closeVisit_restores inv running visit isolated kept (clu := s.clu) (trc := s.trc) ?_ rfl rfl rfl rfl
  refine tryJoin_stands (u := visited (restoringVisit v s) (visitCommand 0x28 s)) rfl fun asks => ?_
  exact absurd (gap.symm.trans asks.2.1) Bool.false_ne_true

variable (closed : (s.clu.input.qual && s.clu.battery.qual && s.clu.output.qual) = true)
include closed

theorem closeVisit_refused {r : Reason} (refused : firstFailing ((joinChecks s).drop 1) = some r) :
    ∃ t, exec (.closeVisit [0#8]) s = .next t ∧
      t.vsm = { s.vsm with visit := some { restoringVisit v s with retryTimer := some 10000, joinRefused := true } } ∧
      Raised (visitTold v .restoring :: if v.joinRefused then [] else [refusalTold v r]) s t ∧
      Answered 0x28 [0#8] 0 0 [] t ∧ SettingsKept s t ∧ TrcIs s.trc t ∧ LinesKept s t ∧
      SameBut [.vsm, .clu, .trc, .hpi] s t := by
  refine closeVisit_restores inv running visit isolated kept (clu := s.clu) (trc := s.trc)
    ((tryJoin_refused (u := visited (restoringVisit v s) (visitCommand 0x28 s)) (r := r) rfl ⟨rfl, closed, rfl⟩
      ?_).trans rfl) rfl rfl rfl rfl
  exact (joinRefusal_eq _).trans refused

theorem closeVisit_joins (taken : firstFailing ((joinChecks s).drop 1) = none)
    (away : s.clu.fb.qual ≠ (floorModeFor s).feedback) :
    ∃ t, exec (.closeVisit [0#8]) s = .next t ∧
      t.vsm = { s.vsm with visit := some { restoringVisit v s with joinRequested := true, retryTimer := none } } ∧
      Raised [visitTold v .restoring] s t ∧ Answered 0x28 [0#8] 0 0 [] t ∧ SettingsKept s t ∧
      TrcIs (joining (floorModeFor s) s) t ∧
      t.clu = { commanded (floorModeFor s) s.clu with horn := t.clu.horn, hornTimer := t.clu.hornTimer } ∧
      SameBut [.vsm, .clu, .trc, .hpi] s t := by
  refine closeVisit_restores inv running visit isolated kept
    ((tryJoin_taken (u := visited (restoringVisit v s) (visitCommand 0x28 s)) rfl ⟨rfl, closed, rfl⟩ ?_).trans
      (joinFloor_told (idle_of_joins taken) away
        (u := visited { restoringVisit v s with joinRequested := true, retryTimer := none } (visitCommand 0x28 s))))
      rfl rfl rfl rfl
  exact (joinRefusal_eq _).trans taken

end

/-! ## CANCEL VISIT of a visit that has not isolated the station (R161) -/

/-- The closure of a cancelled visit as both forms of R161 leave it. -/
abbrev Cancelled (v : Visit) (causes : List Byte) (s t : State) : Prop :=
  t.vsm = { s.vsm with visit := none, log := logged (logOf v .cancelled [] s) s.vsm.log } ∧
    Raised [closureTold v .cancelled causes] s t ∧ Answered 0x29 [0#8] 0 0 [] t ∧
    SettingsKept s t ∧ LinesKept s t ∧ TrcIs s.trc t

theorem cancelVisit_present (inv : Inv s) (running : s.hpi.running = true) (visit : s.vsm.visit = some v)
    (state : v.state = .opened ∨ v.state = .maintWait) (kept : ClaimKept s) :
    ∃ t, exec (.cancelVisit [0#8]) s = .next t ∧ Cancelled v [0#8, 0#8] s t ∧ SameBut [.vsm, .clu, .trc, .hpi] s t := by
  have present : v.state.isolates = false := by rcases state with state | state <;> rw [state] <;> rfl
  have closes := closeVisit_present (s := visitCommand 0x29 s) (l := []) (causes := []) visit
    (outcome := .cancelled) (by decide) present
  rw [told_nil (by exact inv.events)] at closes
  have ruled : ruleCancelVisit [] (visitCommand 0x29 s) = (settle (told [closureTold v .cancelled [0#8, 0#8]]
      (visitLogged .cancelled v (visitCommand 0x29 s))), okReply) := by
    refine Eq.trans ?_ (congrArg (fun u => (settle u, okReply)) closes)
    have opened : (visitCommand 0x29 s).vsm.visit = some v := visit
    rw [ruleCancelVisit, opened]
    dsimp only
    rcases state with state | state <;> rw [state]
  have flag : isolatedFlag (visitLogged .cancelled v (visitCommand 0x29 s)) = isolatedFlag s := by
    rw [isolatedFlag_visited visit, present]
    rfl
  obtain ⟨t, runs, left⟩ := command_leaves (lengths := len 0) (taken := .running) rfl rfl running ruled
    (SameView.claimKept (s := s) ⟨rfl, rfl, flag, rfl, rfl, rfl, rfl⟩ rfl kept) rfl rfl rfl rfl rfl
  exact ⟨t, congrArg Host.Outcome.next runs, ⟨left.rest .vsm (by decide), left.raised, left.answered, left.settings,
    left.clu, left.trc⟩, sameBut_trans (by exact sameBut_of_eq) (sameBut_mono (by decide) left.rest)⟩

/-- In REQUESTED the SERVICE claim, its CLAIM still queued, goes first. -/
theorem cancelVisit_requested {c : Claim} (inv : Inv s) (online : OnLine s) (visit : s.vsm.visit = some v)
    (requested : v.state = .requested) (claim : s.lva = some c) (service : c.kind = .service)
    (ungranted : c.granted = false) (unsent : c.inWindow = false) (clear : s.link.congestionReported = false) :
    ∃ t, exec (.cancelVisit [0#8]) s = .next t ∧ Cancelled v [0#8, 0#8] s t ∧ t.lva = none ∧ StatusQueued t ∧
      t.link = { s.link with
        coord := s.link.coord.filter fun e => decide (e.msg ≠ .claim .service c.time), status := t.link.status } ∧
      SameBut [.vsm, .lva, .link, .clu, .trc, .hpi] s t := by
  have present : v.state.isolates = false := by rw [requested]; rfl
  have frees : releaseKind .service (visitCommand 0x29 s) = withStatus (claimWithdrawn c (visitCommand 0x29 s)) :=
    releaseService_queued claim service ungranted unsent (sends_of_onLine online) inv.coord
  have closes := closeVisit_present (s := withStatus (claimWithdrawn c (visitCommand 0x29 s))) (l := []) (causes := [])
    visit (outcome := .cancelled) (by decide) present
  rw [told_nil (by exact inv.events)] at closes
  have ruled : ruleCancelVisit [] (visitCommand 0x29 s) = (settle (told [closureTold v .cancelled [0#8, 0#8]]
      (visitLogged .cancelled v (withStatus (claimWithdrawn c (visitCommand 0x29 s))))), okReply) := by
    refine Eq.trans ?_ (congrArg (fun u => (settle u, okReply)) closes)
    have opened : (visitCommand 0x29 s).vsm.visit = some v := visit
    rw [ruleCancelVisit, opened]
    dsimp only
    rw [requested, frees]
  have fresh : StatusQueued (visitLogged .cancelled v (withStatus (claimWithdrawn c (visitCommand 0x29 s)))) := by
    refine statusQueued_of (u := claimWithdrawn c (visitCommand 0x29 s)) rfl rfl rfl ?_ rfl
    rw [isolatedFlag_visited (s := claimWithdrawn c (visitCommand 0x29 s)) visit, present]
    rfl
  obtain ⟨t, runs, left⟩ := command_leaves (lengths := len 0) (taken := .running) rfl rfl online.1 ruled
    (claimKept_none rfl) rfl rfl rfl rfl rfl
  have link : t.link = { (claimWithdrawn c (visitCommand 0x29 s)).link with status := t.link.status } := by
    rw [show t.link = _ from left.rest .link (by decide)]
    rfl
  rw [claimWithdrawn_link service (by exact clear)] at link
  refine ⟨t, congrArg Host.Outcome.next runs, ⟨left.rest .vsm (by decide), left.raised, left.answered, left.settings,
    left.clu, left.trc⟩, left.rest .lva (by decide), left.statusQueued fresh, link,
    sameBut_trans (by exact sameBut_of_eq) (sameBut_mono (by decide) left.rest)⟩

/-! ## Out of ISOLATING (R126, R157, R161) -/

/-- What a visit leaves that goes out of ISOLATING with the given answer to its JOIN. -/
abbrev LeftIsolating (v : Visit) (outcome : VisitOutcome) (answer : Byte) (clu : Clu) (trc : Trc) (s t : State) :
    Prop :=
  t.lva = none ∧ t.link = released s.lva t.link.status s ∧ StatusQueued t ∧
    t.vsm = { s.vsm with visit := none, log := logged (logOf v outcome [] s) s.vsm.log } ∧
    Raised [closureTold v outcome [1#8, answer]] s t ∧ SettingsKept s t ∧ TrcIs trc t ∧
    t.clu = { clu with horn := t.clu.horn, hornTimer := t.clu.hornTimer } ∧
    SameBut [.lva, .link, .vsm, .clu, .trc, .hpi] s t

/-- The part after a visit went out of ISOLATING, with the lines and the transfer coordinator that its JOIN left. -/
def isolationLeft (v : Visit) (outcome : VisitOutcome) (status : Option TxEntry) (clu : Clu) (trc : Trc) (s : State) :
    State :=
  withStatus (visitLogged outcome v (unclaimed status { s with clu := clu, trc := trc }))

section
variable {answer : Byte} {clu : Clu} {trc : Trc} (inv : Inv s) (online : OnLine s) (visit : s.vsm.visit = some v)
  (isolating : v.state = .isolating) (claim : ∀ c, s.lva = some c → c.kind = .service ∧ c.granted = true)
  (room : s.link.coord.length < 8) (horn : clu.horn = s.clu.horn) (hornTimer : clu.hornTimer = s.clu.hornTimer)
include inv online visit isolating claim room horn hornTimer

theorem cancelVisit_leaves
    (joins : requestJoin (visitCommand 0x29 s) = { visitCommand 0x29 s with clu := clu, trc := trc })
    (answers : joinAnswer (visitCommand 0x29 s) = answer) :
    ∃ t, exec (.cancelVisit [0#8]) s = .next t ∧ LeftIsolating v .cancelled answer clu trc s t ∧
      Answered 0x29 [0#8] 0 0 [] t := by
  obtain ⟨status, leaves⟩ := leaveIsolating_told (l := []) (u := visitCommand 0x29 s)
    (u' := { visitCommand 0x29 s with clu := clu, trc := trc }) (outcome := .cancelled) visit isolating (by decide)
    (by rw [told_nil (by exact inv.events), told_nil (by exact inv.events), joins]) (sends_of_onLine online) claim room
  rw [told_nil (by exact inv.events), List.nil_append, answers] at leaves
  have ruled : ruleCancelVisit [] (visitCommand 0x29 s) = (settle (told [closureTold v .cancelled [1#8, answer]]
      (isolationLeft v .cancelled status clu trc (visitCommand 0x29 s))), okReply) := by
    refine Eq.trans ?_ (congrArg (fun u => (settle u, okReply)) leaves)
    have opened : (visitCommand 0x29 s).vsm.visit = some v := visit
    rw [ruleCancelVisit, opened]
    dsimp only
    rw [isolating]
  obtain ⟨t, runs, left⟩ := command_leaves (lengths := len 0) (taken := .running) rfl rfl online.1 ruled
    (claimKept_none rfl) rfl rfl rfl horn hornTimer
  have link := left.rest .link (by decide)
  refine ⟨t, congrArg Host.Outcome.next runs, ⟨left.rest .lva (by decide), ?_, left.statusQueued (statusQueued_of rfl),
    left.rest .vsm (by decide), left.raised, left.settings, left.trc, left.clu,
    sameBut_trans (by exact sameBut_of_eq) (sameBut_mono (by decide) left.rest)⟩, left.answered⟩
  rw [show t.link = _ from link]
  rfl

theorem visitStepTimeout_leaves (timer : v.stepTimer = some 0)
    (joins : requestJoin s = { s with clu := clu, trc := trc }) (answers : joinAnswer s = answer) :
    ∃ t, exec .visitStepTimeout s = .next t ∧ LeftIsolating v .abandoned answer clu trc s t ∧ PortKept s t := by
  obtain ⟨status, leaves⟩ := leaveIsolating_told (l := []) (u := s) (u' := { s with clu := clu, trc := trc })
    (outcome := .abandoned) visit isolating (by decide)
    (by rw [told_nil (by exact inv.events), told_nil (by exact inv.events), joins]) (sends_of_onLine online) claim room
  rw [told_nil (by exact inv.events), List.nil_append, answers] at leaves
  have due_ : visitStepDue s = true := by
    rw [visitStepDue, visit]
    exact due_zero timer
  have state : visitState s = some .isolating := by rw [visitState, visit, Option.map_some, isolating]
  have runs : exec .visitStepTimeout s = .next (settle (leaveIsolating .abandoned [] s)) := by
    show Host.Outcome.next (visitStepTimeout s) = _
    rw [visitStepTimeout, if_pos due_, state]
  rw [leaves] at runs
  obtain ⟨m, runs⟩ := runs_settled_told runs (claimKept_none rfl)
  have port := portKept_told (s := s) (l := [closureTold v .abandoned [1#8, answer]])
    (u := (isolationLeft v .abandoned status clu trc s).modTrc fun t => { t with lastKnown := m }) rfl
  exact ⟨_, runs, ⟨rfl, rfl, statusQueued_of rfl, rfl, raised_told _ ⟨rfl, rfl, rfl, rfl, rfl, rfl, horn, hornTimer⟩,
    port.1, rfl, rfl, sameBut_of_eq⟩, port⟩

end

/-! ## The end of the JOIN switch (R87, R126, R156) -/

theorem feedback_completes {target : Mode} (inv : Inv s) (online : OnLine s) (visit : s.vsm.visit = some v)
    (act : s.trc.activity = .switching target .join) (state : v.state = .restoring) (requested : v.joinRequested = true)
    (timer : s.clu.fb.timer = some 0) (there : rawFeedback s.clu.fb = target.feedback)
    (quiet : target = .inv → s.clu.overload.qual = false ∧ s.clu.maint.qual = false)
    (claim : ∀ c, s.lva = some c → c.kind = .service ∧ c.granted = true) (room : s.link.coord.length < 8) :
    ∃ t, exec .feedbackQualified s = .next t ∧ Completed v s t ∧ Raised (vsmClosed v s).2 s t ∧
      t.lva = none ∧ t.link = released s.lva t.link.status s ∧ StatusQueued t ∧
      TrcIs { s.trc with
        ownMode := target, activity := .none, switchTimer := none
        overloadTimer := if s.trc.ownMode = .inv ∧ target ≠ .inv then none else s.trc.overloadTimer
        splits := if s.trc.ownMode = .inv ∧ target ≠ .inv then Vector.replicate 16 0 else s.trc.splits } t ∧
      t.clu = { s.clu with
        fb := { s.clu.fb with qual := target.feedback, timer := none }
        horn := t.clu.horn, hornTimer := t.clu.hornTimer } ∧
      PortKept s t ∧ SameBut [.vsm, .bau, .lva, .link, .clu, .trc, .hpi] s t := by
  have completes : joinedVisit .join s = some v := by
    rw [joinedVisit, if_pos rfl, visit]
    exact if_pos (show (decide (v.state = .restoring) && v.joinRequested) = true by rw [state, requested]; rfl)
  have unforced : causesAtEnd target s = [] := by
    rw [causesAtEnd]
    refine ite_eq_right_iff.mpr fun comes => ?_
    obtain ⟨overload, maint⟩ := quiet comes.1
    rw [causesAtInv, overload, maint]
    rfl
  have idle : ¬ (ComesToInv target s ∧ s.clu.overload.qual = true) := fun both =>
    absurd ((quiet both.1.1).1.symm.trans both.2) Bool.false_ne_true
  have some_ : joinedVisit .join s ≠ none := by rw [completes]; nofun
  -- The proposal that `feedback_ends` speaks of is that of a planned switch, and this one has none.
  obtain ⟨t, status, runs, left, fresh, -⟩ := feedback_ends (id := ⟨s.own, 0⟩) (dir := .toInverter) inv
    (sends_of_onLine online) there (fun forced => absurd unforced forced) timer (.inl act) (by nofun)
    (fun none_ => absurd none_ some_) fun _ => ⟨room, claim⟩
  have reported := left.reported
  rw [EndReported, completes] at reported
  have raised := left.raised
  rw [endTold, if_neg (by decide), completes, unforced, List.flatMap_nil, List.append_nil] at raised
  refine ⟨t, runs, reported.1, raised, reported.2, ?_, fresh (.inr some_), ?_, ?_, left.port, left.rest⟩
  · refine left.link.trans ?_
    rw [unforced, List.map_nil, List.append_nil, coordAtEnd, completes]
    rfl
  · have trc := left.trc
    rw [trcAtEnd, if_pos unforced, endedOn, if_neg idle] at trc
    exact trc
  · have clu := left.clu
    rw [cluAtEnd, if_pos unforced, feedbackTaken, there] at clu
    exact clu

/-- Settles O26. -/
theorem closeAndCancelActByState : Obligations.CloseAndCancelActByState := by
  refine ⟨fun v s inv running visit => ?_, fun v s inv online visit => ?_, fun v s inv online visit => ?_,
    fun v s inv online visit isolating taken claim room away => ?_, fun s running => unvisited_answers running⟩
  · refine ⟨closeVisit_wrongState running visit, closeVisit_busy running visit, closeVisit_breakers running visit,
      closeVisit_quiet inv running visit, fun isolated kept gap => ?_, fun isolated kept shut =>
      ⟨fun r refused => ?_, fun taken away => ?_⟩⟩
    · obtain ⟨t, runs, vsm, raised, answered, settings, trc, lines, rest⟩ :=
        closeVisit_waits inv running visit isolated kept gap
      exact ⟨t, runs, vsm, raised, answered, settings, lines, trc, rest⟩
    · obtain ⟨t, runs, vsm, raised, answered, settings, trc, lines, rest⟩ :=
        closeVisit_refused inv running visit isolated kept shut refused
      exact ⟨t, runs, vsm, raised, answered, settings, lines, trc, rest⟩
    · exact closeVisit_joins inv running visit isolated kept shut taken away
  · refine ⟨cancelVisit_wrongState online.1 visit, cancelVisit_present inv online.1 visit,
      fun c => cancelVisit_requested inv online visit, fun r isolating refused claim room => ?_⟩
    obtain ⟨stands, answer⟩ := requestJoin_refused (u := visitCommand 0x29 s) ((joinRefusal_eq _).trans refused)
    obtain ⟨t, runs, ⟨lva, link, status, vsm, raised, settings, trc, clu, rest⟩, answered⟩ :=
      cancelVisit_leaves inv online visit isolating claim room rfl rfl stands answer
    refine ⟨t, runs, ⟨vsm, raised, answered, settings, clu, trc⟩, status, lva, ?_, sameBut_mono (by decide) rest⟩
    rw [link]
    cases held : s.lva with
    | none => rfl
    | some c => rw [released, (claim c held).1]
  · exact ⟨closeVisit_completes inv online.1 visit, fun target => feedback_completes inv online visit⟩
  · obtain ⟨joins, answer⟩ := requestJoin_taken (l := []) (u := visitCommand 0x29 s) taken away
    rw [told_nil (by exact inv.events), told_nil (by exact inv.events)] at joins
    refine ⟨cancelVisit_leaves inv online visit isolating claim room rfl rfl joins answer, fun timer => ?_⟩
    obtain ⟨joins, answer⟩ := requestJoin_taken (l := []) taken away
    rw [told_nil inv.events, told_nil (by exact inv.events)] at joins
    exact visitStepTimeout_leaves inv online visit isolating claim room rfl rfl timer joins answer

end Sys2Proof.Machine
end
